-- ==== Sys2Proof/Word.lean ====
section
/-!
DEFINITION. Words of the Farvin FZ-9648: bit-vector abbreviations, tagged words (R46, R47) and the sparse table type
in which the model keeps replicated units.
-/
namespace Sys2Proof

/-- A 64-bit word: a register, an address while it is computed, a field group. -/
abbrev Word := BitVec 64

/-- One byte. -/
abbrev Byte := BitVec 8

/-- A 4-bit tag (R46). -/
abbrev Tag := BitVec 4

/-- A 64-bit word together with its tag (R46, R47). -/
structure TWord where
  val : Word := 0
  tag : Tag := 0
deriving DecidableEq, Repr, Inhabited

/-- A sparse table: entries by number, numbers strictly rising (Machine/Table.lean has its operations). -/
abbrev Tbl (α : Type) := List (Nat × α)

namespace Tag
/-- Tag numbers of R46. -/
def untyped : Tag := 0x0
/-- BINFP (R46). -/
def binfp : Tag := 0x1
/-- DECIMAL (R46). -/
def decimal : Tag := 0x2
/-- TEXT (R46). -/
def text : Tag := 0x3
/-- POINTER (R46). -/
def pointer : Tag := 0x4
/-- CODE (R46). -/
def code : Tag := 0x5
/-- SEALED (R46). -/
def sealedW : Tag := 0x6
/-- RECEIPT (R46). -/
def receipt : Tag := 0x7
/-- TIME (R46). -/
def time : Tag := 0x8
/-- USER (R46). -/
def user : Tag := 0xE
/-- POISON (R46). -/
def poison : Tag := 0xF
end Tag

end Sys2Proof
end

