-- ==== Sys2Proof/Machine/TypesDur.lean ====
section
/-!
DEFINITION. Data of the Journal, the Ledger and the Strongroom (15_journal_ledger.md), of the fault logic
(17_faults.md), of power and Hibernate (18_power_hotplug.md) and of boot (19_bringup.md), as plain types.
-/
namespace Sys2Proof

/-- A string of bytes, lowest address first. -/
abbrev Bytes := List Byte

/-- A journal record (R349); LEN is the length of `payload`. -/
structure JRec where
  jsn : Word := 0
  stamp : Word := 0
  receipt : Word := 0
  domain : Word := 0
  kind : BitVec 8 := 0
  window : BitVec 8 := 0
  status : BitVec 8 := 0
  context : BitVec 8 := 0
  result : Word := 0
  ident : Word := 0
  payload : Bytes := []
deriving DecidableEq, Repr, Inhabited

/-- Where the ACK of a commit goes (R347): the issuing core, its partition, the partition-real address of the
commit descriptor, and NOEVENT. -/
structure AckTo where
  core : Nat := 0
  part : Nat := 0
  addr : Nat := 0
  noEvent : Bool := false
deriving DecidableEq, Repr, Inhabited

/-- A record of the module's own Journal Ring or staging, with what has happened to it. -/
structure JEnt where
  r : JRec := default
  /-- The local Strongroom write is complete (R352). -/
  written : Bool := false
  /-- The Ledger has hashed it (R358). -/
  hashed : Bool := false
  /-- It is acknowledged, or needs no acknowledgement. -/
  acked : Bool := false
  /-- It will never be acknowledged (R377, R394, R419). -/
  never : Bool := false
  /-- The commit acknowledgement it owes (R347). -/
  ack : Option AckTo := none
  /-- The Exchange Table entry whose outcome record it is (R331). -/
  xent : Option Nat := none
  /-- The MSN of its JOURNAL item (R370). -/
  msn : Option Nat := none
  /-- MSN_APPLIED has covered its JOURNAL item. -/
  mirrored : Bool := false
  /-- Its batch has been destaged (R354). -/
  destaged : Bool := false
  /-- END of the seal that it carries (R362). -/
  sealEnd : Option Word := none
  /-- Tick by which that seal is to be durable and mirrored (R362); none once it is. -/
  sealDue : Option Word := none
deriving DecidableEq, Repr, Inhabited

/-- A mirrored record of the partner in a standby's Journal Ring (R371, R372). -/
structure MEnt where
  r : JRec := default
  /-- Applied to the Receipt windows (R371). -/
  applied : Bool := false
  /-- Its feed entry has been posted, or it needs none (R372). -/
  fed : Bool := false
deriving DecidableEq, Repr, Inhabited

/-- A commit that waits for room or for leave to be staged (R345, R377). -/
structure CommitReq where
  to_ : AckTo := default
  /-- Its wait for room has been counted (R345). -/
  counted : Bool := false
deriving DecidableEq, Repr, Inhabited

/-- A seal (R361). -/
structure Seal where
  sag : Bool := false
  synced : Bool := false
  hybrid : Bool := false
  genesis : Bool := false
  resumed : Bool := false
  reset : Bool := false
  epoch : Word := 0
  start : Word := 0
  stop : Word := 0
  records : Word := 0
  changes : Word := 0
  ident : BitVec 128 := 0
  racc : Bytes := []
  cacc : Bytes := []
  prev : Bytes := []
  kcv : Word := 0
  lastJsn : Word := 0
  sigP384 : Bytes := []
  sigMldsa : Bytes := []
deriving DecidableEq, Repr, Inhabited

/-- An end of an epoch that still waits for its records to be hashed before it is sealed (R358). -/
structure EndMark where
  epoch : Word := 0
  start : Word := 0
  stop : Word := 0
  resumed : Bool := false
  sag : Bool := false
  synced : Bool := false
  genesis : Bool := false
  reset : Bool := false
  /-- Tick from which the limit of R362 runs. -/
  due : Word := 0
deriving DecidableEq, Repr, Inhabited

/-- The destage batch under assembly or under way (R354). -/
structure Batch where
  number : Nat := 0
  firstJsn : Word := 0
  lastJsn : Word := 0
  rawLen : Nat := 0
  count : Nat := 0
  /-- Exchange Table entry of the COMMIT exchange that carries it. -/
  xent : Option Nat := none
  /-- Its records are mirrored ones that a takeover left to this module (R379). -/
  partner : Bool := false
deriving DecidableEq, Repr, Inhabited

/-- One event of a fault source on its way to the fault logic (R388): source, event, stamp, injected. -/
structure FltEv where
  src : Nat := 0
  ev : Nat := 0
  tick : Word := 0
  forced : Bool := false
deriving DecidableEq, Repr, Inhabited

/-- A firmware bank of the firmware store (R430, R431). -/
structure FwImage where
  headerOk : Bool := false
  part : BitVec 16 := 0
  rev : BitVec 32 := 0
  sigsOk : Bool := false
deriving DecidableEq, Repr, Inhabited

/-- Steps of the Hibernate sequence (R419) and what follows it (R422, R425). -/
inductive HibPhase where
  | idle | waitPromote | stopped | records | sealed | off
deriving DecidableEq, Repr, Inhabited

/-- Stages of a removal (R415): steps 3 (drain) and 4–5 under way, done. -/
inductive DrainPhase where
  | none | draining | imaging | done
deriving DecidableEq, Repr, Inhabited

end Sys2Proof
end

