-- ==== Sys2Proof/Machine/TypesHost.lean ====
section
/-!
DEFINITION. Data of the host interface (09_host_interface.md), of partitions (10_partitions.md) and of the request
queues of the Partition Control Page (11_crypto_complex.md, 12_compression_mover.md, 14_channel_exchanges.md), as
plain types.
-/
namespace Sys2Proof

/-- A submission descriptor (R203): the word at 0x00 (OPCODE, CLASS, NOINT, CID, ARG), RECEIPT, ENTRY[0..2]. -/
structure Desc where
  w0 : Word := 0
  receipt : Word := 0
  e0 : BitVec 128 := 0
  e1 : BitVec 128 := 0
  e2 : BitVec 128 := 0
deriving DecidableEq, Repr, Inhabited

/-- States of a Work Order Table entry (R218, R219). -/
inductive WoSt where
  | free | reserved | reading | delivered | posting | attached | held | orphan
deriving DecidableEq, Repr, Inhabited

/-- The host read that a Work Order Table entry waits for (R205, R207, R217): none, its descriptor in SQ slot `slot`,
a chain run (address and number of descriptors, hops followed, entries read so far), the SEG_IN buffers, or the same run
read again for the response. -/
inductive WoRead where
  | none
  | desc (slot : Nat)
  | chain (addr : Word) (ndesc : Nat) (hops : Nat) (ents : List (BitVec 128))
  | segs
  | reread (addr : Word) (ndesc : Nat) (hops : Nat) (ents : List (BitVec 128))
deriving DecidableEq, Repr, Inhabited

/-- A Work Order Table entry (R219). -/
structure WoEnt where
  state : WoSt := .free
  port : Nat := 0
  fn : Nat := 0
  qp : Nat := 0
  part : Nat := 0
  solo : Bool := false
  dup : Bool := false
  sagResumed : Bool := false
  next : Option Nat := none
  admitted : Word := 0
  desc : Desc := default
  chainCrc : BitVec 32 := 0
  segIn : Nat := 0
  segOut : Nat := 0
  inbox : Word := 0
  result : Word := 0
  status : BitVec 8 := 0
  orig : BitVec 8 := 0
  outLen : BitVec 32 := 0
  /-- The host read outstanding. -/
  rd : WoRead := .none
  /-- The Work Inbox slot that holds it. -/
  slot : Option Nat := none
  /-- The response bytes to be sent once the chain has been read again (R217). -/
  resp : List Byte := []
  /-- SEG_OUT segments that take it: host address and length. -/
  outs : List (Word × Nat) := []
deriving DecidableEq, Repr, Inhabited

/-- States of a host queue pair (R220). -/
inductive QpMode where
  | disabled | active | halted | frozen | resetting
deriving DecidableEq, Repr, Inhabited

/-- A host queue pair: its set-up registers (R202), indices and interrupt coalescing (R216). -/
structure Qp where
  mode : QpMode := .disabled
  cause : Nat := 0
  phase : Bool := true
  /-- QBASE_SQ and QBASE_CQ. -/
  sqBase : Word := 0
  cqBase : Word := 0
  /-- QCFG (reset: SQ_LOG2 6, CQ_LOG2 6, COAL_COUNT 1). -/
  cfg : Word := 0x01000606
  sqHead : Nat := 0
  sqFetch : Nat := 0
  sqTail : Nat := 0
  cqHead : Nat := 0
  cqTail : Nat := 0
  unsignalled : Nat := 0
  /-- Device Time of the first unsignalled completion. -/
  firstUnsig : Option Word := none
  /-- The reset came from a function reset: the set-up registers return to reset values at DISABLED (R220). -/
  fnReset : Bool := false
  /-- The descriptor that waits for its bound, already counted in PART_BP.WO (R231). -/
  waitCounted : Bool := false
deriving DecidableEq, Repr, Inhabited

/-- MSI-X state of one function (R199, R201). -/
structure Msix where
  enabled : Bool := false
  fnMask : Bool := false
  unmasked : List Nat := []
  pending : List Nat := []
  table : Tbl Word := []
deriving DecidableEq, Repr, Inhabited

/-- States of a mailbox (R243). -/
inductive MbSt where
  | idle | posted | done
deriving DecidableEq, Repr, Inhabited

/-- A mailbox (R242). -/
structure Mbox where
  msg : Tbl Word := []
  ackStatus : BitVec 8 := 0
  ackDetail : BitVec 8 := 0
  state : MbSt := .idle
  len : Nat := 0
  ignored : Nat := 0
deriving DecidableEq, Repr, Inhabited

/-- The outcome of one sequence of a Receipt window (R209): pending in a Work Order Table or Exchange Table entry, or
completed, or marked committed by a commit. -/
inductive ROut where
  | pending (entry : Nat)
  | done (status : BitVec 8) (result : Word) (solo sag committed : Bool) (jsn : Word)
deriving DecidableEq, Repr, Inhabited

/-- A Receipt window (R209, R338): high-water, outcomes by sequence, LOSSY mark (R355). `high` is one above the
high-water, 0 while no sequence has been accepted. -/
structure RWin where
  high : Nat := 0
  outs : Tbl ROut := []
  lossy : Bool := false
deriving DecidableEq, Repr, Inhabited

/-- What a Work Inbox slot holds (R235, R237): host work (Work Order Table entry), an inbound MESSAGE or ATTENTION
(Exchange Table entry), a feed entry (JSN), a final completion or a restored exchange (Exchange Table entry). -/
inductive InKind where
  | work (entry : Nat)
  | message (entry : Nat)
  | attention
  | feed (jsn : Word)
  | xcomplete (entry : Nat)
  | xrestore (entry : Nat)
deriving DecidableEq, Repr, Inhabited

/-- A taken Work Inbox slot. -/
structure InSlot where
  kind : InKind := .attention
  claimed : Bool := false
deriving DecidableEq, Repr, Inhabited

/-- The Work Inbox of one partition (R235–R237): taken slots, delivered and unclaimed slots oldest first, FILL counts,
service entries that wait for a slot, oldest first. -/
structure Inbox where
  slots : Tbl InSlot := []
  order : List Nat := []
  fill : Tbl Word := []
  waiting : List (InKind × Word)  := []
deriving DecidableEq, Repr, Inhabited

/-- States of a request queue in a Partition Control Page (R270, R284, R326). -/
inductive PqMode where
  | disabled | active | halted | resetting
deriving DecidableEq, Repr, Inhabited

/-- A crypto, compression or exchange start queue: registers and indices. -/
structure Pq where
  mode : PqMode := .disabled
  cause : Nat := 0
  phase : Bool := true
  base : Word := 0
  log2 : Nat := 6
  head : Nat := 0
  tail : Nat := 0
  cHead : Nat := 0
  cTail : Nat := 0
  /-- Requests fetched and not yet completed. -/
  outstanding : Nat := 0
  /-- The core whose doorbell first covered each waiting slot (R267). -/
  ringers : Tbl Nat := []
  /-- A FENCE request is outstanding. -/
  fenced : Bool := false
  /-- The request at the head has been counted in PART_BP (R231). -/
  waitCounted : Bool := false
deriving DecidableEq, Repr, Inhabited

end Sys2Proof
end

