-- ==== Sys2Proof/Machine/TypesChan.lean ====
section
/-!
DEFINITION. Data of the link layer (13_channel_links.md), the exchanges (14_channel_exchanges.md), the Key Vault and
the crypto requests (11_crypto_complex.md), compression requests and Mover runs (12_compression_mover.md), and of the
Courier items (16_duplex.md), as plain types.
-/
namespace Sys2Proof

/-- States of an Exchange Table entry (R330). -/
inductive XtSt where
  | free | issued | acked | data | done | pathWait | cancelling
deriving DecidableEq, Repr, Inhabited

/-- An attached duplicate of an inbound request, or an attached CANCEL (R336, R339): where its answer goes. -/
structure Dup where
  port : Nat := 0
  xid : Nat := 0
  attempt : Nat := 0
  xtype : Nat := 0
  receipt : Word := 0
deriving DecidableEq, Repr, Inhabited

/-- An Exchange Table entry (R330), with the working facts of the exchange layer behind it. -/
structure XtEnt where
  state : XtSt := .free
  inbound : Bool := false
  xtype : Nat := 0
  cls : Nat := 0
  ctx : Nat := 0
  port : Nat := 0
  attempt : Nat := 0
  group : Nat := 0
  queue : Nat := 0
  rounds : Nat := 0
  slot : Nat := 0
  receipt : Word := 0
  domain : Word := 0
  address : Word := 0
  user : Word := 0
  /-- OUT_ADDR; for inbound, the Work Inbox slot. -/
  outAddr : Word := 0
  outLen : Nat := 0
  peerXid : Nat := 0
  inAddr : Word := 0
  inLen : Nat := 0
  got : Nat := 0
  admitted : Word := 0
  /-- Timer deadline; none while stopped. -/
  deadline : Option Word := none
  result : Word := 0
  status : BitVec 8 := 0
  orig : BitVec 8 := 0
  redrives : Nat := 0
  solo : Bool := false
  dup : Bool := false
  sagResumed : Bool := false
  next : Option Nat := none
  cancelOf : Option Nat := none
  /-- NOEVENT of the start. -/
  noEvent : Bool := false
  /-- Attached to another open exchange (R334). -/
  attachedTo : Option Nat := none
  /-- LENGTH that the response announced. -/
  rspLen : Nat := 0
  /-- IN stopped being MAPPED while response data arrived (R342). -/
  inLost : Bool := false
  /-- The response exceeds IN_LEN (R329). -/
  tooBig : Bool := false
  /-- Ports on which the current round has timed out (R334). -/
  tried : List Nat := []
  /-- Restored after Hibernate or takeover: the final completion goes to the Work Inbox (R378, R437). -/
  restored : Bool := false
  /-- Its start queue was reset: no completion is written (R342). -/
  noCompl : Bool := false
  /-- Data of a request of context 0 (destage, migration), which has no partition memory behind it. -/
  ctxData : Bytes := []
  /-- Attached duplicates of an inbound request (R339). -/
  dups : List Dup := []
  /-- An interim completion waits for a completion slot (R335). -/
  interim : Bool := false
  /-- OPCODE of an inbound request's ADDRESS. -/
  opcode : Nat := 0
  /-- The outcome record's JSN while it is awaited (R331). -/
  outcome : Option Word := none
  /-- Payload of an inbound request under reassembly is in the inbox slot; LENGTH of the request. -/
  reqLen : Nat := 0
  /-- The processor that started it (R238). -/
  starter : Nat := 0
  /-- Restored, and its request data is not back in partition memory (R437). -/
  wait : Bool := false
  /-- A CANCEL that the module started for a restored exchange (R437): it has no completion of its own. -/
  own : Bool := false
deriving DecidableEq, Repr, Inhabited

/-- What the peer window records for a sequence (R338, R339). -/
inductive POut where
  | pending (entry : Nat)
  | done (status orig : BitVec 8) (result : Word) (solo committed : Bool) (jsn : Word)
deriving DecidableEq, Repr, Inhabited

/-- A peer window (R338): its (DOMAIN, source), the tick of its last request, high-water (one above; 0 for none),
outcomes and LOSSY. -/
structure PWin where
  domain : Word := 0
  source : Nat := 0
  last : Word := 0
  high : Nat := 0
  outs : Tbl POut := []
  lossy : Bool := false
deriving DecidableEq, Repr, Inhabited

/-- A Key Vault record (R257, R258). -/
structure VRec where
  gen : BitVec 32 := 0
  type_ : BitVec 8 := 0
  param : BitVec 8 := 0
  usage : BitVec 16 := 0
  material : Bytes := []
  label : Word := 0
  kcv : Word := 0
  created : Word := 0
  destroying : Bool := false
deriving DecidableEq, Repr, Inhabited

/-- A change of the Key Vault on its way to durability (R260): key, record (none: erasure), acknowledgement wanted
from the partner, and what it completes. -/
inductive VFor where
  | request (slot : Nat)
  | command (entry : Nat)
  | domain (q : Nat)
deriving DecidableEq, Repr, Inhabited

/-- A pending vault change. -/
structure VChange where
  dom : Nat := 0
  index : Nat := 0
  rec_ : Option VRec := none
  why : VFor := .domain 0
  msn : Option Nat := none
deriving DecidableEq, Repr, Inhabited

/-- Stages of a crypto or compression request that has been fetched. -/
inductive ReqStage where
  | waiting | running | durable
deriving DecidableEq, Repr, Inhabited

/-- A fetched request: its queue and slot, its words, its engine, attempts that failed, and, while it waits for
durability or runs, the outcome found so far (R252, R279, R284). -/
structure Req where
  part : Nat := 0
  queue : Nat := 0
  slot : Nat := 0
  words : List TWord := []
  stage : ReqStage := .waiting
  /-- The queue was reset: neither completion nor event (R270). -/
  dropped : Bool := false
  engine : Nat := 0xFF
  engine2 : Option Nat := none
  errors : Nat := 0
  starter : Nat := 0
  /-- Outcome that waits for durability: STATUS, RESULT, OUT_LEN, ECLK. -/
  status : BitVec 8 := 0
  result : Word := 0
  outLen : Nat := 0
  eclk : Nat := 0
  /-- Place in the order of fetching. -/
  order : Nat := 0
deriving DecidableEq, Repr, Inhabited

/-- A pending combination of key components (R276). -/
structure Combo where
  count : Nat := 0
  type_ : BitVec 8 := 0
  param : BitVec 8 := 0
  parts : Tbl Bytes := []
  first : Word := 0
deriving DecidableEq, Repr, Inhabited

/-- A Mover run in progress (R290–R294). -/
structure MovRun where
  src : Nat := 0
  dst : Nat := 0
  count : Nat := 0
  owner : Nat := 0
  crcSel : Nat := 0
  append : Bool := false
  noEvent : Bool := false
  done : Nat := 0
  crc : Word := 0
  starter : Nat := 0
  abort : Bool := false
  fail : Bool := false
  /-- The PART_MVSLOT write that waits for DONE (R227): register and value. -/
  leave : Option (Nat × Word) := none
deriving DecidableEq, Repr, Inhabited

/-- HELLO (R369): identity, HOLDS, STRAP_ROLE. TGEN is in the item. -/
structure Hello where
  ident : BitVec 128 := 0
  holds : Bool := false
  role : Bool := false
deriving DecidableEq, Repr, Inhabited

/-- HEARTBEAT payload (R374). -/
structure Beat where
  tSend : Word := 0
  tEcho : Word := 0
  tHold : Word := 0
  state : Nat := 0
  holds : Bool := false
  broken : Bool := false
  sideHeard : Bool := false
  degraded : Bool := false
  msnApplied : Nat := 0
  destaged : Word := 0
  epoch : Word := 0
deriving DecidableEq, Repr, Inhabited

/-- Content of a SNAPSHOT item (R382): a Key Vault record, a PART instance register, a Work Order Table or Exchange
Table entry, a host or peer Receipt window, or a seal of the Ledger anchors. -/
inductive Snap where
  | vault (dom index : Nat) (r : VRec)
  | partReg (addr : Nat) (v : Word)
  | workOrder (index : Nat) (e : WoEnt)
  | exchange (index : Nat) (e : XtEnt)
  | hostWin (key : Nat) (w : RWin)
  | peerWin (part : Nat) (w : PWin)
  | anchor (s : Seal)
deriving DecidableEq, Repr, Inhabited

/-- The architectural state of one processor (R57, R60): G and F registers, control registers C0–C31 and hardware
loop registers by number, CC, FPSR, loop depth, PSW0, PC. -/
structure Arch where
  g : Tbl TWord := []
  f : Tbl Word := []
  c : Tbl Word := []
  lstart : Tbl Word := []
  lend : Tbl Word := []
  lcount : Tbl Word := []
  cc : BitVec 2 := 0
  fpsr : Word := 0
  depth : Nat := 0
  psw0 : Word := 1
  pc : Word := 0
deriving DecidableEq, Repr, Inhabited

/-- A processor-state image in the PAIR_CKPT layout (R37, R240, R246): architectural state and window sequence. -/
structure ProcImg where
  a : Arch := {}
  /-- Latched events pending at the fence (PAIR_CKPT 0x510). -/
  latched : Word := 0
  seq : Word := 0
deriving DecidableEq, Repr, Inhabited

/-- A Partition Image (R246) as its sections. -/
structure PImage where
  part : Nat := 0
  rdomain : Word := 0
  ident : BitVec 128 := 0
  regs : Tbl Word := []
  hslots : List Nat := []
  cslots : List Nat := []
  procs : List (Nat × ProcImg) := []
  winHeads : Tbl Nat := []
  hostWins : Tbl RWin := []
  /-- Peer windows and the Work Inbox, which move with the partition's memory. -/
  peerWins : List PWin := []
  inbox : Inbox := default
  exchanges : List (Nat × XtEnt) := []
  workOrders : List (Nat × WoEnt) := []
  keys : List (Nat × VRec) := []
  position : Word := 0
  sigOk : Bool := false
  /-- Every key block unwraps under the Migration Key (R248). -/
  keysOk : Bool := true
deriving DecidableEq, Repr, Inhabited

/-- A migration transfer (R249). -/
inductive Mig where
  | memory (part : Nat) (addr : Nat) (words : List TWord)
  | journal (part : Nat) (recs : List JRec)
  | image (img : PImage)
  | status (part : Nat)
deriving DecidableEq, Repr, Inhabited

/-- Content of a Courier item, by KIND (R369). -/
inductive CBody where
  | journal (r : JRec)
  | workOrder (index : Nat) (e : WoEnt)
  | exchange (index : Nat) (e : XtEnt)
  | partWrite (addr : Nat) (v : Word)
  | vault (dom index : Nat) (r : Option VRec)
  | snapshot (c : Snap)
  | snapshotEnd
  | migrate (m : Mig)
  | migrateRsp (m : Mig) (status : BitVec 8) (result : Word)
  | hello (h : Hello)
  | heartbeat (b : Beat)
  | mirrorAck (msn : Nat)
  | goodbye (reason : Nat)
  | mailbox (words : List Word) (len : Nat)
  | mailboxAck (status detail : BitVec 8) (words : List Word)
deriving DecidableEq, Repr, Inhabited

/-- A Courier item: MSN for VL3 items, CONTEXT, TGEN of the sender, content (R369). -/
structure CItem where
  msn : Nat := 0
  ctx : Nat := 0
  tgen : BitVec 32 := 0
  body : CBody := .snapshotEnd
deriving DecidableEq, Repr, Inhabited

/-- What a DATA frame carries: payload bytes (channel ports) or a Courier item (Courier lanes). -/
inductive FBody where
  | bytes (b : Bytes)
  | item (i : CItem)
deriving DecidableEq, Repr, Inhabited

/-- A DATA frame that waits for transmission or is held for replay (R299, R302). -/
structure TxF where
  vl : Nat := 0
  xh0 : Word := 0
  xh1 : Word := 0
  body : FBody := .bytes []
  /-- Exchange Table entry it belongs to, whether it is the last frame, and its context. -/
  xt : Option Nat := none
  last : Bool := false
  ctx : Nat := 0
deriving DecidableEq, Repr, Inhabited

/-- A received or sent frame (R299). For LINIT, LACK and LDOWN the payload is in `body`. -/
structure Frame where
  version : Nat := 1
  ftype : Nat := 0
  vl : Nat := 0
  ackv : Bool := true
  crv : Bool := true
  seq : BitVec 16 := 0
  ackseq : BitVec 16 := 0
  credit : List (BitVec 16) := []
  xh0 : Word := 0
  xh1 : Word := 0
  body : FBody := .bytes []
deriving DecidableEq, Repr, Inhabited

/-- Link layer of one channel port or Courier lane (R302–R310); STATE, locks, counters, peer identity and
capabilities are its CHP (or DPX_LANE) registers. -/
structure LinkSt where
  /-- The port's own current NONCE (R309). -/
  nonce : BitVec 32 := 0
  /-- The peer's NONCE last acknowledged by LACK. -/
  peerNonce : Option (BitVec 32) := none
  /-- The NONCE for which ID_MISMATCH has been counted (R308). -/
  badNonce : Option (BitVec 32) := none
  lackSent : Bool := false
  /-- Reason 11 holds (R308). -/
  mismatch : Bool := false
  /-- Cumulative limits granted by the peer, and CONSUMED (R307). -/
  limit : List (BitVec 16) := [0, 0, 0, 0]
  consumed : List (BitVec 16) := [0, 0, 0, 0]
  /-- Limits from the peer's LINIT, taken at ACTIVE. -/
  linitLimit : List (BitVec 16) := [0, 0, 0, 0]
  /-- Limits granted to the peer. -/
  granted : List (BitVec 16) := [0, 0, 0, 0]
  nextTx : BitVec 16 := 0
  acked : BitVec 16 := 0xFFFF
  nextRx : BitVec 16 := 0
  replayRun : Nat := 0
  nakSent : Bool := false
  owesAck : Bool := false
  /-- Unacknowledged DATA frames, oldest first. -/
  held : List (BitVec 16 × TxF) := []
  /-- Frames of `held` still to be sent again. -/
  replay : Nat := 0
  /-- The frame whose admission wait has been counted (R231). -/
  bpSeq : Option (BitVec 16) := none
  /-- Frames accepted since the last acknowledgement sent (R304). -/
  unacked : Nat := 0
  /-- DATA frames waiting for transmission, oldest first. -/
  queue : List TxF := []
  /-- Deficit counters of VL1 and VL2 (R306). -/
  drr1 : Int := 0
  drr2 : Int := 0
  /-- T_SEND of the last heartbeat heard on this lane, and when it was heard (R373). -/
  beat : Option (Word × Word) := none
deriving DecidableEq, Repr, Inhabited

end Sys2Proof
end

