-- ==== Sys2Proof/Machine/TypesCmd.lean ====
section
/-!
DEFINITION. Operand types of the commands (Syntax.lean).
-/
namespace Sys2Proof

/-- Who writes a management register (R363, R446). -/
inductive Writer where
  | steward | pf0A | pf0B
deriving DecidableEq, Repr, Inhabited

/-- What a host or Steward write that has no row of its own aims at: a management register by address in the management
space, an offset of a function page (R199), or the MSI-X enable and function mask of a function. -/
inductive MTgt where
  | reg (addr : BitVec 28)
  | page (port : Fin 2) (fn : Fin 64) (off : BitVec 16)
  | msixCtl (port : Fin 2) (fn : Fin 64)
deriving DecidableEq, Repr, Inhabited

/-- The mailboxes of R241 by sender: PF0 of a port, VF v of a port, partition q (to Steward firmware), the partner (to
this module's Steward firmware) and this module's own to the partner. -/
inductive MbId where
  | pf (port : Fin 2)
  | vf (port : Fin 2) (v : Fin 64)
  | part (q : Fin 64)
  | partnerIn
  | partnerOut
deriving DecidableEq, Repr, Inhabited

/-- The straps (R429). -/
structure Straps where
  split : Bool := false
  role : Bool := false
  boot : BitVec 2 := 0
deriving DecidableEq, Repr, Inhabited

/-- Facts of the outside world that a boot stage's completion reports (R432): HBM3 stacks trained, pairs whose spare
or fenced test failed, engines whose test passed, PCI Express links in L0 (port, speed, width). -/
structure BootFacts where
  hbm0 : Bool := true
  hbm1 : Bool := true
  failedPairs : List Nat := []
  passedPairs : List Nat := []
deriving DecidableEq, Repr, Inhabited

/-- The image that the boot ROM reads for a recovery message (R434), none on a host read fault, and its length. -/
structure RecImage where
  image : Option FwImage := none
  lengthOk : Bool := true
deriving DecidableEq, Repr, Inhabited

/-- How a sag is detected (R416). -/
inductive SagKind where
  | vin | sagN | vaux
deriving DecidableEq, Repr, Inhabited

/-- Result of checking one sector or tag sector (R177, R180): good, corrected, uncorrectable. -/
inductive ChkRes where
  | good | corrected | uncorrectable
deriving DecidableEq, Repr, Inhabited

/-- Check results of a line read (R178): its four data sectors and its tag sector. -/
structure SectorChk where
  d0 : ChkRes := .good
  d1 : ChkRes := .good
  d2 : ChkRes := .good
  d3 : ChkRes := .good
  tags : ChkRes := .good
deriving DecidableEq, Repr, Inhabited

/-- Host reads that a PF0 key command needs beyond its descriptor (R204, R275): chain entries and SEG_IN bytes, or a
host read fault. -/
inductive HostRd where
  | ok (ents : List (BitVec 128)) (data : Bytes)
  | fault
deriving DecidableEq, Repr, Inhabited

/-- An external operation of a processor (R32): a Partition Control Page read, an atomic, or a SYNC read of a Mover
slot. -/
inductive ExtOp where
  | iold (addr : Word)
  | mvsync (slot : BitVec 5)
  | atomic (fn : BitVec 5) (va : Word) (b : TWord) (d : TWord)
deriving DecidableEq, Repr, Inhabited

/-- A patch image as the load engine reads it (R143): header facts, vendor-key and signature results, match entries and words. -/
structure PatchImg where
  headerOk : Bool := true
  part : BitVec 16 := 0
  romId : BitVec 32 := 0
  rev : BitVec 32 := 0
  keyOk : Bool := true
  sigOk : Bool := true
  matches_ : List Word := []
  words : List (BitVec 144) := []
deriving DecidableEq, Repr, Inhabited

end Sys2Proof
end

