-- ==== Sys2Proof/Syntax.lean ====
section
/-!
DEFINITION. The commands of the block: one constructor per row of spec/opcode_table.json, with the operands that the
row's rule gives it. Register and immediate fields have the widths of their encoding (R86–R90); unit numbers are
bounded by the full (FZ-9648) layout, absent units following R3.
-/
namespace Sys2Proof

/-- The commands, in the order of the table. -/
inductive Instr where
  /-- ADD (R97): Adds Ga and Gb modulo 2^64 under the add tag rules. -/
  | add (c : Fin 96) (d a b : BitVec 5)
  /-- SUB (R97): Subtracts Gb from Ga modulo 2^64 under the add tag rules. -/
  | sub (c : Fin 96) (d a b : BitVec 5)
  /-- ADDU (R110): Unsigned add that sets the carry form of CC. -/
  | addu (c : Fin 96) (d a b : BitVec 5)
  /-- SUBU (R110): Unsigned subtract that sets the borrow form of CC. -/
  | subu (c : Fin 96) (d a b : BitVec 5)
  /-- ADDC (R110): Adds Ga, Gb and CC[1] and sets the carry form of CC. -/
  | addc (c : Fin 96) (d a b : BitVec 5)
  /-- SUBB (R110): Subtracts Gb and CC[1] from Ga and sets the borrow form of CC. -/
  | subb (c : Fin 96) (d a b : BitVec 5)
  /-- MUL (R111): Writes the low 64 bits of the product. -/
  | mul (c : Fin 96) (d a b : BitVec 5)
  /-- MULH (R111): Writes the high 64 bits of the signed product. -/
  | mulh (c : Fin 96) (d a b : BitVec 5)
  /-- MULHU (R111): Writes the high 64 bits of the unsigned product. -/
  | mulhu (c : Fin 96) (d a b : BitVec 5)
  /-- MULW (R111): Writes the signed 128-bit product to a register pair. -/
  | mulw (c : Fin 96) (d a b : BitVec 5)
  /-- MULWU (R111): Writes the unsigned 128-bit product to a register pair. -/
  | mulwu (c : Fin 96) (d a b : BitVec 5)
  /-- DIV (R112): Signed divide on the shared divider, raising Divide on zero or overflow. -/
  | div (c : Fin 96) (d a b : BitVec 5)
  /-- DIVU (R112): Unsigned divide on the shared divider. -/
  | divu (c : Fin 96) (d a b : BitVec 5)
  /-- REM (R97): Signed remainder with the sign of Ga. -/
  | rem (c : Fin 96) (d a b : BitVec 5)
  /-- REMU (R97): Unsigned remainder. -/
  | remu (c : Fin 96) (d a b : BitVec 5)
  /-- AND (R97): Bitwise AND under the logical tag rules. -/
  | andd (c : Fin 96) (d a b : BitVec 5)
  /-- OR (R97): Bitwise OR under the logical tag rules. -/
  | orr (c : Fin 96) (d a b : BitVec 5)
  /-- XOR (R97): Bitwise XOR under the logical tag rules. -/
  | xorr (c : Fin 96) (d a b : BitVec 5)
  /-- ANDN (R97): Computes Ga AND NOT Gb. -/
  | andn (c : Fin 96) (d a b : BitVec 5)
  /-- NOT (R97): Bitwise complement of Ga. -/
  | nott (c : Fin 96) (d a b : BitVec 5)
  /-- SHL (R97): Shifts Ga left by Gb[5:0]. -/
  | shl (c : Fin 96) (d a b : BitVec 5)
  /-- SHR (R97): Shifts Ga right logically by Gb[5:0]. -/
  | shr (c : Fin 96) (d a b : BitVec 5)
  /-- SRA (R97): Shifts Ga right arithmetically by Gb[5:0]. -/
  | sra (c : Fin 96) (d a b : BitVec 5)
  /-- ROTL (R97): Rotates Ga left by Gb[5:0]. -/
  | rotl (c : Fin 96) (d a b : BitVec 5)
  /-- CMP (R97): Signed compare setting CC. -/
  | cmp (c : Fin 96) (d a b : BitVec 5)
  /-- CMPU (R97): Unsigned compare setting CC. -/
  | cmpu (c : Fin 96) (d a b : BitVec 5)
  /-- MOV (R97): Copies Ga with its tag to Gd. -/
  | mov (c : Fin 96) (d a b : BitVec 5)
  /-- CLZ (R97): Counts leading zeros of Ga. -/
  | clz (c : Fin 96) (d a b : BitVec 5)
  /-- CTZ (R97): Counts trailing zeros of Ga. -/
  | ctz (c : Fin 96) (d a b : BitVec 5)
  /-- POPC (R97): Counts one bits of Ga. -/
  | popc (c : Fin 96) (d a b : BitVec 5)
  /-- SEXTB (R97): Sign-extends Ga[7:0]. -/
  | sextb (c : Fin 96) (d a b : BitVec 5)
  /-- SEXTH (R97): Sign-extends Ga[15:0]. -/
  | sexth (c : Fin 96) (d a b : BitVec 5)
  /-- SEXTW (R97): Sign-extends Ga[31:0]. -/
  | sextw (c : Fin 96) (d a b : BitVec 5)
  /-- MIN (R97): Signed minimum. -/
  | min (c : Fin 96) (d a b : BitVec 5)
  /-- MAX (R97): Signed maximum. -/
  | max (c : Fin 96) (d a b : BitVec 5)
  /-- MINU (R97): Unsigned minimum. -/
  | minu (c : Fin 96) (d a b : BitVec 5)
  /-- MAXU (R97): Unsigned maximum. -/
  | maxu (c : Fin 96) (d a b : BitVec 5)
  /-- TXUP (R97): Converts lower-case ASCII bytes of a TEXT word to upper case. -/
  | txup (c : Fin 96) (d a b : BitVec 5)
  /-- TXLOW (R97): Converts upper-case ASCII bytes of a TEXT word to lower case. -/
  | txlow (c : Fin 96) (d a b : BitVec 5)
  /-- MOVS (R54): Moves a SEALED word between registers. -/
  | movs (c : Fin 96) (d a b : BitVec 5)
  /-- GETTAG (R101): Writes the tag number of Ga to Gd. -/
  | gettag (c : Fin 96) (d a b : BitVec 5)
  /-- SETTAG (R101): Writes the value of Ga to Gd with the tag named in Gb. -/
  | settag (c : Fin 96) (d a b : BitVec 5)
  /-- RCPT (R101): Forms a RECEIPT word from the partition, a source and a sequence. -/
  | rcpt (c : Fin 96) (d a b : BitVec 5)
  /-- ADDI (R98): Adds a sign-extended immediate. -/
  | addi (c : Fin 96) (d a : BitVec 5) (imm : BitVec 15)
  /-- ANDI (R98): ANDs a zero-extended immediate. -/
  | andi (c : Fin 96) (d a : BitVec 5) (imm : BitVec 15)
  /-- ORI (R98): ORs a zero-extended immediate. -/
  | ori (c : Fin 96) (d a : BitVec 5) (imm : BitVec 15)
  /-- XORI (R98): XORs a zero-extended immediate. -/
  | xori (c : Fin 96) (d a : BitVec 5) (imm : BitVec 15)
  /-- CMPI (R98): Signed compare with an immediate. -/
  | cmpi (c : Fin 96) (d a : BitVec 5) (imm : BitVec 15)
  /-- CMPUI (R98): Unsigned compare with an immediate. -/
  | cmpui (c : Fin 96) (d a : BitVec 5) (imm : BitVec 15)
  /-- SHI (R98): Shifts or rotates by an immediate amount. -/
  | shi (c : Fin 96) (d a : BitVec 5) (imm : BitVec 15)
  /-- INS16 (R98): Inserts a 16-bit immediate into one field of Gd. -/
  | ins16 (c : Fin 96) (d : BitVec 5) (rsv k : BitVec 2) (imm : BitVec 16)
  /-- MOVI (R98): Loads a sign-extended 20-bit immediate. -/
  | movi (c : Fin 96) (d : BitVec 5) (imm : BitVec 20)
  /-- LA (R98): Forms a POINTER address from a base and immediate. -/
  | la (c : Fin 96) (d a : BitVec 5) (imm : BitVec 15)
  /-- LD (R99): Loads an 8-byte word with its tag. -/
  | ld (c : Fin 96) (d a : BitVec 5) (imm : BitVec 15)
  /-- ST (R99): Stores an 8-byte word with its tag through the Pair Store Gate. -/
  | st (c : Fin 96) (d a : BitVec 5) (imm : BitVec 15)
  /-- LB (R51): Loads a sign-extended byte field. -/
  | lb (c : Fin 96) (d a : BitVec 5) (imm : BitVec 15)
  /-- LBU (R51): Loads a zero-extended byte field. -/
  | lbu (c : Fin 96) (d a : BitVec 5) (imm : BitVec 15)
  /-- LH (R51): Loads a sign-extended 2-byte field. -/
  | lh (c : Fin 96) (d a : BitVec 5) (imm : BitVec 15)
  /-- LHU (R51): Loads a zero-extended 2-byte field. -/
  | lhu (c : Fin 96) (d a : BitVec 5) (imm : BitVec 15)
  /-- LW (R51): Loads a sign-extended 4-byte field. -/
  | lw (c : Fin 96) (d a : BitVec 5) (imm : BitVec 15)
  /-- LWU (R51): Loads a zero-extended 4-byte field. -/
  | lwu (c : Fin 96) (d a : BitVec 5) (imm : BitVec 15)
  /-- SB (R51): Stores a byte field keeping the word tag. -/
  | sb (c : Fin 96) (d a : BitVec 5) (imm : BitVec 15)
  /-- SH (R51): Stores a 2-byte field keeping the word tag. -/
  | sh (c : Fin 96) (d a : BitVec 5) (imm : BitVec 15)
  /-- SW (R51): Stores a 4-byte field keeping the word tag. -/
  | sw (c : Fin 96) (d a : BitVec 5) (imm : BitVec 15)
  /-- LDF (R99): Loads a BINFP word into an F register. -/
  | ldf (c : Fin 96) (d a : BitVec 5) (imm : BitVec 15)
  /-- STF (R99): Stores an F register tagged BINFP. -/
  | stf (c : Fin 96) (d a : BitVec 5) (imm : BitVec 15)
  /-- INDEXED_ACCESS (R99): Performs the load or store selected by fn at Ga plus scaled Gb. -/
  | indexedAccess (c : Fin 96) (d a b : BitVec 5) (fn : BitVec 10)
  /-- MOVS_L (R101): Loads a SEALED word from memory. -/
  | movsL (c : Fin 96) (d a : BitVec 5) (imm : BitVec 15)
  /-- MOVS_S (R101): Stores a SEALED word to memory. -/
  | movsS (c : Fin 96) (d a : BitVec 5) (imm : BitVec 15)
  /-- TAGM (R101): Reads the tag of a memory word without using its value. -/
  | tagm (c : Fin 96) (d a : BitVec 5) (imm : BitVec 15)
  /-- B (R100): Branches by a word displacement. -/
  | b (c : Fin 96) (disp : BitVec 25)
  /-- CALL (R100): Writes the return POINTER and branches. -/
  | call (c : Fin 96) (d : BitVec 5) (imm : BitVec 20)
  /-- BC (R95): Branches when the condition holds for CC. -/
  | bc (c : Fin 96) (cond : BitVec 3) (disp : BitVec 22)
  /-- CB (R95): Compares two registers and branches on the condition. -/
  | cb (c : Fin 96) (cond : BitVec 3) (a b : BitVec 5) (disp : BitVec 12)
  /-- LOOP (R64): Starts a counted hardware loop or skips the body when the count is 0. -/
  | loop (c : Fin 96) (d : BitVec 5) (imm : BitVec 20)
  /-- BR (R100): Branches to the address in Ga. -/
  | br (c : Fin 96) (d a b : BitVec 5)
  /-- CALLR (R100): Writes the return POINTER and branches to Ga. -/
  | callr (c : Fin 96) (d a b : BitVec 5)
  /-- LEXIT (R65): Leaves the innermost hardware loop. -/
  | lexit (c : Fin 96) (d x : BitVec 5) (t : BitVec 3)
  /-- SHORT_NOP (R90): Short operation that does nothing. -/
  | shortNop (c : Fin 96) (d a : BitVec 5)
  /-- PAIRED_WORD (R91): Executes two short operations as one instruction, slot A then slot B. -/
  | pairedWord (c : Fin 96) (slotA slotB : BitVec 15)
  /-- RDTIME (R19): Reads Device Time as a TIME word. -/
  | rdtime (c : Fin 96) (d x : BitVec 5) (t : BitVec 3)
  /-- MFC (R60): Reads a control register. -/
  | mfc (c : Fin 96) (d x : BitVec 5) (t : BitVec 3)
  /-- MTC (R60): Writes a control register in supervisor state. -/
  | mtc (c : Fin 96) (d x : BitVec 5) (t : BitVec 3)
  /-- MFPSW (R101): Reads PSW0. -/
  | mfpsw (c : Fin 96) (d x : BitVec 5) (t : BitVec 3)
  /-- MTPSW (R58): Writes PSW0 in supervisor state and closes the window. -/
  | mtpsw (c : Fin 96) (d x : BitVec 5) (t : BitVec 3)
  /-- RFE (R63): Returns from an exception, restoring PSW0, CC, loop depth and PC. -/
  | rfe (c : Fin 96) (d x : BitVec 5) (t : BitVec 3)
  /-- RFN (R63): Returns from an NMI and clears NL. -/
  | rfn (c : Fin 96) (d x : BitVec 5) (t : BitVec 3)
  /-- SVC (R101): Raises a Supervisor Call with its number in DETAIL. -/
  | svc (c : Fin 96) (rsv : BitVec 9) (imm : BitVec 16)
  /-- BRK (R101): Raises a Breakpoint exception. -/
  | brk (c : Fin 96) (d x : BitVec 5) (t : BitVec 3)
  /-- WAIT (R69): Stops retirement until an event of the mask is pending or an interrupt is taken. -/
  | wait (c : Fin 96) (d x : BitVec 5) (t : BitVec 3)
  /-- RDEV (R101): Reads pending events visible in the current state. -/
  | rdev (c : Fin 96) (d x : BitVec 5) (t : BitVec 3)
  /-- CLREV (R68): Clears the EVPEND bits named in the mask. -/
  | clrev (c : Fin 96) (d x : BitVec 5) (t : BitVec 3)
  /-- SETEV (R101): Sets EVPEND bits of the processor in supervisor state. -/
  | setev (c : Fin 96) (d x : BitVec 5) (t : BitVec 3)
  /-- FENCE_M (R80): Waits until every earlier store is globally visible. -/
  | fenceM (c : Fin 96) (d x : BitVec 5) (t : BitVec 3)
  /-- FENCE_IO (R83): Waits until device accesses and engine writes for the partition are complete. -/
  | fenceIo (c : Fin 96) (d x : BitVec 5) (t : BitVec 3)
  /-- TLBI (R188): Removes the translations of one page from every pair of the partition. -/
  | tlbi (c : Fin 96) (d x : BitVec 5) (t : BitVec 3)
  /-- TLBIA (R188): Removes every translation of the partition. -/
  | tlbia (c : Fin 96) (d x : BitVec 5) (t : BitVec 3)
  /-- CLEAN_L (R169): Writes the dirty copy of a line to memory through its home. -/
  | cleanL (c : Fin 96) (d x : BitVec 5) (t : BitVec 3)
  /-- FLUSH_L (R169): Writes back and invalidates every cached copy of a line. -/
  | flushL (c : Fin 96) (d x : BitVec 5) (t : BitVec 3)
  /-- PREF (R169): Issues a ReadShared prefetch into the L2 when a miss entry is free. -/
  | pref (c : Fin 96) (d x : BitVec 5) (t : BitVec 3)
  /-- FADD (R114): Floating-point addition under FPSR.RM. -/
  | fadd (c : Fin 96) (fmt : BitVec 2) (d a b : BitVec 5)
  /-- FSUB (R114): Floating-point subtraction under FPSR.RM. -/
  | fsub (c : Fin 96) (fmt : BitVec 2) (d a b : BitVec 5)
  /-- FMUL (R114): Floating-point multiplication under FPSR.RM. -/
  | fmul (c : Fin 96) (fmt : BitVec 2) (d a b : BitVec 5)
  /-- FDIV (R113): Floating-point division on the shared divider. -/
  | fdiv (c : Fin 96) (fmt : BitVec 2) (d a b : BitVec 5)
  /-- FSQRT (R113): Floating-point square root on the shared divider. -/
  | fsqrt (c : Fin 96) (fmt : BitVec 2) (d a b : BitVec 5)
  /-- FMIN (R121): IEEE minNum. -/
  | fmin (c : Fin 96) (fmt : BitVec 2) (d a b : BitVec 5)
  /-- FMAX (R121): IEEE maxNum. -/
  | fmax (c : Fin 96) (fmt : BitVec 2) (d a b : BitVec 5)
  /-- FABS (R119): Clears the sign bit without flags. -/
  | fabs (c : Fin 96) (fmt : BitVec 2) (d a b : BitVec 5)
  /-- FNEG (R119): Inverts the sign bit without flags. -/
  | fneg (c : Fin 96) (fmt : BitVec 2) (d a b : BitVec 5)
  /-- FCPYS (R119): Copies a sign without flags. -/
  | fcpys (c : Fin 96) (fmt : BitVec 2) (d a b : BitVec 5)
  /-- FCMP (R121): Quiet floating-point compare setting CC. -/
  | fcmp (c : Fin 96) (fmt : BitVec 2) (d a b : BitVec 5)
  /-- FCMPS (R121): Signalling floating-point compare setting CC. -/
  | fcmps (c : Fin 96) (fmt : BitVec 2) (d a b : BitVec 5)
  /-- FCVT_D_S (R122): Converts binary32 to binary64. -/
  | fcvtDS (c : Fin 96) (fmt : BitVec 2) (d a b : BitVec 5)
  /-- FCVT_S_D (R122): Converts binary64 to binary32 under RM. -/
  | fcvtSD (c : Fin 96) (fmt : BitVec 2) (d a b : BitVec 5)
  /-- FCVT_L (R122): Converts to a signed 64-bit integer. -/
  | fcvtL (c : Fin 96) (fmt : BitVec 2) (d a b : BitVec 5)
  /-- FCVT_LU (R122): Converts to an unsigned 64-bit integer. -/
  | fcvtLu (c : Fin 96) (fmt : BitVec 2) (d a b : BitVec 5)
  /-- FCVT_FL (R122): Converts a signed integer to floating point. -/
  | fcvtFl (c : Fin 96) (fmt : BitVec 2) (d a b : BitVec 5)
  /-- FCVT_FLU (R122): Converts an unsigned integer to floating point. -/
  | fcvtFlu (c : Fin 96) (fmt : BitVec 2) (d a b : BitVec 5)
  /-- FMV_FG (R102): Moves a BINFP G register into an F register. -/
  | fmvFg (c : Fin 96) (fmt : BitVec 2) (d a b : BitVec 5)
  /-- FMV_GF (R102): Moves an F register into a G register tagged BINFP. -/
  | fmvGf (c : Fin 96) (fmt : BitVec 2) (d a b : BitVec 5)
  /-- FMV (R102): Copies an F register. -/
  | fmv (c : Fin 96) (fmt : BitVec 2) (d a b : BitVec 5)
  /-- FMADD (R103): Fused multiply-add with one rounding. -/
  | fmadd (c : Fin 96) (fmt : BitVec 2) (d a b k : BitVec 5)
  /-- FMSUB (R103): Fused multiply-subtract with one rounding. -/
  | fmsub (c : Fin 96) (fmt : BitVec 2) (d a b k : BitVec 5)
  /-- FNMADD (R120): Negated fused multiply-add. -/
  | fnmadd (c : Fin 96) (fmt : BitVec 2) (d a b k : BitVec 5)
  /-- FNMSUB (R120): Negated fused multiply-subtract. -/
  | fnmsub (c : Fin 96) (fmt : BitVec 2) (d a b k : BitVec 5)
  /-- AADD (R104): Atomic add returning the old word. -/
  | aadd (c : Fin 96) (d a b : BitVec 5)
  /-- AAND (R104): Atomic AND returning the old word. -/
  | aand (c : Fin 96) (d a b : BitVec 5)
  /-- AOR (R104): Atomic OR returning the old word. -/
  | aor (c : Fin 96) (d a b : BitVec 5)
  /-- AXOR (R104): Atomic XOR returning the old word. -/
  | axor (c : Fin 96) (d a b : BitVec 5)
  /-- ASWAP (R104): Atomic swap with tags. -/
  | aswap (c : Fin 96) (d a b : BitVec 5)
  /-- ACAS (R104): Atomic compare-and-swap on value and tag, setting the swap CC. -/
  | acas (c : Fin 96) (d a b : BitVec 5)
  /-- AMIN (R104): Atomic signed minimum. -/
  | amin (c : Fin 96) (d a b : BitVec 5)
  /-- AMAX (R104): Atomic signed maximum. -/
  | amax (c : Fin 96) (d a b : BitVec 5)
  /-- AMINU (R104): Atomic unsigned minimum. -/
  | aminu (c : Fin 96) (d a b : BitVec 5)
  /-- AMAXU (R104): Atomic unsigned maximum. -/
  | amaxu (c : Fin 96) (d a b : BitVec 5)
  /-- IOLD (R105): Reads a Partition Control Page register as an external operation. -/
  | iold (c : Fin 96) (d a : BitVec 5) (imm : BitVec 15)
  /-- IOST (R105): Writes a Partition Control Page register as a serialising store. -/
  | iost (c : Fin 96) (d a : BitVec 5) (imm : BitVec 15)
  /-- CQPOST (R105): Writes a new tail to a crypto queue doorbell. -/
  | cqpost (c : Fin 96) (d x : BitVec 5) (t : BitVec 3)
  /-- ZQPOST (R105): Writes a new tail to a compression queue doorbell. -/
  | zqpost (c : Fin 96) (d x : BitVec 5) (t : BitVec 3)
  /-- MVGO (R105): Writes CTRL of a Mover slot with GO set. -/
  | mvgo (c : Fin 96) (d x : BitVec 5) (t : BitVec 3)
  /-- MVSYNC (R105): Reads SYNC of a Mover slot, returning once the run's writes are visible. -/
  | mvsync (c : Fin 96) (d x : BitVec 5) (t : BitVec 3)
  /-- JCOMMIT (R345): Hands a commit descriptor to the Journal unit. -/
  | jcommit (c : Fin 96) (d x : BitVec 5) (t : BitVec 3)
  /-- MOVB (R77): Copies one unit of bytes and advances the operand registers. -/
  | movb (c : Fin 96) (d x : BitVec 5) (t : BitVec 3)
  /-- FILLB (R106): Fills one unit with a byte. -/
  | fillb (c : Fin 96) (d x : BitVec 5) (t : BitVec 3)
  /-- CMPB (R106): Compares one unit of bytes. -/
  | cmpb (c : Fin 96) (d x : BitVec 5) (t : BitVec 3)
  /-- SCANB (R106): Searches one unit for a byte. -/
  | scanb (c : Fin 96) (d x : BitVec 5) (t : BitVec 3)
  /-- MAPB (R106): Maps each byte of one unit through a 256-byte map. -/
  | mapb (c : Fin 96) (d x : BitVec 5) (t : BitVec 3)
  /-- CRCB (R106): Accumulates CRC-32C over one unit. -/
  | crcb (c : Fin 96) (d x : BitVec 5) (t : BitVec 3)
  /-- DADD (R107): Packed-decimal addition. -/
  | dadd (c : Fin 96) (l1 l2 b1 b2 : BitVec 5)
  /-- DSUB (R107): Packed-decimal subtraction. -/
  | dsub (c : Fin 96) (l1 l2 b1 b2 : BitVec 5)
  /-- DMUL (R131): Packed-decimal multiplication. -/
  | dmul (c : Fin 96) (l1 l2 b1 b2 : BitVec 5)
  /-- DDIV (R131): Packed-decimal division truncated toward zero. -/
  | ddiv (c : Fin 96) (l1 l2 b1 b2 : BitVec 5)
  /-- DREM (R131): Packed-decimal remainder. -/
  | drem (c : Fin 96) (l1 l2 b1 b2 : BitVec 5)
  /-- DSRR (R130): Shifts a decimal operand with optional rounding. -/
  | dsrr (c : Fin 96) (l1 l2 b1 b2 : BitVec 5)
  /-- DCMP (R107): Compares two decimal operands. -/
  | dcmp (c : Fin 96) (l1 l2 b1 b2 : BitVec 5)
  /-- DZADD (R107): Validates operand 2 and refits it into operand 1. -/
  | dzadd (c : Fin 96) (l1 l2 b1 b2 : BitVec 5)
  /-- DTEST (R107): Validates a decimal operand and sets CC. -/
  | dtest (c : Fin 96) (l1 l2 b1 b2 : BitVec 5)
  /-- CVDB (R132): Converts decimal to a 128-bit binary register pair. -/
  | cvdb (c : Fin 96) (l1 l2 b1 b2 : BitVec 5)
  /-- CVBD (R132): Converts a 128-bit binary pair to decimal. -/
  | cvbd (c : Fin 96) (l1 l2 b1 b2 : BitVec 5)
  /-- PACKA (R132): Packs ASCII digits into decimal. -/
  | packa (c : Fin 96) (l1 l2 b1 b2 : BitVec 5)
  /-- UNPKA (R132): Unpacks decimal digits to ASCII. -/
  | unpka (c : Fin 96) (l1 l2 b1 b2 : BitVec 5)
  /-- EVENT_INTERRUPT (R68): Takes an enabled pending event as an interrupt at an instruction boundary. -/
  | eventInterrupt (c : Fin 96)
  /-- NMI_ENTRY (R74): Takes a pending NMI at an instruction boundary into C10-C14. -/
  | nmiEntry (c : Fin 96)
  /-- TIMER_COMPARE (R67): Device Time reaches TIMECMP and sets EVPEND.TIMER. -/
  | timerCompare (c : Fin 96)
  /-- WINDOW_COMPARISON (R30): The comparator delivers the result of a closed window's signatures. -/
  | windowComparison (c : Fin 96) (trail : Word)
  /-- DETECTED_ERROR (R33): A parity or uncorrectable ECC error in a core array starts a rollback. -/
  | detectedError (c : Fin 96) (trailing ckptBadL ckptBadT : Bool)
  /-- GATE_STORE_RELEASE (R151): Writes a checked gate entry into the L2 once the line is held in M. -/
  | gateStoreRelease (c : Fin 96)
  /-- EXTERNAL_OP_ISSUE (R32): Issues an external operation once earlier windows have drained and its request compares. -/
  | externalOpIssue (c : Fin 96) (op : ExtOp)
  /-- EXTERNAL_OP_RESULT (R32): The returned value of an external operation enters the input latch. -/
  | externalOpResult (c : Fin 96)
  /-- SPARE_SELF_TEST (R36): Every 10 s Steward firmware tests each spare and fences a failing one. -/
  | spareSelfTest (p : Fin 48) (passed : Bool)
  /-- STEWARD_SPARING (R37): Steward firmware moves a fenced pair's checkpoint onto a spare. -/
  | stewardSparing (c : Fin 96) (spare : Fin 96)
  /-- FENCED_L2_EMPTY (R38): A fenced pair's L2 finishes writing back and powers down. -/
  | fencedL2Empty (p : Fin 48)
  /-- PAIR_ROLE_WRITE (R36): Applies a permitted role, partition and logical number change to a pair. -/
  | pairRoleWrite (w : Writer) (p : Fin 48) (v : Word) (be : Byte)
  /-- PAIR_TEST_WRITE (R34): Arms injected mismatches, fencing the pair for the value 4. -/
  | pairTestWrite (w : Writer) (p : Fin 48) (v : Word) (be : Byte)
  /-- PAIR_CKPT_WRITE (R37): Loads checkpoint image words into a pair in LOADING. -/
  | pairCkptWrite (w : Writer) (p : Fin 48) (off : BitVec 12) (v : Word) (be : Byte)
  /-- PATCH_LOAD_GO (R144): UCS_CTL.GO starts verification of the patch image. -/
  | patchLoadGo (w : Writer) (v : Word) (be : Byte)
  /-- PATCH_LOAD_DONE (R144): The load engine accepts or rejects the patch image. -/
  | patchLoadDone (img : Option PatchImg)
  /-- UCS_LOCK (R448): Locks UCS_CTL.OFFSET and makes GO ineffective. -/
  | ucsLock (w : Writer) (v : Word) (be : Byte)
  /-- UCS_DISABLE (R141): Clears every match entry and sets STATE DISABLED. -/
  | ucsDisable (w : Writer) (v : Word) (be : Byte)
  /-- UCS_PEEK (R138): Loads a microword or dispatch entry into UCS_PEEK_DATA. -/
  | ucsPeek (w : Writer) (v : Word) (be : Byte)
  /-- PATCH_RAM_SCRUB (R145): Every 10 ms scrubs each core's patch RAM against the master copy. -/
  | patchRamScrub (c : Fin 96) (word : Fin 1024) (corrected uncorrected : Bool)
  /-- HOME_READSHARED (R159): The home serves a ReadShared request. -/
  | homeReadshared (p : Fin 48) (line : BitVec 39)
  /-- HOME_READOWN (R159): The home serves a ReadOwn request. -/
  | homeReadown (p : Fin 48) (line : BitVec 39)
  /-- HOME_UPGRADE (R159): The home serves an Upgrade request. -/
  | homeUpgrade (p : Fin 48) (line : BitVec 39)
  /-- HOME_WRITEBACK (R159): The home takes a WriteBack and returns WbAck. -/
  | homeWriteback (p : Fin 48) (line : BitVec 39)
  /-- HOME_EVICTCLEAN (R159): The home removes the directory entry of a clean eviction. -/
  | homeEvictclean (p : Fin 48) (line : BitVec 39)
  /-- HOME_WRITEFULL (R154): The home invalidates copies, blocks the line and returns READY. -/
  | homeWritefull (p : Fin 48) (line : BitVec 39)
  /-- HOME_RELEASE (R154): The home writes a WriteFull line and serves waiting requests. -/
  | homeRelease (p : Fin 48) (line : BitVec 39)
  /-- HOME_CLEAN (R169): The home performs CLEAN.L for a line. -/
  | homeClean (p : Fin 48) (line : BitVec 39)
  /-- HOME_FLUSH (R169): The home performs FLUSH.L for a line. -/
  | homeFlush (p : Fin 48) (line : BitVec 39)
  /-- HOME_FAR_ATOMIC (R159): The home performs a far atomic on its L3 copy. -/
  | homeFarAtomic (p : Fin 48) (line : BitVec 39)
  /-- HOME_SNOOP_ANSWER (R159): A snoop answer arrives at the home and may complete the transaction. -/
  | homeSnoopAnswer (p : Fin 48) (line : BitVec 39)
  /-- L2_SNPSHARED (R158): An L2 answers SnpShared. -/
  | l2Snpshared (p : Fin 48) (line : BitVec 39)
  /-- L2_SNPCLEAN (R158): An L2 answers SnpClean. -/
  | l2Snpclean (p : Fin 48) (line : BitVec 39)
  /-- L2_SNPINV (R158): An L2 answers SnpInv and invalidates its L1 copies. -/
  | l2Snpinv (p : Fin 48) (line : BitVec 39)
  /-- L2_GRANT (R158): A grant with or without data installs the line in the requesting L2. -/
  | l2Grant (p : Fin 48) (line : BitVec 39) (way : Fin 16)
  /-- L2_READY (R154): READY for a WriteFull arrives; the line counts as visible and RELEASE is sent. -/
  | l2Ready (p : Fin 48) (line : BitVec 39)
  /-- L2_WBACK (R170): WbAck frees the write-back buffer entry. -/
  | l2Wback (p : Fin 48) (line : BitVec 39)
  /-- L2_NACK (R160): A request is NACKed and its backoff begins. -/
  | l2Nack (p : Fin 48) (line : BitVec 39)
  /-- L2_NACK_RETRY (R160): The NACK backoff expires and the request is sent again. -/
  | l2NackRetry (p : Fin 48) (line : BitVec 39)
  /-- EVICTION_WRITE_ACCEPTED (R157): The memory controller accepts an Eviction Buffer write and the waiting fill installs. -/
  | evictionWriteAccepted (sl : Fin 24) (line : BitVec 39)
  /-- COHERENCE_TIMEOUT (R171): An agent has waited 50 µs for a coherence answer and declares loss. -/
  | coherenceTimeout (agent : BitVec 8) (line : BitVec 39)
  /-- COHERENCE_LOSS (R172): The coherent domain is lost: clocks stop, GOODBYE is sent and the module resets. -/
  | coherenceLoss (sl : Fin 24) (cause : BitVec 4) (agent : BitVec 8) (line : BitVec 39)
  /-- CAS_WAYS_WRITE (R167): Starts conversion or release of Cache-as-Store ways. -/
  | casWaysWrite (w : Writer) (sl : Fin 24) (v : Word) (be : Byte)
  /-- CAS_CONVERT_DONE (R167): Conversion of ways to Cache-as-Store completes. -/
  | casConvertDone (sl : Fin 24)
  /-- CAS_RELEASE_DONE (R167): Released ways return to caching. -/
  | casReleaseDone (sl : Fin 24)
  /-- PRED_CLEAR (R162): Sets every contention predictor counter to 0. -/
  | predClear (w : Writer) (p : Fin 48) (v : Word) (be : Byte)
  /-- MC_READ (R178): A memory controller reads a line and its tags. -/
  | mcRead (line : BitVec 39) (chk : SectorChk) (retries : Nat)
  /-- MC_WRITE (R178): A memory controller writes a whole line and its tags. -/
  | mcWrite (line : BitVec 39) (words : List TWord) (retries : Nat)
  /-- TAG_BUFFER_FILL (R178): A tag sector fetched on a Tag Buffer miss arrives. -/
  | tagBufferFill (m : Fin 16) (sector : BitVec 34) (chk : ChkRes)
  /-- PATROL_SCRUB (R181): The patrol scrubber reads, checks and rewrites a sector. -/
  | patrolScrub (m : Fin 16) (sector : BitVec 34) (chk : ChkRes)
  /-- HCS_SCRUB (R183): The Hub Control SRAM is scrubbed once per second. -/
  | hcsScrub (region : Fin 5) (corrected uncorrected : Bool)
  /-- EXTENT_MAP_WRITE (R190): Applies or ignores a write to PART_HEXT or PART_CEXT. -/
  | extentMapWrite (w : Writer) (q : Fin 64) (cas : Bool) (i : Fin 128) (v : Word) (be : Byte)
  /-- UNMAP_DONE (R191): Unmapping finishes and the entry becomes INVALID. -/
  | unmapDone (q : Fin 64) (cas : Bool) (i : Fin 128)
  /-- SQ_DOORBELL (R214): Records a new SQ tail or halts the queue pair. -/
  | sqDoorbell (port : Fin 2) (fn : Fin 64) (qp : Fin 16) (v : Word)
  /-- CQ_DOORBELL (R215): Releases completion entries or halts the queue pair. -/
  | cqDoorbell (port : Fin 2) (fn : Fin 64) (qp : Fin 16) (v : Word)
  /-- DESCRIPTOR_FETCH (R213): Issues a descriptor read once a Work Order Table entry and CQ slot are available. -/
  | descriptorFetch (port : Fin 2) (fn : Fin 64) (qp : Fin 16) (wo : Fin 32768)
  /-- WORK (R207): Checks a WORK descriptor, its Receipt and its chain, and reads its buffers. -/
  | work (wo : Fin 32768) (d : Desc)
  /-- NOP_DESCRIPTOR (R206): Completes a NOP descriptor OK. -/
  | nopDescriptor (wo : Fin 32768) (d : Desc)
  /-- CHAIN_READ_DONE (R205): A chain read completes and is checked. -/
  | chainReadDone (wo : Fin 32768) (ents : List (BitVec 128))
  /-- SEGIN_READ_DONE (R207): SEG_IN buffer reads complete and the work is delivered to the Work Inbox. -/
  | seginReadDone (wo : Fin 32768) (data : Bytes) (slot : Nat)
  /-- COMPLETION_TIMEOUT (R196): A host read exceeds CTO_US and is a host read fault. -/
  | completionTimeout (wo : Fin 32768)
  /-- RESPONSE_SEND (R217): After a post, checks the response and writes it and the completion to the host. -/
  | responseSend (wo : Fin 32768)
  /-- CHAIN_REREAD_DONE (R217): The reread chain arrives and is compared with its CRC. -/
  | chainRereadDone (wo : Fin 32768) (ents : List (BitVec 128))
  /-- COALESCE_TIMER (R216): COAL_TICKS elapse since the first unsignalled completion and MSI-X is sent. -/
  | coalesceTimer (port : Fin 2) (fn : Fin 64) (qp : Fin 16)
  /-- QCTL_ENABLE (R220): Enables a queue pair or records CAUSE 5. -/
  | qctlEnable (port : Fin 2) (fn : Fin 64) (qp : Fin 16)
  /-- QCTL_RESET (R222): Stops fetch and frees the queue pair's work orders. -/
  | qctlReset (port : Fin 2) (fn : Fin 64) (qp : Fin 16)
  /-- QUEUE_RESET_DONE (R222): A resetting queue pair reaches DISABLED once no host read is outstanding. -/
  | queueResetDone (port : Fin 2) (fn : Fin 64) (qp : Fin 16)
  /-- PCIE_LINK_DOWN (R221): A surprise link-down freezes every queue pair of the port. -/
  | pcieLinkDown (port : Fin 2)
  /-- PCIE_LINK_UP (R197): A port trains to L0 within its configured limits. -/
  | pcieLinkUp (port : Fin 2) (speed : Fin 8) (width : Fin 16)
  /-- PERST (R221): PERST resets every function of the port. -/
  | perst (port : Fin 2)
  /-- HOT_RESET (R221): A Hot Reset resets every function of the port. -/
  | hotReset (port : Fin 2)
  /-- FUNCTION_LEVEL_RESET (R220): FLR resets a function's queue pairs and mailbox. -/
  | functionLevelReset (port : Fin 2) (fn : Fin 64)
  /-- VF_ENABLE_CLEAR (R220): Clearing VF Enable resets the VFs' queue pairs. -/
  | vfEnableClear (port : Fin 2)
  /-- NUMVFS_WRITE (R194): A NumVFs write, ignored while VF Enable is set. -/
  | numvfsWrite (port : Fin 2) (n : BitVec 16)
  /-- PCIE_ERROR_DETECTED (R223): The port detects an AER or ECRC error. -/
  | pcieErrorDetected (port : Fin 2) (k : Fin 8) (wo : Option (Fin 32768))
  /-- HIF_VFBIND_WRITE (R200): Binds or unbinds a VF to a partition under the binding rules. -/
  | hifVfbindWrite (w : Writer) (port : Fin 2) (vf : Fin 64) (v : Word) (be : Byte)
  /-- HIF_CFG_LOCK (R448): Locks the port's link configuration fields. -/
  | hifCfgLock (w : Writer) (port : Fin 2) (v : Word) (be : Byte)
  /-- CREATE (R226): Creates a partition in STOPPED. -/
  | partCreate (w : Writer) (q : Fin 64)
  /-- START (R225): Starts a STOPPED partition's pairs. -/
  | partStart (w : Writer) (q : Fin 64)
  /-- FREEZE (R234): Stops admission and processors of a partition. -/
  | partFreeze (w : Writer) (q : Fin 64)
  /-- FREEZE_DONE (R234): Processors stopped and engine requests drained; the partition is FROZEN. -/
  | partFreezeDone (q : Fin 64)
  /-- THAW (R225): Resumes a FROZEN partition. -/
  | partThaw (w : Writer) (q : Fin 64)
  /-- EXPORT (R246): Captures and sends the Partition Image. -/
  | partExport (w : Writer) (q : Fin 64)
  /-- EXPORT_CONFIRMED (R249): The target's answer to the final IMAGE COMMIT confirms or rejects the import. -/
  | partExportConfirmed (q : Fin 64) (ok : Bool)
  /-- IMPORT (R248): Starts accepting a partition from a source module. -/
  | partImport (w : Writer) (q : Fin 64)
  /-- IMPORT_INSTALLED (R248): The assembled image is checked and installed, or the partition is destroyed. -/
  | partImportInstalled (q : Fin 64) (img : PImage)
  /-- DESTROY (R225): Starts destroying a partition. -/
  | partDestroy (w : Writer) (q : Fin 64)
  /-- ABORT (R225): Abandons an import. -/
  | partAbort (w : Writer) (q : Fin 64)
  /-- DESTROY_DONE (R469): Keys erased, extents unmapped, pairs and quotas released; the partition is NONE. -/
  | partDestroyDone (q : Fin 64)
  /-- SERVICE_ENTRY_DELIVER (R237): Delivers a waiting service entry once a Work Inbox slot is free. -/
  | serviceEntryDeliver (q : Fin 64) (slot : Nat)
  /-- PARK (R239): Parks a processor that has waited IDLE_TICKS without an event. -/
  | park (c : Fin 96)
  /-- UNPARK (R239): An event in the WAIT mask unparks a processor. -/
  | unpark (c : Fin 96)
  /-- SHARE_PERIOD (R232): A new 100 µs share-accounting period begins. -/
  | sharePeriod
  /-- MBOX_DB_WRITE (R243): A sender posts a mailbox message. -/
  | mboxDbWrite (w : Writer) (m : MbId) (v : Word) (be : Byte)
  /-- MBOX_ACK_WRITE (R243): The receiver acknowledges a posted message and notifies the sender. -/
  | mboxAckWrite (w : Writer) (m : MbId) (v : Word) (be : Byte)
  /-- DIRTY_TRACK_START (R244): Setting TRACK starts dirty tracking and a scan. -/
  | dirtyTrackStart (w : Writer) (q : Fin 64) (v : Word) (be : Byte)
  /-- SNAP (R245): Swaps the current dirty bitmap and starts a scan. -/
  | partSnap (w : Writer) (q : Fin 64) (v : Word) (be : Byte)
  /-- DIRTY_SCAN_DONE (R245): The dirty scan completes and BUSY clears. -/
  | dirtyScanDone (q : Fin 64)
  /-- CQ_RESET_DONE (R270): A resetting crypto queue becomes DISABLED once its requests finish. -/
  | cqResetDone (q : Fin 64) (n : Fin 32)
  /-- EC_SIGN (R264): ECDSA signing request. -/
  | ecSign (q : Fin 64) (n : Fin 32) (e : Fin 112)
  /-- EC_VERIFY (R264): ECDSA verification request. -/
  | ecVerify (q : Fin 64) (n : Fin 32) (e : Fin 112)
  /-- EC_DH (R264): ECDH agreement deriving an AES-256 key. -/
  | ecDh (q : Fin 64) (n : Fin 32) (e : Fin 112)
  /-- EC_KEYGEN (R264): EC key pair generation. -/
  | ecKeygen (q : Fin 64) (n : Fin 32) (e : Fin 112)
  /-- ED_SIGN (R264): Ed25519 signing. -/
  | edSign (q : Fin 64) (n : Fin 32) (e : Fin 112)
  /-- ED_VERIFY (R264): Ed25519 verification. -/
  | edVerify (q : Fin 64) (n : Fin 32) (e : Fin 112)
  /-- ED_KEYGEN (R264): Ed25519 key generation. -/
  | edKeygen (q : Fin 64) (n : Fin 32) (e : Fin 112)
  /-- RSA_SIGN (R264): RSA signing. -/
  | rsaSign (q : Fin 64) (n : Fin 32) (e : Fin 112)
  /-- RSA_VERIFY (R264): RSA verification. -/
  | rsaVerify (q : Fin 64) (n : Fin 32) (e : Fin 112)
  /-- RSA_ENCRYPT (R264): RSA OAEP encryption. -/
  | rsaEncrypt (q : Fin 64) (n : Fin 32) (e : Fin 112)
  /-- RSA_DECRYPT (R264): RSA OAEP decryption. -/
  | rsaDecrypt (q : Fin 64) (n : Fin 32) (e : Fin 112)
  /-- MLDSA_KEYGEN (R264): ML-DSA key generation. -/
  | mldsaKeygen (q : Fin 64) (n : Fin 32) (e : Fin 112)
  /-- MLDSA_SIGN (R265): ML-DSA signing with a context string. -/
  | mldsaSign (q : Fin 64) (n : Fin 32) (e : Fin 112)
  /-- MLDSA_VERIFY (R265): ML-DSA verification. -/
  | mldsaVerify (q : Fin 64) (n : Fin 32) (e : Fin 112)
  /-- MLKEM_KEYGEN (R264): ML-KEM key generation. -/
  | mlkemKeygen (q : Fin 64) (n : Fin 32) (e : Fin 112)
  /-- MLKEM_ENCAPS (R264): ML-KEM encapsulation. -/
  | mlkemEncaps (q : Fin 64) (n : Fin 32) (e : Fin 112)
  /-- MLKEM_DECAPS (R264): ML-KEM decapsulation. -/
  | mlkemDecaps (q : Fin 64) (n : Fin 32) (e : Fin 112)
  /-- HYBRID_SIGN (R272): Signs with P-384 and ML-DSA-65 at once. -/
  | hybridSign (q : Fin 64) (n : Fin 32) (e : Fin 112) (e2 : Fin 112)
  /-- HYBRID_VERIFY (R272): Verifies both halves of a hybrid signature. -/
  | hybridVerify (q : Fin 64) (n : Fin 32) (e : Fin 112) (e2 : Fin 112)
  /-- AES_ENC (R264): AES encryption. -/
  | aesEnc (q : Fin 64) (n : Fin 32) (e : Fin 112)
  /-- AES_DEC (R264): AES decryption. -/
  | aesDec (q : Fin 64) (n : Fin 32) (e : Fin 112)
  /-- GCM_SEAL (R264): AES-GCM seal. -/
  | gcmSeal (q : Fin 64) (n : Fin 32) (e : Fin 112)
  /-- GCM_OPEN (R269): AES-GCM open, zeroing output on tag failure. -/
  | gcmOpen (q : Fin 64) (n : Fin 32) (e : Fin 112)
  /-- TDEA_ENC (R264): TDEA encryption. -/
  | tdeaEnc (q : Fin 64) (n : Fin 32) (e : Fin 112)
  /-- TDEA_DEC (R264): TDEA decryption. -/
  | tdeaDec (q : Fin 64) (n : Fin 32) (e : Fin 112)
  /-- HASH (R264): Hash or SHAKE of the input. -/
  | hash (q : Fin 64) (n : Fin 32) (e : Fin 112)
  /-- HMAC_GEN (R264): HMAC generation. -/
  | hmacGen (q : Fin 64) (n : Fin 32) (e : Fin 112)
  /-- HMAC_VER (R264): HMAC verification. -/
  | hmacVer (q : Fin 64) (n : Fin 32) (e : Fin 112)
  /-- CMAC_GEN (R264): CMAC generation. -/
  | cmacGen (q : Fin 64) (n : Fin 32) (e : Fin 112)
  /-- CMAC_VER (R264): CMAC verification. -/
  | cmacVer (q : Fin 64) (n : Fin 32) (e : Fin 112)
  /-- MAC3_GEN (R264): ISO 9797-1 MAC algorithm 3 generation. -/
  | mac3Gen (q : Fin 64) (n : Fin 32) (e : Fin 112)
  /-- MAC3_VER (R264): ISO 9797-1 MAC algorithm 3 verification. -/
  | mac3Ver (q : Fin 64) (n : Fin 32) (e : Fin 112)
  /-- PIN_XLATE (R271): Translates a PIN block between formats and keys. -/
  | pinXlate (q : Fin 64) (n : Fin 32) (e : Fin 112)
  /-- KEY_GEN (R264): Generates a symmetric key. -/
  | keyGen (q : Fin 64) (n : Fin 32) (e : Fin 112)
  /-- KEY_DERIVE (R264): Derives a key by SP 800-108. -/
  | keyDerive (q : Fin 64) (n : Fin 32) (e : Fin 112)
  /-- KEY_IMPORT (R273): Imports an X9.143 key block. -/
  | keyImport (q : Fin 64) (n : Fin 32) (e : Fin 112)
  /-- KEY_EXPORT (R273): Exports a key as an X9.143 block. -/
  | keyExport (q : Fin 64) (n : Fin 32) (e : Fin 112)
  /-- KEY_DESTROY (R261): Marks a key DESTROYING and erases it once unused. -/
  | keyDestroy (q : Fin 64) (n : Fin 32)
  /-- KEY_INFO (R258): Returns a key's 64-byte attribute record. -/
  | keyInfo (q : Fin 64) (n : Fin 32)
  /-- KEY_LOOKUP (R274): Returns the newest key handle with a label. -/
  | keyLookup (q : Fin 64) (n : Fin 32)
  /-- KEY_PUBLIC (R264): Returns an asymmetric key's public encoding. -/
  | keyPublic (q : Fin 64) (n : Fin 32)
  /-- RANDOM (R256): Returns random bytes from the DRBG. -/
  | random (q : Fin 64) (n : Fin 32) (e : Fin 112)
  /-- CRYPTO_ENGINE_DONE (R267): An engine finishes; results, completion and event are written and the engine reassigned. -/
  | cryptoEngineDone (e : Fin 112)
  /-- CRYPTO_ENGINE_ERROR (R279): An engine detects an error, goes offline and the request restarts elsewhere. -/
  | cryptoEngineError (e : Fin 112)
  /-- DRBG_RESEED (R256): A DRBG instance reseeds after 2^20 calls or 1 s. -/
  | drbgReseed (i : Fin 4)
  /-- ENTROPY_FAIL (R256): A health test fails and all DRBG instances stop. -/
  | entropyFail
  /-- ENTROPY_RESTART (R256): The source passes start-up tests and the instances restart. -/
  | entropyRestart
  /-- KEY_ERASE (R261): Erases a destroyed key once no request holds it and completes KEY_DESTROY. -/
  | keyErase (dom : Fin 64) (index : Fin 16384)
  /-- VAULT_CHANGE_DURABLE (R260): A key change is backed up and acknowledged by the partner; its request completes. -/
  | vaultChangeDurable (dom : Fin 64) (index : Fin 16384) (backupOk : Bool)
  /-- KV_UNCORRECTED (R279): An uncorrectable vault word is restored from backup or the volatile record erased. -/
  | kvUncorrected (dom : Fin 64) (index : Fin 16384)
  /-- KEY_COMPONENT (R276): Enters one clear key component for a domain. -/
  | keyComponent (wo : Fin 32768) (d : Desc) (rd : HostRd)
  /-- KEY_COMBINE (R276): XORs all components into a new key. -/
  | keyCombine (wo : Fin 32768) (d : Desc) (rd : HostRd)
  /-- KEY_COMPONENT_CLEAR (R276): Discards pending components. -/
  | keyComponentClear (wo : Fin 32768) (d : Desc) (rd : HostRd)
  /-- KEY_LOAD_BLOCK (R275): Loads an X9.143 key block into a domain. -/
  | keyLoadBlock (wo : Fin 32768) (d : Desc) (rd : HostRd)
  /-- KEY_UNLOAD_BLOCK (R275): Exports a domain key as an X9.143 block. -/
  | keyUnloadBlock (wo : Fin 32768) (d : Desc) (rd : HostRd)
  /-- KEY_DELETE (R275): Deletes a key of a domain. -/
  | keyDelete (wo : Fin 32768) (d : Desc) (rd : HostRd)
  /-- KEY_QUERY (R275): Returns the record of a labelled key. -/
  | keyQuery (wo : Fin 32768) (d : Desc) (rd : HostRd)
  /-- COMPONENT_EXPIRY (R276): Pending components are discarded 900 s after the first. -/
  | componentExpiry (dom : Fin 64)
  /-- COMPRESS (R282): Compresses one whole stream. -/
  | compress (q : Fin 64) (n : Fin 32) (ce : Fin 8)
  /-- DECOMPRESS (R287): Decompresses one whole stream. -/
  | decompress (q : Fin 64) (n : Fin 32) (ce : Fin 8)
  /-- COMPRESS_ENGINE_DONE (R286): A compression engine finishes and writes its completion. -/
  | compressEngineDone (ce : Fin 8)
  /-- COMPRESS_ENGINE_ERROR (R289): A compression engine error restarts the request on another engine. -/
  | compressEngineError (ce : Fin 8)
  /-- MOVER_CHUNK (R291): Moves one chunk of a run and ends the run at its last chunk. -/
  | moverChunk (ch : Fin 64)
  /-- MOVER_ABORT (R294): Stops a run before its next chunk with CANCELLED. -/
  | moverAbort (ch : Fin 64)
  /-- MOVER_SYNC_RETURN (R293): A waiting SYNC read returns once the run's writes are visible. -/
  | moverSyncReturn (ch : Fin 64) (c : Fin 96)
  /-- PORT_ENABLE (R308): Setting CHP_CFG.ENABLE starts training. -/
  | portEnable (w : Writer) (l : Fin 264) (v : Word) (be : Byte)
  /-- PORT_DISABLE (R308): Clearing ENABLE takes the port to DISABLED. -/
  | portDisable (w : Writer) (l : Fin 264) (v : Word) (be : Byte)
  /-- RETRAIN (R308): Takes the port down to HOLDOFF for retraining. -/
  | retrain (w : Writer) (l : Fin 264) (v : Word) (be : Byte)
  /-- TRAINING_DONE (R308): Training and locks complete; the port enters INIT and sends LINIT. -/
  | trainingDone (l : Fin 264)
  /-- TRAINING_TIMEOUT (R308): Training exceeds 500 ms; the port goes to HOLDOFF. -/
  | trainingTimeout (l : Fin 264)
  /-- LINIT_TIMER (R308): Resends LINIT every 10 µs in INIT. -/
  | linitTimer (l : Fin 264)
  /-- INIT_TIMEOUT (R308): INIT exceeds 100 ms; the port goes to HOLDOFF. -/
  | initTimeout (l : Fin 264)
  /-- HOLDOFF_EXPIRY (R308): After 1 ms in HOLDOFF the port retrains. -/
  | holdoffExpiry (l : Fin 264)
  /-- LINIT (R309): A LINIT frame is checked and answered with LACK. -/
  | linit (l : Fin 264) (fr : Frame)
  /-- LACK (R308): A LACK echoing the port's NONCE makes the link ACTIVE. -/
  | lack (l : Fin 264) (fr : Frame)
  /-- LDOWN (R310): The peer takes the link down. -/
  | ldown (l : Fin 264) (fr : Frame)
  /-- ACK (R305): An ACK frame frees acknowledged frames and updates credit. -/
  | ack (l : Fin 264) (fr : Frame)
  /-- NAK (R305): A NAK frame starts a replay. -/
  | nak (l : Fin 264) (fr : Frame)
  /-- FRAME_CHECK_FAIL (R303): A received frame fails its check and a NAK is sent. -/
  | frameCheckFail (l : Fin 264)
  /-- FRAME_TRANSMIT (R306): Sends the next frame by priority once credit and buffer allow. -/
  | frameTransmit (l : Fin 264)
  /-- REPLAY_TIMER (R305): The 20 µs replay timer expires and a replay starts. -/
  | replayTimer (l : Fin 264)
  /-- ACK_DUE (R304): An acknowledgement falls due within 400 ticks of an acceptance. -/
  | ackDue (l : Fin 264)
  /-- KEEPALIVE (R304): Sends an ACK when nothing with ACKV was sent for 100 µs. -/
  | keepalive (l : Fin 264)
  /-- ACK_TIMEOUT (R310): No acknowledgement for 10 ms takes the link down. -/
  | ackTimeout (l : Fin 264)
  /-- PCS_LOCK_LOSS (R310): PCS or FEC lock is lost and the link goes down. -/
  | pcsLockLoss (l : Fin 264)
  /-- OCTET_PLL_UNLOCK (R295): An octet PLL loses lock and its eight ports go to HOLDOFF. -/
  | octetPllUnlock (o : Fin 34)
  /-- XSTART_READ (R328): An admitted READ start is checked and sent. -/
  | xstartRead (q : Fin 64) (n : Fin 32) (x : Fin 65536)
  /-- XSTART_WRITE (R328): An admitted WRITE start is checked and sent. -/
  | xstartWrite (q : Fin 64) (n : Fin 32) (x : Fin 65536)
  /-- XSTART_COMMIT (R328): An admitted COMMIT start is checked and sent. -/
  | xstartCommit (q : Fin 64) (n : Fin 32) (x : Fin 65536)
  /-- XSTART_MESSAGE (R328): An admitted MESSAGE start is checked and sent. -/
  | xstartMessage (q : Fin 64) (n : Fin 32) (x : Fin 65536)
  /-- XSTART_CANCEL (R336): An admitted CANCEL start moves its target to CANCELLING. -/
  | xstartCancel (q : Fin 64) (n : Fin 32) (x : Fin 65536)
  /-- XSTART_PROBE (R328): An admitted PROBE start is sent. -/
  | xstartProbe (q : Fin 64) (n : Fin 32) (x : Fin 65536)
  /-- INBOUND_READ (R249): An inbound READ from a MODULE peer is answered. -/
  | inboundRead (l : Fin 264) (fr : Frame)
  /-- INBOUND_WRITE (R249): An inbound migration WRITE is applied. -/
  | inboundWrite (l : Fin 264) (fr : Frame) (x : Fin 65536)
  /-- INBOUND_COMMIT (R249): An inbound migration COMMIT is made durable or checked. -/
  | inboundCommit (l : Fin 264) (fr : Frame) (x : Fin 65536)
  /-- INBOUND_MESSAGE (R337): An inbound MESSAGE request is checked against the peer window and delivered. -/
  | inboundMessage (l : Fin 264) (fr : Frame) (x : Fin 65536) (slot : Nat)
  /-- INBOUND_ATTENTION (R337): An inbound ATTENTION is delivered and answered OK. -/
  | inboundAttention (l : Fin 264) (fr : Frame) (x : Fin 65536) (slot : Nat)
  /-- INBOUND_CANCEL (R336): An inbound CANCEL is answered by the state of its target. -/
  | inboundCancel (l : Fin 264) (fr : Frame)
  /-- INBOUND_PROBE (R317): An inbound PROBE is answered OK. -/
  | inboundProbe (l : Fin 264) (fr : Frame)
  /-- REQ_DATA_FRAME (R332): A further request data frame of an inbound exchange is written. -/
  | reqDataFrame (l : Fin 264) (fr : Frame)
  /-- RSP_FRAME (R331): A first response frame is taken for an outbound exchange. -/
  | rspFrame (l : Fin 264) (fr : Frame)
  /-- RSP_DATA_FRAME (R331): A further response data frame is written to IN. -/
  | rspDataFrame (l : Fin 264) (fr : Frame)
  /-- EXCHANGE_TIMEOUT (R333): An exchange timer expires and the exchange is re-driven or waits. -/
  | exchangeTimeout (x : Fin 65536)
  /-- WAIT_RETRY (R331): WAIT_RETRY elapses for a PATH_WAIT exchange and it is re-driven. -/
  | waitRetry (x : Fin 65536)
  /-- EXCHANGE_OUTCOME_DURABLE (R331): The outcome record is durable; the final completion is written. -/
  | exchangeOutcomeDurable (x : Fin 65536)
  /-- COMMIT_STAGE (R345): Copies a waiting commit descriptor and payload into staging once room exists. -/
  | commitStage
  /-- STRONGROOM_WRITE_DONE (R352): A record's local Strongroom write verifies; the Ledger hashes it. -/
  | strongroomWriteDone (jsn : Word) (remap fail : Bool)
  /-- BATCH_TIMER (R354): A batch closes 1 ms after its first record and is destaged. -/
  | batchTimer (x : Fin 65536) (ce : Option (Fin 8))
  /-- EPOCH_SYNC_EDGE (R359): An EPOCH_SYNC edge reaches the Ledger and may end the epoch. -/
  | epochSyncEdge
  /-- EPOCH_DECISION (R359): At N+W+3 without an accepted edge the epoch ends at N. -/
  | epochDecision
  /-- RECEIPT_WINDOW_REBUILD (R355): Rebuilds Receipt windows from journal records. -/
  | receiptWindowRebuild (q : Fin 64) (recs : List JRec) (gaps : Nat)
  /-- LDG_READ (R364): Loads 256 bytes of the Ledger anchors into LDG_READ_DATA. -/
  | ldgRead (w : Writer) (v : Word) (be : Byte)
  /-- DUPLEX_FORMING (R367): ENABLE with a Courier lane ACTIVE to a module starts FORMING. -/
  | duplexForming
  /-- HELLO_TIMER (R369): Sends HELLO every 4,000 ticks in FORMING. -/
  | helloTimer
  /-- HELLO (R368): A HELLO item resolves roles. -/
  | hello (j : Fin 8) (fr : Frame)
  /-- HEARTBEAT_TIMER (R374): Sends a HEARTBEAT every 20 µs on each Courier link. -/
  | heartbeatTimer
  /-- SIDEBAND_TIMER (R375): Sends a heartbeat word on the sideband. -/
  | sidebandTimer
  /-- HEARTBEAT (R373): A Courier HEARTBEAT is heard and Device Time offset measured. -/
  | heartbeat (j : Fin 8) (fr : Frame)
  /-- TIME_SLEW (R373): Repeats or skips one Device Time value once in 1,024 ticks. -/
  | timeSlew
  /-- SIDEBAND_WORD (R376): A sideband word is checked and counted as heard. -/
  | sidebandWord (chars : BitVec 72)
  /-- GOODBYE (R376): A GOODBYE from the partner is acted on. -/
  | goodbye (j : Fin 8) (fr : Frame)
  /-- MIRROR_ACK (R370): MSN_APPLIED frees held items and completes commits waiting for the partner. -/
  | mirrorAck (j : Fin 8) (fr : Frame)
  /-- JOURNAL_ITEM (R371): A mirrored journal record is made durable on the standby. -/
  | journalItem (j : Fin 8) (fr : Frame)
  /-- WORK_ORDER_ITEM (R369): A mirrored Work Order Table entry is written. -/
  | workOrderItem (j : Fin 8) (fr : Frame)
  /-- EXCHANGE_ITEM (R369): A mirrored Exchange Table entry is written. -/
  | exchangeItem (j : Fin 8) (fr : Frame)
  /-- PART_WRITE_ITEM (R371): A mirrored PART write is applied or stored. -/
  | partWriteItem (j : Fin 8) (fr : Frame)
  /-- VAULT_ITEM (R260): A mirrored key change is installed and backed up. -/
  | vaultItem (j : Fin 8) (fr : Frame)
  /-- SNAPSHOT (R382): A resync snapshot item is written in place. -/
  | snapshot (j : Fin 8) (fr : Frame)
  /-- SNAPSHOT_END (R382): Ends the resync. -/
  | snapshotEnd (j : Fin 8) (fr : Frame)
  /-- MIGRATE (R249): A migration transfer arrives over the Courier Link. -/
  | migrate (j : Fin 8) (fr : Frame)
  /-- MIGRATE_RSP (R249): The answer to a Courier migration transfer arrives. -/
  | migrateRsp (j : Fin 8) (fr : Frame)
  /-- MAILBOX (R243): Partner mailbox message arrives over the Courier Link. -/
  | mailbox (j : Fin 8) (fr : Frame)
  /-- MAILBOX_ACK (R243): Partner mailbox acknowledgement arrives. -/
  | mailboxAck (j : Fin 8) (fr : Frame)
  /-- PATH_SILENT (R367): One heartbeat path is silent for 100 µs; DEGRADED is set. -/
  | pathSilent (courier : Bool)
  /-- PATHS_HEARD (R367): Both paths heard again for 100 µs; DEGRADED clears. -/
  | pathsHeard
  /-- SELF_FENCE (R377): The active hears neither path for 60 µs and fences. -/
  | selfFence
  /-- PARTNER_LOSS (R367): The standby hears neither path for 100 µs and promotes or holds. -/
  | partnerLoss
  /-- PROMOTION_COMPLETE (R378): Writes the takeover seal, opens admission and signals TAKEOVER. -/
  | promotionComplete
  /-- CONFIRM_ALONE (R367): Lets a FENCED or HOLD module run alone. -/
  | confirmAlone (w : Writer) (v : Word) (be : Byte)
  /-- HANDOVER (R383): Stops admission and hands the active role over. -/
  | handover (w : Writer) (v : Word) (be : Byte)
  /-- FAULT_EVENT (R390): Counts a fault event in its window and takes the reaction. -/
  | faultEvent (src : Fin 256) (ev : Fin 16)
  /-- MODULE_RESET_BEGIN (R394): The module reset begins once the RESET seal is durable. -/
  | moduleResetBegin (st : Straps)
  /-- LANTERN_TOGGLE (R459): Inverts LANTERN every 4,000 ticks. -/
  | lanternToggle
  /-- FLT_WINDOW_WRITE (R389): Sets the window size and re-arms the source. -/
  | fltWindowWrite (w : Writer) (src : Fin 256) (v : Word) (be : Byte)
  /-- FLT_FORCE (R399): Injects one instance of a named event. -/
  | fltForce (w : Writer) (src : Fin 256) (v : Word) (be : Byte)
  /-- FLT_STATUS_CLEAR (R392): Clears event bits written with 1. -/
  | fltStatusClear (w : Writer) (src : Fin 256) (v : Word) (be : Byte)
  /-- KICK (R397): Restarts the Steward watchdog period. -/
  | kick (w : Writer) (v : Word) (be : Byte)
  /-- WDT_EXPIRED (R402): The watchdog period passes without KICK. -/
  | wdtExpired
  /-- CAP_LOCK_FLT (R448): Locks FLT_WDT.EN and K. -/
  | capLockFlt (w : Writer) (v : Word) (be : Byte)
  /-- VAUX_GOOD (R414): VAUX above 3.1 V for 10 ms powers the retention domain. -/
  | vauxGood
  /-- VIN_GOOD (R414): VIN at least 40 V for 10 ms starts soft-start. -/
  | vinGood
  /-- SOFTSTART_DONE (R408): Soft-start completes; power good and HOLDUP charging begin. -/
  | softstartDone (mv : BitVec 16)
  /-- HOLDUP_MEASURED (R410): HOLDUP reaches 30 V; capacitance is measured and the target set or charging stopped. -/
  | holdupMeasured (ticks : BitVec 32)
  /-- HIB_READY (R410): HOLDUP reaches 45 V. -/
  | hibReady
  /-- HOLDUP_TARGET (R410): HOLDUP reaches its target and is held. -/
  | holdupTarget
  /-- HOLDUP_LOW (R410): HOLDUP falls below 45 V outside a Hibernate. -/
  | holdupLow (mv : BitVec 16)
  /-- HOLDUP_SHORT (R412): A short on HOLDUP switches the charger off. -/
  | holdupShort
  /-- HOLDUP_BLEED_DONE (R410): The bleeder brings HOLDUP below 10 V before measurement. -/
  | holdupBleedDone
  /-- ATTN (R415): ATTN_N low for 50 ms starts a removal. -/
  | attn
  /-- REMOVE_REQ (R415): Starts a removal. -/
  | removeReq (w : Writer) (v : Word) (be : Byte)
  /-- REMOVE_DRAIN_END (R415): Work drains or DRAIN_MS passes; seal, image and REMOVE_OK follow. -/
  | removeDrainEnd (expired : Bool)
  /-- SAG (R416): A sag is detected and the Hibernate sequence begins. -/
  | sag (k : SagKind) (vauxNear : Bool)
  /-- HIBERNATE_RECORDS_WRITTEN (R419): Every staged record is written; the SAG seal is signed. -/
  | hibernateRecordsWritten
  /-- HIBERNATE_SEAL_WRITTEN (R419): The SAG seal is durable and the image write begins. -/
  | hibernateSealWritten
  /-- HIBERNATE_IMAGE_WRITTEN (R421): The image and marker are written and the hold-up domain powers off. -/
  | hibernateImageWritten (ticks : BitVec 24) (mj : BitVec 16)
  /-- VIN_RETURN_RESUME (R422): VIN good for 100 ms after a Hibernate starts power-on with resume. -/
  | vinReturnResume (st : Straps)
  /-- POWER_PERIOD (R407): A 100 µs power period ends and throttling follows LIMIT_W. -/
  | powerPeriod (mv ma watts : BitVec 16)
  /-- THERMAL_SAMPLE (R424): Reads the sensors every 10 µs and sets throttle and alert. -/
  | thermalSample (temps : List (BitVec 8))
  /-- OVERTEMP_RESUME (R425): After 10 s and cooled sensors, power-on with resume starts. -/
  | overtempResume (temps : List (BitVec 8)) (st : Straps)
  /-- VIN_LOW (R416): VIN below 40 V for 40,000 ticks without a sag. -/
  | vinLow
  /-- VIN_HIGH (R416): VIN above 60 V for 800 ticks. -/
  | vinHigh
  /-- RAIL_FAULT (R426): A compute-die rail leaves regulation and is switched off. -/
  | railFault (die : Fin 2)
  /-- POWER_GOOD (R427): Power good starts power-on and latches the straps. -/
  | powerGood (st : Straps)
  /-- BOOT_STAGE_DONE (R432): A boot stage completes and the next begins. -/
  | bootStageDone (ms : BitVec 32) (facts : BootFacts)
  /-- RECOVERY_MESSAGE (R434): The boot ROM takes a recovery image from the PF0 mailbox. -/
  | recoveryMessage (img : RecImage)
  /-- MODULE (R394): RST_CTL.MODULE starts the module reset sequence. -/
  | moduleReset (w : Writer) (v : Word) (be : Byte)
  /-- PAIR_GO (R428): Resets the selected pair. -/
  | pairGo (w : Writer) (v : Word) (be : Byte)
  /-- MGMT_WRITE (R446): Applies a write to a register without its own row and records it. -/
  | mgmtWrite (w : Writer) (t : MTgt) (v : Word) (be : Byte)
  /-- PART_BP_READ (R445): Reads and clears the back-pressure counters. -/
  | partBpRead (q : Fin 64) (be : Byte)
  /-- PWR_VIN_READ (R445): Reads PWR_VIN and clears PEAK_W. -/
  | pwrVinRead (be : Byte)
  /-- I3C_PRIVATE_WRITE (R463): Sets the telemetry index. -/
  | i3cPrivateWrite (a : BitVec 7) (data : Bytes) (parityOk : Bool)
  /-- I3C_PRIVATE_READ (R463): Returns the indexed register and advances the index. -/
  | i3cPrivateRead (a : BitVec 7) (count : Nat)
  /-- ENTDAA (R462): Takes a dynamic address by ENTDAA. -/
  | entdaa (da : BitVec 7) (won : Bool)
  /-- SETDASA (R462): Takes a dynamic address from the static address. -/
  | setdasa (sa da : BitVec 7)
  /-- SETNEWDA (R462): Changes the dynamic address. -/
  | setnewda (a : BitVec 7) (da : BitVec 7)
  /-- RSTDAA (R462): Resets the dynamic address. -/
  | rstdaa (a : Option (BitVec 7))
  /-- GETPID (R462): Returns the Provisional ID. -/
  | getpid (a : BitVec 7)
  /-- GETBCR (R462): Returns BCR. -/
  | getbcr (a : BitVec 7)
  /-- GETDCR (R462): Returns DCR. -/
  | getdcr (a : BitVec 7)
  /-- GETSTATUS (R462): Returns target status. -/
  | getstatus (a : BitVec 7)
  /-- GETMWL (R462): Returns the maximum write length. -/
  | getmwl (a : BitVec 7)
  /-- GETMRL (R462): Returns the maximum read length. -/
  | getmrl (a : BitVec 7)
  /-- ENEC (R462): Accepted without effect. -/
  | enec (a : Option (BitVec 7)) (events : Byte)
  /-- DISEC (R462): Accepted without effect. -/
  | disec (a : Option (BitVec 7)) (events : Byte)
  /-- TAP_ACTIVE (R464): The TAP leaves Test-Logic-Reset. -/
  | tapActive
  /-- BYPASS (R464): Selects the bypass register. -/
  | bypass
  /-- SAMPLE_PRELOAD (R464): Samples or preloads the boundary register. -/
  | samplePreload (shift : List Bool)
  /-- IDCODE (R464): Selects the IDCODE register. -/
  | idcode
  /-- EXTEST (R464): Stops LANTERN and hands the pins to the boundary register. -/
  | extest (shift : List Bool)
  /-- CLAMP (R464): Stops LANTERN and clamps the pins. -/
  | clamp
  /-- HIGHZ (R464): Stops LANTERN and floats the pins. -/
  | highz
  /-- UNDEFINED_OPCODE (R93): An instruction word with major opcode 0x28–0x3C or 0x3F, or an X or SD extended opcode without a dispatch entry, raises an Operation exception. -/
  | undefinedOpcode (c : Fin 96) (word : BitVec 32)
  /-- HOST_INVALID_OPCODE (R206): A host descriptor whose opcode is undefined or reserved for its function completes with INVALID_OPCODE and no side effect. -/
  | hostInvalidOpcode (wo : Fin 32768) (d : Desc)
  /-- CRYPTO_INVALID_OPCODE (R264): A fetched crypto request with an opcode outside the table completes with INVALID_OPCODE. -/
  | cryptoInvalidOpcode (q : Fin 64) (n : Fin 32)
  /-- COMPRESS_INVALID_OPCODE (R285): A fetched compression request with an opcode other than COMPRESS or DECOMPRESS completes with INVALID_OPCODE. -/
  | compressInvalidOpcode (q : Fin 64) (n : Fin 32)
  /-- XSTART_INVALID_XTYPE (R328): An admitted exchange start whose XTYPE is above 5 completes with INVALID_FIELD and sends nothing. -/
  | xstartInvalidXtype (q : Fin 64) (n : Fin 32) (x : Fin 65536)
  /-- INBOUND_RESERVED_XTYPE (R317): An inbound request of a reserved exchange type 7–15 is answered with UNSUPPORTED and is recorded in no window. -/
  | inboundReservedXtype (l : Fin 264) (fr : Frame)
  /-- VF_ENABLE_SET (R194): Setting VF Enable in PF0's SR-IOV capability brings up NumVFs virtual functions and their function pages. -/
  | vfEnableSet (port : Fin 2)
  /-- PAIR_RESET_DONE (R428): A pair reset finishes within 20 µs, after its L2 has been written back, and leaves the pair in its start state. -/
  | pairResetDone (p : Fin 48)
  /-- LOSSY_END (R355): REBUILD_S seconds of operation after admission opens following a rebuild, the Receipt windows lose their LOSSY marking. -/
  | lossyEnd
  /-- VAUX_LOW (R414): VAUX falls below 3.1 V while no sag is detected from it, for example during a Hibernate; VAUX_LOW is counted and SURPRISE may be set. -/
  | vauxLow
  /-- HOLDUP_COLLAPSE (R426): HOLDUP falls below 36 V, or collapses from a short, during a Hibernate before the marker is written, so the hold-up domain powers off with the image invalid. -/
  | holdupCollapse
deriving DecidableEq, Repr, Inhabited

end Sys2Proof
end

