-- ==== Sys2Proof/Decode.lean ====
section
/-!
DEFINITION. The command that a word of the command table spells: no row of spec/opcode_table.json gives bits, so no
word spells a command.
-/
namespace Sys2Proof

/-- The command spelled by `nbits` bits `w`: none, since no row of the table has an encoding. -/
def decodeTableWord (_nbits _w : Nat) : Option Instr := none

end Sys2Proof
end

