-- ==== Sys2Proof/Config.lean ====
section
/-!
DEFINITION. Free values and uninterpreted functions: what the spec leaves open, or leaves to a cited standard. No
constant here has a body, so no proof can lean on a value.
-/
namespace Sys2Proof.Config

/-- The n-th free value (log entry 1): a value the spec leaves undefined, unspecified, random or measured. -/
opaque freeWord : Nat → Word
/-- Bytes of the n-th free value (log entry 1). -/
opaque freeByte : Nat → Nat → Byte

/-- Hash functions of R255 and R349 by hash code: 1 SHA-256, 2 SHA-384, 3 SHA-512, 4 SHA3-256, 5 SHA3-384, 6 SHA3-512,
7 SHAKE128, 8 SHAKE256 (R263); output bytes wanted, message (log entry 5). -/
opaque hash : Nat → Nat → Bytes → Bytes
/-- ECDSA r then s of a digest (R253): curve, private key, digest, nonce. -/
opaque ecdsaSign : Nat → Bytes → Bytes → Bytes → Bytes
/-- ECDSA verification: curve, public key, digest, signature. -/
opaque ecdsaVerify : Nat → Bytes → Bytes → Bytes → Bool
/-- ECDH and SP 800-56C derivation of a 32-byte key (R264 0x12): curve, private key, peer point, derivation info. -/
opaque ecdh : Nat → Bytes → Bytes → Bytes → Bytes
/-- The peer point lies on the curve (SP 800-56A). -/
opaque ecPointOk : Nat → Bytes → Bool
/-- Private key material from random bytes: key TYPE, PARAM, random. -/
opaque keyGen : Nat → Nat → Bytes → Bytes
/-- Public key encoding of private key material: TYPE, PARAM, material. -/
opaque publicOf : Nat → Nat → Bytes → Bytes
/-- Ed25519 signature: private key, message. -/
opaque edSign : Bytes → Bytes → Bytes
/-- Ed25519 verification: public key, message, signature. -/
opaque edVerify : Bytes → Bytes → Bytes → Bool
/-- RSA signature: padding, hash, key, message or digest, salt. -/
opaque rsaSign : Nat → Nat → Bytes → Bytes → Bytes → Bytes
/-- RSA verification: padding, hash, salt length, key, message or digest, signature. -/
opaque rsaVerify : Nat → Nat → Nat → Bytes → Bytes → Bytes → Bool
/-- RSA OAEP encryption: hash, key, message, label, seed. -/
opaque rsaEncrypt : Nat → Bytes → Bytes → Bytes → Bytes → Bytes
/-- RSA OAEP decryption: hash, key, ciphertext, label; none when the padding does not check. -/
opaque rsaDecrypt : Nat → Bytes → Bytes → Bytes → Option Bytes
/-- Modulus length in bytes of RSA key material. -/
opaque rsaLen : Bytes → Nat
/-- ML-DSA signature: parameter set, key, context, message, random. -/
opaque mldsaSign : Nat → Bytes → Bytes → Bytes → Bytes → Bytes
/-- ML-DSA verification: parameter set, key, context, message, signature. -/
opaque mldsaVerify : Nat → Bytes → Bytes → Bytes → Bytes → Bool
/-- ECLK that one ML-DSA signature takes (R254 gives a mean): parameter set, key, message, random. -/
opaque mldsaCost : Nat → Bytes → Bytes → Bytes → Nat
/-- ML-KEM encapsulation: parameter set, key, random; shared secret and ciphertext. -/
opaque mlkemEncaps : Nat → Bytes → Bytes → Bytes × Bytes
/-- ML-KEM decapsulation: parameter set, key, ciphertext. -/
opaque mlkemDecaps : Nat → Bytes → Bytes → Bytes
/-- Block-cipher modes: cipher (1 AES, 2 TDEA), mode, encrypt, key, second key, IV, data. -/
opaque cipher : Nat → Nat → Bool → Bytes → Bytes → Bytes → Bytes → Bytes
/-- AES-GCM: encrypt, key, IV, AAD, data; output and full 16-byte tag. -/
opaque gcm : Bool → Bytes → Bytes → Bytes → Bytes → Bytes × Bytes
/-- HMAC: hash code, key, message. -/
opaque hmac : Nat → Bytes → Bytes → Bytes
/-- CMAC: key, message. -/
opaque cmac : Bytes → Bytes → Bytes
/-- ISO 9797-1 MAC algorithm 3: padding method, key, message. -/
opaque mac3 : Nat → Bytes → Bytes → Bytes
/-- The clear PIN of a block (ISO 9564-1): format, key, PAN digits, block; none when the block does not check. -/
opaque pinOpen : Nat → Bytes → Bytes → Bytes → Option Bytes
/-- A PIN block (ISO 9564-1): format, key, PAN digits, PIN, random fill. -/
opaque pinSeal : Nat → Bytes → Bytes → Bytes → Bytes → Bytes
/-- SP 800-108 counter-mode derivation: derivation key TYPE, key, context, length. -/
opaque kdf : Nat → Bytes → Bytes → Nat → Bytes
/-- Odd parity of TDEA key bytes is adjusted as SP 800-67 gives. -/
opaque tdeaParity : Bytes → Bytes
/-- X9.143 unwrapping: protection key, block; MAC failure none, else the record's TYPE, PARAM, USAGE, LABEL, material
(R273); `usageOk` false for a key usage that R273 refuses. -/
opaque unwrap : Bytes → Bytes → Option (Bool × VRec)
/-- The version ID byte of a key block. -/
opaque blockVersion : Bytes → Byte
/-- X9.143 wrapping, version D: protection key, record. -/
opaque wrap : Bytes → VRec → Bytes
/-- Granules of 64 bytes that a record takes (R257 gives no overhead): material length. -/
opaque granules : Nat → Nat
/-- Length in bytes of symmetric key material by TYPE and PARAM code (R258 gives no codes); none for no such code. -/
opaque keyLen : Nat → Nat → Option Nat
/-- Granules that a creation needs, as far as its request tells: opcode, VARIANT, input length. -/
opaque needGranules : Nat → Nat → Nat → Nat
/-- PARAM code of an AES-256 key. -/
opaque aes256 : BitVec 8
/-- The Partition Image that a string of bytes spells (R246, whose header offsets the spec does not give). -/
opaque imageParse : Bytes → PImage
/-- The bytes of a Partition Image (R246). -/
opaque imageBytes : PImage → Bytes

/-- Compressed stream (R282): FORMAT, LEVEL, WINDOW_LOG, CHECKSUM, input. -/
opaque compress : Nat → Nat → Nat → Bool → Bytes → Bytes
/-- Decompression (R282, R287): FORMAT, input; status code and output. -/
opaque decompress : Nat → Bytes → BitVec 8 × Bytes
/-- Check value of R286: FORMAT, uncompressed data. -/
opaque checkValue : Nat → Bytes → BitVec 32
/-- ECLK that a compression request takes (R283 gives minima only): opcode, FORMAT, LEVEL, input. -/
opaque compressCost : Nat → Nat → Nat → Bytes → Nat

/-- Contents of the control-store ROM (06_microcode.md gives none). -/
opaque romWord : Nat → BitVec 144
/-- START field of a dispatch entry. -/
opaque dispatchStart : Nat → Nat
/-- Check bits of a microword fit its data bits (R137). -/
opaque wordOk : BitVec 144 → Bool
/-- Whether a micro-routine that a patch has changed breaks its bounds (R141): extended opcode, free-value number. -/
opaque patchFault : Nat → Nat → Bool
/-- MISR contribution of a microcoded instruction (R28): extended opcode, free-value number. -/
opaque microFold : Nat → Nat → Word

/-- Whether a translation held by a TLB is used at a lookup (R187, R188), by free-value number. -/
opaque tlbUse : Nat → Bool
/-- Which line a full L2 set or Tag Buffer set gives up (R150, R179), by free-value number. -/
opaque victim : Nat → Nat → Nat

/-- 256 bytes of the Ledger anchors region (R351, whose layout R364 leaves open): seals, change records, offset. -/
opaque anchors : List Bytes → List Bytes → Nat → Bytes

/-- I3C constants (21_pins_package.md): 0 BCR, 1 DCR, 2 and 3 GETMWL, 4 and 5 GETMRL. -/
opaque i3cConst : Nat → Byte
/-- Manufacturer fields of the Provisional ID and of IDCODE (21_pins_package.md). -/
opaque mipiId : BitVec 16
/-- JTAG IDCODE manufacturer field. -/
opaque jtagId : BitVec 11

end Sys2Proof.Config
end

