-- ==== Sys2Proof/Machine/Table.lean ====
section
/-!
DEFINITION. The operations of the sparse table (Sys2Proof.Tbl): read with a default, write in place, delete, form
check; and the bit-field helpers of register words.
-/
namespace Sys2Proof

/-- Entry `k` of a table, `d` where the table lists none. -/
def Tbl.get {α : Type} : Tbl α → α → Nat → α
  | [], d, _ => d
  | (k', v) :: t, d, k => if k = k' then v else Tbl.get t d k

/-- The table with entry `k` set to `v`, its numbers kept rising. -/
def Tbl.set {α : Type} : Tbl α → Nat → α → Tbl α
  | [], k, v => [(k, v)]
  | (k', v') :: t, k, v =>
    if k < k' then (k, v) :: (k', v') :: t
    else if k = k' then (k, v) :: t
    else (k', v') :: Tbl.set t k v

/-- The table without entry `k`. -/
def Tbl.del {α : Type} (t : Tbl α) (k : Nat) : Tbl α := t.filter fun e => e.1 != k

/-- Entry `k` if the table lists it. -/
def Tbl.find {α : Type} : Tbl α → Nat → Option α
  | [], _ => none
  | (k', v) :: t, k => if k = k' then some v else Tbl.find t k

/-- The table with entry `k` (default `d`) changed by `f`. -/
def Tbl.upd {α : Type} (t : Tbl α) (d : α) (k : Nat) (f : α → α) : Tbl α :=
  Tbl.set t k (f (Tbl.get t d k))

/-- Every entry changed by `f`. -/
def Tbl.vmap {α : Type} (f : α → α) : Tbl α → Tbl α
  | [] => []
  | (k, v) :: t => (k, f v) :: Tbl.vmap f t

/-- Every key of the table lies above `n`. -/
def Tbl.above {α : Type} (n : Nat) : Tbl α → Bool
  | [] => true
  | (k, _) :: t => decide (n < k) && Tbl.above n t

/-- The keys of the table rise strictly. -/
def Tbl.sorted {α : Type} : Tbl α → Bool
  | [] => true
  | (k, _) :: t => Tbl.above k t && Tbl.sorted t

/-- Write in canonical form: an entry equal to what an unlisted key reads as is left out. -/
def Tbl.put {α : Type} [DecidableEq α] (t : Tbl α) (d : α) (k : Nat) (v : α) : Tbl α :=
  if v = d then Tbl.del t k else Tbl.set t k v

/-- No listed entry equals the value `d` of an unlisted key. -/
def Tbl.noDefault {α : Type} [DecidableEq α] (d : α) : Tbl α → Bool
  | [] => true
  | (_, v) :: t => decide (v ≠ d) && Tbl.noDefault d t

/-- The canonical form: keys strictly rising, no entry equal to the default. -/
def Tbl.wf {α : Type} [DecidableEq α] (d : α) (t : Tbl α) : Bool :=
  Tbl.sorted t && Tbl.noDefault d t

/-- Bits [hi:lo] of a word as a number (a register field). -/
def fld (w : Word) (hi lo : Nat) : Nat := (w.toNat / 2 ^ lo) % 2 ^ (hi + 1 - lo)

/-- Bit `i` of a word. -/
def bitOf (w : Word) (i : Nat) : Bool := w.getLsbD i

/-- The mask of bits [hi:lo]. -/
def maskOf (hi lo : Nat) : Word := (BitVec.ofNat 64 (2 ^ (hi + 1 - lo) - 1)) <<< lo

/-- The word with bits [hi:lo] replaced by `v`. -/
def setFld (w : Word) (hi lo v : Nat) : Word :=
  (w &&& ~~~ (maskOf hi lo)) ||| ((BitVec.ofNat 64 v <<< lo) &&& maskOf hi lo)

/-- The word with bit `i` replaced by `b`. -/
def setBit (w : Word) (i : Nat) (b : Bool) : Word := setFld w i i (if b then 1 else 0)

/-- Saturating increment at `m`. -/
def satInc (n m : Nat) : Nat := if n < m then n + 1 else m

/-- The number of one bits of a truth value. -/
def b2n (b : Bool) : Nat := if b then 1 else 0

end Sys2Proof
end

