-- ==== Sys2Proof/Machine/TypesCore.lean ====
section
/-!
DEFINITION. State of the processors (02_checked_execution.md, 03_jefonos_programming_model.md, 06_microcode.md), of
the caches and the coherence fabric (07_caches_coherence.md) and of memory (08_memory_translation.md), as plain types.
-/
namespace Sys2Proof

/-- What a Pair Store Gate entry does when it leaves the gate (R31, R51, R101): a store of `size` bytes from `pa`
on, within one word, a line write-back, a line flush, a translation removal (one page, or
all), a write of the Partition Control Page at offset `pa` (R32, R81). -/
inductive GateKind where
  | store
  | clean
  | flush
  | tlbi
  | tlbia
  | device
deriving DecidableEq, Repr, Inhabited

/-- A Pair Store Gate entry (R31). -/
structure GateEnt where
  kind : GateKind := .store
  pa : Nat := 0
  size : Nat := 8
  data : TWord := {}
  win : Word := 0
  passed : Bool := false
  /-- The memory word keeps its tag (R51, R77). -/
  keep : Bool := false
  /-- Made in supervisor state (a write of the page). -/
  super : Bool := false
deriving DecidableEq, Repr, Inhabited

/-- A closed window that waits for its comparison (R30): sequence, signature, the state at the boundary after
it, and the NMI that was taken there. -/
structure ClosedWin where
  seq : Word := 0
  misr : Word := 0
  after : Arch := {}
  nmi : Option (Nat × Nat) := none
deriving DecidableEq, Repr, Inhabited

/-- A translation held by a TLB (R187): `ppage` is the partition-real page number. -/
structure TlbEnt where
  asid : Nat := 0
  part : Nat := 0
  vpage : Nat := 0
  ppage : Nat := 0
  perms : Nat := 0
  log2 : Nat := 12
deriving DecidableEq, Repr, Inhabited

/-- One processor: a pair in checked mode (held at core 2p), a core in split mode. -/
structure Proc where
  a : Arch := {}
  /-- Checkpoint of the oldest window that has not passed (R33). -/
  ckpt : Arch := {}
  /-- Started by R45 or from an image, and neither fenced nor reset since. -/
  running : Bool := false
  /-- Sequence number of the oldest window that has not passed (PAIR_WINDOW_SEQ). -/
  seq : Word := 0
  /-- Stopped by R73. -/
  stopped : Bool := false
  /-- The WAIT mask while the processor waits (R69). -/
  waiting : Option Word := none
  parked : Bool := false
  /-- Stopped at a boundary by a freeze (R234). -/
  frozen : Bool := false
  /-- Open window: MISR, units, stores, PC of its first instruction (R28, R29). -/
  misr : Word := 0
  units : Nat := 0
  stores : Nat := 0
  /-- The next instruction opens a window (R29). -/
  fresh : Bool := true
  closed : List ClosedWin := []
  gate : List GateEnt := []
  /-- External operation issued and its result, and the result held for the re-execution (R32). -/
  inflight : Option (ExtOp × TWord) := none
  kept : Option (ExtOp × TWord) := none
  /-- Pending NMIs, oldest first: subcause and DETAIL (R74). -/
  nmi : List (Nat × Nat) := []
  /-- A serialising instruction has retired whose effect is not complete (R80, R81, R83, R92). -/
  ser : Bool := false
  /-- Executions of the current window that failed (R34). -/
  fails : Nat := 0
  /-- The processor waits in JCOMMIT for its descriptor to be copied (R345). -/
  inCommit : Bool := false
deriving DecidableEq, Repr, Inhabited

/-- The patch RAM and its master copy (R137, R145): the words loaded. -/
structure Ucode where
  words : Tbl (BitVec 144) := []
deriving DecidableEq, Repr, Inhabited

/-- The processors and what stands beside them. -/
structure CoreSt where
  procs : Tbl Proc := []
  /-- Processor-state image of each fenced pair (key p) or core (key 64 + core) (R37). -/
  images : Tbl ProcImg := []
  /-- What follows a fenced processor to its spare besides the image (R37): WAIT mask, external operation, NMI. -/
  left : Tbl Proc := []
  /-- Fenced processors (by core) that wait for a spare, oldest first (R44). -/
  waiting : List Nat := []
  /-- Pairs whose L2 still writes back after fencing, and whose L2 is powered down (R38). -/
  draining : List Nat := []
  l2off : List Nat := []
  /-- Pairs under reset (R428). -/
  resetting : List Nat := []
  tlb : Tbl (List TlbEnt) := []
  ucode : Ucode := {}
deriving DecidableEq, Repr, Inhabited

/-- State of a line in an L2 (R158). -/
inductive Moesi where
  | i | s | e | o | m
deriving DecidableEq, Repr, Inhabited

/-- A line in an L2: state, its 16 words, its way (R147, R158). State I with an entry is a locked way that stays reserved
for the line (R164). -/
structure L2Line where
  st : Moesi := .i
  data : List TWord := []
  way : Nat := 0
deriving DecidableEq, Repr, Inhabited

/-- Kinds of request to a home (R159). -/
inductive CReq where
  | readShared | readOwn | upgrade | writeBack | evictClean | writeFull | release | clean | flush
  | farAtomic (core : Nat) (cw : Bool) (fn : Nat) (pa : Nat) (b d : TWord)
deriving DecidableEq, Repr, Inhabited

/-- A miss entry of a pair (R152, R160): request, NACK count, backing off, STARVING, and the core whose miss it is, 0 or 1
(R150). -/
structure Miss where
  req : CReq := .readShared
  nacks : Nat := 0
  backoff : Bool := false
  starving : Bool := false
  half : Nat := 0
deriving DecidableEq, Repr, Inhabited

/-- A write-back buffer entry (R152, R170). -/
structure WbEnt where
  line : Nat := 0
  data : List TWord := []
  superseded : Bool := false
deriving DecidableEq, Repr, Inhabited

/-- A stream of full-line writes (R153): the line after the latest, full-line writes that missed, and whether the latest
came in streaming state. -/
structure Stream where
  nextLine : Nat := 0
  length : Nat := 0
  streaming : Bool := false
deriving DecidableEq, Repr, Inhabited

/-- The L2 of one pair. -/
structure L2 where
  lines : Tbl L2Line := []
  miss : Tbl Miss := []
  wb : List WbEnt := []
  streams : List Stream := []
  /-- WriteFulls in flight, oldest first: line, data, READY received (R154). -/
  wfull : List (Nat × List TWord × Bool) := []
  /-- Contention predictor, 1,024 counters (R162). -/
  pred : Tbl Nat := []
deriving DecidableEq, Repr, Inhabited

/-- A directory entry (R158): state, owner, sharers, pair of the last atomic. -/
inductive DirSt where
  | s | em | o
deriving DecidableEq, Repr, Inhabited

/-- A directory entry. -/
structure DirEnt where
  st : DirSt := .s
  owner : Nat := 0
  sharers : List Nat := []
  lastAtomic : Option Nat := none
deriving DecidableEq, Repr, Inhabited

/-- An open transaction of a home (R160): requester, request, its data, snoop answers still missing, data found. -/
structure CTxn where
  pair : Nat := 0
  req : CReq := .readShared
  full : List TWord := []
  missing : List Nat := []
  data : Option (List TWord) := none
  /-- The data came from an L2 and is newer than memory. -/
  dirty : Bool := false
  /-- State in which the owner answered that it held the line; I once it has given it up. -/
  had : Moesi := .i
  /-- The home reads the line from memory (R178). -/
  fetch : Bool := false
  /-- The line whose write from the Eviction Buffer the fill waits for (R157). -/
  waitEvb : Option Nat := none
deriving DecidableEq, Repr, Inhabited

/-- A coherence message in flight (R158–R160). -/
inductive CMsg where
  | request (pair : Nat) (line : Nat) (req : CReq) (data : List TWord)
  | snpShared (pair : Nat) (line : Nat)
  | snpClean (pair : Nat) (line : Nat)
  | snpInv (pair : Nat) (line : Nat)
  | answer (pair : Nat) (line : Nat) (had : Moesi) (data : Option (List TWord))
  | grant (pair : Nat) (line : Nat) (st : Moesi) (data : Option (List TWord))
  | ready (pair : Nat) (line : Nat)
  | wback (pair : Nat) (line : Nat)
  | nack (pair : Nat) (line : Nat)
  | atomicDone (core : Nat) (line : Nat) (old : TWord)
deriving DecidableEq, Repr, Inhabited

/-- A line held by the L3 (R156): data, dirty, way. -/
structure L3Line where
  data : List TWord := []
  dirty : Bool := false
  way : Nat := 0
  /-- False for a locked way that stays reserved for the line (R164). -/
  valid : Bool := true
deriving DecidableEq, Repr, Inhabited

/-- Caches and coherence (07_caches_coherence.md). Lines are numbered by PA div 128. -/
structure CohSt where
  l2 : Tbl L2 := []
  l3 : Tbl L3Line := []
  dir : Tbl DirEnt := []
  txn : Tbl CTxn := []
  /-- Lines blocked by a WriteFull between READY and RELEASE (R154). -/
  blocked : List Nat := []
  /-- Eviction Buffer entries: line and data (R157). -/
  evb : List (Nat × List TWord) := []
  msgs : List CMsg := []
  /-- Slices whose ways are under conversion or release, with the CAS_WAYS before it (R167). -/
  converting : Tbl Nat := []
  /-- The coherent domain is lost (R172). -/
  lost : Bool := false
deriving DecidableEq, Repr, Inhabited

/-- Memory (08_memory_translation.md): words with tags by PA div 8 (unlisted: 0 UNTYPED, R181); the tag sectors that each
Tag Buffer holds, latest first, and whether they are dirty (R179). -/
structure MemSt where
  words : Tbl TWord := []
  tagBuf : Tbl (List (Nat × Bool)) := []
  /-- Unmappings under way: partition, Cache-as-Store, slot (R191). -/
  unmapping : List (Nat × Bool × Nat) := []
deriving DecidableEq, Repr, Inhabited

end Sys2Proof
end

