-- ==== Sys2Proof/Machine/State.lean ====
section
/-!
DEFINITION. The state of the block as plain data, the reasons a step can stop, and the state right after reset.
-/
namespace Sys2Proof.Machine

/-- What is fixed at manufacture: variant (R1), stepping, identity and fuse values (R449, R450), control-store ROM
identifier and its minimum patch revision (06_microcode.md). -/
structure Fuse where
  small : Bool := false
  stepping : BitVec 8 := 0
  ident : BitVec 128 := 1
  minFwRev : BitVec 32 := 0
  romId : BitVec 32 := 0
  ucsMinRev : BitVec 32 := 0
deriving DecidableEq, Repr, Inhabited

/-- What leaves the block, in order: writes to host memory, MSI-X messages, frames and Courier items, sideband words,
Steward interrupts and NMIs, reads of host memory, answers on the I3C bus and the TAP, register read data, pin levels. -/
inductive Out where
  | hostWrite (port : Nat) (addr : Word) (data : Bytes)
  | hostRead (port : Nat) (addr : Word) (len : Nat)
  | msix (port fn vector : Nat)
  | frame (link : Nat) (f : Frame)
  | sideband (chars : BitVec 72)
  | stewardInt (src ev : Nat)
  | stewardNmi (src : Nat)
  | stewardWake
  | readData (v : Word)
  | i3cByte (b : Byte)
  | tapScan (bits : List Bool)
  | pin (name : String) (level : Bool)
deriving DecidableEq, Repr, Inhabited

/-- Host interface (09_host_interface.md). Queue pairs by port × 1024 + function × 16 + number; functions by
port × 64 + function. -/
structure HostSt where
  qps : Tbl Qp := []
  wo : Tbl WoEnt := []
  msix : Tbl Msix := []
  numVfs : Tbl Nat := []
  vfEnable : Tbl Bool := []
  /-- Host Receipt windows by partition × 512 + source (R209). -/
  wins : Tbl RWin := []
  /-- Mailboxes: PF0 port × 1; partner in 2; to partner 3; partition q 3 + q; VF v of port p 256 + 64 p + v (R241). -/
  mbox : Tbl Mbox := []
  /-- FUNC_DUPLEX.TAKEOVERS (R381). -/
  takeovers : Nat := 0
deriving DecidableEq, Repr, Inhabited

/-- Partitions (10_partitions.md). -/
structure PartsSt where
  inbox : Tbl Inbox := []
  /-- Share period number, crypto ECLK and channel bytes used in it, by partition (R232). -/
  period : Nat := 0
  eclk : Tbl Nat := []
  bytes : Tbl Nat := []
  /-- Lost-processor images by partition × 64 + logical processor, and LOST_CTL.LOGICAL (R240). -/
  lost : Tbl ProcImg := []
  lostSel : Tbl Nat := []
  /-- A migration's source and target progress (R247–R249): Migration Key agreed; image assembled and its
  bytes so far; journal transfers received. -/
  migKey : List Nat := []
  migImage : Tbl PImage := []
  migBytes : Tbl Bytes := []
  migRecs : Tbl (List JRec) := []
  /-- Device Time at which each partition entered FREEZING (R355). -/
  froze : Tbl Word := []
  /-- Exported processors' images on a FROZEN partition imported here: logical processor to image (R248). -/
  resume : Tbl (List (Nat × ProcImg)) := []
deriving DecidableEq, Repr, Inhabited

/-- Crypto complex (11_crypto_complex.md). Queues by partition × 32 + number; requests by request slot; vault records
by domain × 16384 + index. -/
structure CrySt where
  queues : Tbl Pq := []
  reqs : Tbl Req := []
  vault : Tbl VRec := []
  /-- Next generation of each index that has been used (R257). -/
  gens : Tbl (BitVec 32) := []
  changes : List VChange := []
  combos : Tbl Combo := []
  /-- DRBG instances: generate calls since the last reseed and its tick (R256). -/
  calls : Tbl Nat := []
  reseeded : Tbl Word := []
  /-- Requests fetched so far, and what the erasure of each DESTROYING record completes (R261). -/
  fetched : Nat := 0
  erasing : Tbl VFor := []
deriving DecidableEq, Repr, Inhabited

/-- Compression engines and Block Mover (12_compression_mover.md). -/
structure CmpSt where
  queues : Tbl Pq := []
  reqs : Tbl Req := []
  runs : Tbl MovRun := []
  /-- Channels whose last run's writes are not yet visible, and SYNC reads that wait: channel, core (R293). -/
  unsettled : List Nat := []
  syncs : List (Nat × Nat) := []
deriving DecidableEq, Repr, Inhabited

/-- Exchange layer (14_channel_exchanges.md). -/
structure XchgSt where
  queues : Tbl Pq := []
  table : Tbl XtEnt := []
  /-- Receipts of peers, by DOMAIN and Receipt, cancelled before they were known (R336). -/
  cancelled : List (Word × Word) := []
  /-- Peer windows of each partition (R338). -/
  pwins : Tbl (List PWin) := []
  /-- Sequence of the next PROBE Receipt (R322), and of context 0's migration transfers (R249). -/
  probeSeq : Nat := 0
  migSeq : Nat := 0
deriving DecidableEq, Repr, Inhabited

/-- Journal unit, Strongroom and Ledger (15_journal_ledger.md). -/
structure JrnSt where
  ring : List JEnt := []
  commits : List CommitReq := []
  batch : Option Batch := none
  sent : List Batch := []
  batchNo : Nat := 0
  /-- Rebuilds whose windows are LOSSY: tick at which admission opened (R355). -/
  lossyFrom : Option Word := none
  /-- Seals of the Ledger anchors, latest first, and the change-stream ring, latest first. -/
  seals : List Seal := []
  changeRing : List JRec := []
  racc : Bytes := []
  cacc : Bytes := []
  records : Word := 0
  changes : Word := 0
  lastJsn : Word := 0xFFFFFFFFFFFFFFFF
  /-- The Ledger runs (from boot stage 9), its current epoch carries RESUMED, L in force, the accepted edge. -/
  running : Bool := false
  resumed : Bool := false
  len : Word := 400000
  /-- Nominal boundary N of the current epoch. -/
  nominal : Word := 400000
  /-- End of the latest acceptance window in which an edge was accepted. -/
  accepted : Option Word := none
  marks : List EndMark := []
  remapped : Nat := 0
  /-- END of the latest seal that is durable and mirrored (R353). -/
  sealedTo : Word := 0
deriving DecidableEq, Repr, Inhabited

/-- Duplex (16_duplex.md). -/
structure DpxSt where
  /-- Role resolved in FORMING: active (true) or standby. -/
  role : Option Bool := none
  hello : Option (Hello × BitVec 32) := none
  pairKey : Bool := false
  timeOk : Bool := false
  resynced : Bool := false
  /-- VL3 items sent and not yet covered by MSN_APPLIED (active); items received ahead of order (standby). -/
  held : List CItem := []
  ahead : List CItem := []
  /-- MSN of the SNAPSHOT_END sent (R382). -/
  endMsn : Option Nat := none
  /-- Reason of the GOODBYE that announced the loss now promoted from, 0 for silence (R378). -/
  announced : Nat := 0
  /-- Mirrored PART and XT_PWIN registers that the standby only stores (R371). -/
  shadow : Tbl Word := []
  dropped : Bool := false
  /-- Device Time of the last heartbeat heard on each path, and since when both have been heard. -/
  courierAt : Word := 0
  sideAt : Word := 0
  /-- θ of the last measurement and how many in a row exceeded 4 ticks (R373). -/
  theta : Int := 0
  thetaRun : Nat := 0
  hbSeq : Nat := 0
  /-- The standby's mirrored records, and the partner's seals among them. -/
  mirror : List MEnt := []
  partnerSeals : List Seal := []
  /-- The partner's mirrored COMMIT, OUTCOME and CHANGE records since its last mirrored seal (R379). -/
  since : List JRec := []
  partnerDestaged : Word := 0
  /-- After a takeover: the JSN from which the partner's mirrored records go into batches of this module (R379). -/
  adopt : Option Word := none
  handover : Bool := false
  holds : Bool := false
  /-- CONFIRM_ALONE has ended FORMING since the reset (R438). -/
  confirmed : Bool := false
deriving DecidableEq, Repr, Inhabited

/-- Fault logic (17_faults.md): current window of each source, events held before the first arming, events raised and
not yet taken, sources armed. -/
structure FltSt where
  win : Tbl Nat := []
  armed : Bool := false
  early : List FltEv := []
  queue : List FltEv := []
  /-- The sequence of a module reset is under way (R394): reset cause and source. -/
  reset : Option (Nat × Nat) := none
  /-- Source, event and tick of the last such sequence, as the Strongroom keeps them (R394). -/
  log : Option (Nat × Nat × Word) := none
  /-- Device Time at which the period of the Steward watchdog began (FLT_WDT). -/
  kicked : Word := 0
deriving DecidableEq, Repr, Inhabited

/-- A Hibernate image (R421): header, the body's Hub Control SRAM (R183), marker. -/
structure HibImage where
  cause : Nat := 0
  seq : Word := 0
  stopTick : Word := 0
  nextJsn : Word := 0
  epoch : Word := 0
  nextMsn : Word := 0
  tgen : BitVec 32 := 0
  ident : BitVec 128 := 0
  wasActive : Bool := true
  host : HostSt := {}
  parts : PartsSt := {}
  cryQueues : Tbl Pq := []
  cmpQueues : Tbl Pq := []
  xchg : XchgSt := {}
  surprise : Bool := false
  marker : Bool := false
deriving DecidableEq, Repr, Inhabited

/-- Power (18_power_hotplug.md): rails, HOLDUP charger, sensors' levels, Hibernate and removal. -/
structure PwrSt where
  powered : Bool := true
  measuring : Bool := false
  bleeder : Bool := false
  levels : Tbl Nat := []
  powerLevel : Nat := 0
  phase : HibPhase := .idle
  cause : Nat := 0
  stopTick : Word := 0
  surprise : Bool := false
  drain : DrainPhase := .none
  slotA : Option HibImage := none
  slotB : Option HibImage := none
  hibSeq : Word := 0
  tempAlert : Bool := false
  lantern : Bool := false
  railOff : List Nat := []
deriving DecidableEq, Repr, Inhabited

/-- Boot (19_bringup.md), with the firmware store's contents. -/
structure BootSt where
  booting : Bool := true
  admission : Bool := false
  /-- Admission has opened since power-on or module reset (R426). -/
  opened : Bool := false
  bankA : Option FwImage := none
  bankB : Option FwImage := none
  patch : Option PatchImg := none
  saved : Tbl Word := []
  savedParts : Tbl Nat := []
  /-- Restored entries wait for a role (R438). -/
  held : Bool := false
  resumeSlot : Option Bool := none
  /-- The boot ROM waits for a recovery message (R434). -/
  recovering : Bool := false
  /-- The reference tick R of a rebuild (R355): STOP_TICK of the image resumed, or T0 − 1. -/
  ref : Word := 0
deriving DecidableEq, Repr, Inhabited

/-- I3C target and TAP (21_pins_package.md). -/
structure PinSt where
  dynAddr : Option (BitVec 7) := none
  index : Nat := 0
  tapActive : Bool := false
  tapInstr : Nat := 0
  boundary : List Bool := []
  pinsHeld : Bool := false
deriving DecidableEq, Repr, Inhabited

/-- The state of the block. -/
structure State where
  /-- Commands that wait, first in first out. -/
  pending : List Instr := []
  /-- What has left the block, oldest first. -/
  out : List Out := []
  /-- The model's own: how many free values have been drawn. -/
  free : Nat := 0
  fuse : Fuse := {}
  /-- Device Time and its distribution stage (R19). -/
  now : Word := 0
  nowStage : Word := 0
  /-- Registers of the management space by address; an unlisted one holds its reset value (Machine/Regs.lean). -/
  regs : Tbl Word := []
  core : CoreSt := {}
  coh : CohSt := {}
  mem : MemSt := {}
  host : HostSt := {}
  parts : PartsSt := {}
  cry : CrySt := {}
  cmp : CmpSt := {}
  link : Tbl LinkSt := []
  xchg : XchgSt := {}
  jrn : JrnSt := {}
  dpx : DpxSt := {}
  flt : FltSt := {}
  pwr : PwrSt := {}
  boot : BootSt := {}
  pin : PinSt := {}
deriving DecidableEq, Repr, Inhabited

/-- Reasons for a fault: none of the spec's behaviours stops the block, so the model has no fault of its own beyond
this one, which no meaning raises. -/
inductive Fault where
  /-- Raised by nothing; safe. -/
  | none
deriving DecidableEq, Repr, Inhabited

/-- Reasons for a refusal. -/
inductive Refusal where
  /-- A command whose meaning the model does not have yet; raised by its arm of the dispatch. Safe: the block stops. -/
  | notModelled (mnemonic : String)
deriving DecidableEq, Repr, Inhabited

/-- The block right after a power-on reset, before boot stage 1: RST_CAUSE.CAUSE reads 1 (19_bringup.md). -/
def State.reset : State := { regs := [(0x100408, 1)] }

end Sys2Proof.Machine
end

