-- ==== Sys2Proof/Machine/Regs.lean ====
section
/-!
DEFINITION. The management register space (20_register_map.md): the table of its registers with the access code of
every field (R10) and the reset values the chapters give, and reading and writing a register's stored bits.
-/
namespace Sys2Proof.Machine

/-- A register of the management space: base, two nested replications (count, stride), masks of its fields by access
code (RW includes RWL; `lk` marks the RWL fields), the reserved bits, and its reset value. -/
structure RegDef where
  base : Nat
  n1 : Nat
  s1 : Nat
  n2 : Nat
  s2 : Nat
  rw : Word
  w1s : Word
  w1c : Word
  rc : Word
  wo : Word
  rsv : Word
  lk : Word
  rst : Word
deriving DecidableEq, Repr, Inhabited

/-- Registers of the management space, part 1 (register tables of the chapters, R402, R442). -/
def regTable0 : List RegDef := [
  /- PAIR_ROLE -/ ⟨0x700000, 48, 0x1000, 1, 0, 0x3f3f03, 0x0, 0x0, 0x0, 0x0, 0xffffffffffc0c0fc, 0x0, 0x0⟩,
  /- PAIR_STATUS -/ ⟨0x700008, 48, 0x1000, 1, 0, 0x0, 0x0, 0x0, 0x0, 0x0, 0xfffffffffffffc00, 0x0, 0x5⟩,
  /- PAIR_WINDOW_SEQ -/ ⟨0x700010, 48, 0x1000, 1, 0, 0x0, 0x0, 0x0, 0x0, 0x0, 0x0, 0x0, 0x0⟩,
  /- PAIR_RETRIES -/ ⟨0x700018, 48, 0x1000, 1, 0, 0x0, 0x0, 0x0, 0x0, 0x0, 0x0, 0x0, 0x0⟩,
  /- PAIR_LAST -/ ⟨0x700020, 48, 0x1000, 1, 0, 0x0, 0x0, 0x0, 0x0, 0x0, 0xff00, 0x0, 0x0⟩,
  /- PAIR_LAST_PC -/ ⟨0x700028, 48, 0x1000, 1, 0, 0x0, 0x0, 0x0, 0x0, 0x0, 0x0, 0x0, 0x0⟩,
  /- PAIR_TEST -/ ⟨0x700030, 48, 0x1000, 1, 0, 0x7, 0x0, 0x0, 0x0, 0x0, 0xfffffffffffffff8, 0x0, 0x0⟩,
  /- PAIR_START -/ ⟨0x700038, 48, 0x1000, 1, 0, 0xffffffffffffffff, 0x0, 0x0, 0x0, 0x0, 0x0, 0x0, 0x0⟩,
  /- PAIR_CKPT -/ ⟨0x700100, 48, 0x1000, 80, 8, 0xffffffffffffffff, 0x0, 0x0, 0x0, 0x0, 0x0, 0x0, 0x0⟩,
  /- PAIR_CKPT -/ ⟨0x700400, 48, 0x1000, 36, 8, 0xffffffffffffffff, 0x0, 0x0, 0x0, 0x0, 0x0, 0x0, 0x0⟩,
  /- PAIR_L2LOCK -/ ⟨0x700600, 48, 0x1000, 16, 8, 0xffffffff, 0x0, 0x0, 0x0, 0x0, 0xffffffff00000000, 0x0, 0xffff⟩,
  /- PAIR_L2CTL -/ ⟨0x700680, 48, 0x1000, 1, 0, 0x1, 0x2, 0x0, 0x0, 0x0, 0xfffffffffffffffc, 0x0, 0x1⟩,
  /- UCS_ROM_ID -/ ⟨0x1100000, 1, 0x0, 1, 0, 0x0, 0x0, 0x0, 0x0, 0x0, 0x0, 0x0, 0x0⟩,
  /- UCS_PATCH_STATUS -/ ⟨0x1100008, 1, 0x0, 1, 0, 0x0, 0x0, 0x0, 0x0, 0x0, 0xf800f8f8, 0x0, 0x0⟩,
  /- UCS_CTL -/ ⟨0x1100010, 1, 0x0, 1, 0, 0x1ffffff, 0x700000000, 0x0, 0x0, 0x0, 0xfffffff8fe000000, 0x1ffffff, 0x0⟩,
  /- UCS_PEEK -/ ⟨0x1100018, 1, 0x0, 1, 0, 0x7fff7f03, 0x0, 0x0, 0x0, 0x0, 0xffffffff800080fc, 0x0, 0x0⟩,
  /- UCS_PEEK_DATA -/ ⟨0x1100020, 3, 0x8, 1, 0, 0x0, 0x0, 0x0, 0x0, 0x0, 0x0, 0x0, 0x0⟩,
  /- UCS_MATCH -/ ⟨0x1100100, 64, 0x8, 1, 0, 0x0, 0x0, 0x0, 0x0, 0x0, 0xffffffff7c008000, 0x0, 0x0⟩,
  /- COH_WAYCTL -/ ⟨0x800000, 24, 0x1000, 1, 0, 0xfffffffff, 0x0, 0x0, 0x0, 0x0, 0xffffffc000000000, 0x0, 0xffff⟩,
  /- COH_STATUS -/ ⟨0x800008, 24, 0x1000, 1, 0, 0x0, 0x0, 0x0, 0x0, 0x0, 0xffffffffffffc000, 0x0, 0x0⟩,
  /- COH_ERR -/ ⟨0x800010, 24, 0x1000, 1, 0, 0x0, 0x0, 0x0, 0x0, 0x0, 0xff8000000000f000, 0x0, 0x0⟩,
  /- COH_COUNT -/ ⟨0x800018, 24, 0x1000, 1, 0, 0x0, 0x0, 0x0, 0x0, 0x0, 0xffff000000000000, 0x0, 0x0⟩,
  /- PART_CTL -/ ⟨0x300000, 63, 0x1000, 1, 0, 0x0, 0x0, 0x0, 0x0, 0xf, 0xfffffffffffffff0, 0x0, 0x0⟩,
  /- PART_STATUS -/ ⟨0x300008, 63, 0x1000, 1, 0, 0x0, 0x0, 0xc00, 0x0, 0x0, 0xffffffffffc0f000, 0x0, 0x0⟩,
  /- PART_WINBOX -/ ⟨0x300010, 63, 0x1000, 1, 0, 0xf1f3ffffffff000, 0x0, 0x0, 0x0, 0x0, 0xf0e0c00000000fff, 0x0, 0x906000000000000⟩]

/-- Registers of the management space, part 2 (register tables of the chapters, R402, R442). -/
def regTable1 : List RegDef := [
  /- PART_WOQ -/ ⟨0x300018, 63, 0x1000, 1, 0, 0x1ffff0001ffff, 0x0, 0x0, 0x0, 0x0, 0xfffe0000fffe0000, 0x0, 0x0⟩,
  /- PART_SHARE -/ ⟨0x300028, 63, 0x1000, 1, 0, 0x303ff03ff, 0x0, 0x0, 0x0, 0x0, 0xfffffffcfc00fc00, 0x0, 0x640064⟩,
  /- PART_PARK -/ ⟨0x300030, 63, 0x1000, 1, 0, 0xffffffff, 0x0, 0x0, 0x0, 0x0, 0xffffffff00000000, 0x0, 0xfa0⟩,
  /- PART_BP -/ ⟨0x300038, 63, 0x1000, 1, 0, 0x0, 0x0, 0x0, 0xffffffffffff, 0x0, 0xffff000000000000, 0x0, 0x0⟩,
  /- PART_MIG -/ ⟨0x300040, 63, 0x1000, 1, 0, 0x1ff0011, 0x2, 0x0, 0x0, 0x0, 0xfffffffffe00ffe0, 0x0, 0x0⟩,
  /- PART_DIRTY -/ ⟨0x300048, 63, 0x1000, 1, 0, 0x3ffffffff000, 0x0, 0x0, 0x0, 0x0, 0xffffc00000000fff, 0x0, 0x0⟩,
  /- PART_RDOMAIN -/ ⟨0x300050, 63, 0x1000, 1, 0, 0xffffffffffffffff, 0x0, 0x0, 0x0, 0x0, 0x0, 0x0, 0x0⟩,
  /- PART_XTQ -/ ⟨0x300020, 63, 0x1000, 1, 0, 0x1ffff0001ffff, 0x0, 0x0, 0x0, 0x0, 0xfffe0000fffe0000, 0x0, 0x0⟩,
  /- PART_MVSLOT -/ ⟨0x300100, 63, 0x1000, 32, 8, 0x7f, 0x0, 0x0, 0x0, 0x0, 0xffffffffffffff80, 0x0, 0x0⟩,
  /- PART_HEXT -/ ⟨0x300800, 63, 0x1000, 128, 8, 0x7f03, 0x0, 0x0, 0x0, 0x0, 0xffffffffffff80fc, 0x0, 0x0⟩,
  /- PART_CEXT -/ ⟨0x300c00, 63, 0x1000, 96, 8, 0x7f03, 0x0, 0x0, 0x0, 0x0, 0xffffffffffff80fc, 0x0, 0x0⟩,
  /- MEM_CFG -/ ⟨0x900000, 1, 0x0, 1, 0, 0xff, 0x0, 0x0, 0x0, 0x0, 0xffffffffffffff00, 0x0, 0x18⟩,
  /- MEM_STATUS -/ ⟨0x900008, 1, 0x0, 1, 0, 0x0, 0x0, 0x0, 0x0, 0x0, 0xfffffffffffffc00, 0x0, 0x0⟩,
  /- MEM_ERR -/ ⟨0x900100, 16, 0x20, 1, 0, 0x0, 0x0, 0x0, 0x0, 0x0, 0xff8000000000ffc0, 0x0, 0x0⟩,
  /- MEM_COUNT -/ ⟨0x900108, 16, 0x20, 1, 0, 0x0, 0x0, 0x0, 0x0, 0x0, 0x0, 0x0, 0x0⟩,
  /- MEM_INJECT -/ ⟨0x900110, 16, 0x20, 1, 0, 0x3, 0x0, 0x0, 0x0, 0x0, 0xfffffffffffffffc, 0x0, 0x0⟩,
  /- HIF_LINK -/ ⟨0x400000, 1, 0x0, 1, 0, 0x0, 0x0, 0x0, 0x0, 0x0, 0xffffffff00000000, 0x0, 0x0⟩,
  /- HIF_CFG -/ ⟨0x400008, 1, 0x0, 1, 0, 0xffffff, 0x1000000, 0x0, 0x0, 0x0, 0xfffffffffe000000, 0xff0000, 0x8a2710⟩,
  /- HIF_VFBIND -/ ⟨0x400108, 63, 0x8, 1, 0, 0x3f, 0x0, 0x0, 0x0, 0x0, 0xffffffffffffffc0, 0x0, 0x0⟩,
  /- HIF_LINK -/ ⟨0x500000, 1, 0x0, 1, 0, 0x0, 0x0, 0x0, 0x0, 0x0, 0xffffffff00000000, 0x0, 0x0⟩,
  /- HIF_CFG -/ ⟨0x500008, 1, 0x0, 1, 0, 0xffffff, 0x1000000, 0x0, 0x0, 0x0, 0xfffffffffe000000, 0xff0000, 0x8a2710⟩,
  /- HIF_VFBIND -/ ⟨0x500108, 63, 0x8, 1, 0, 0x3f, 0x0, 0x0, 0x0, 0x0, 0xffffffffffffffc0, 0x0, 0x0⟩,
  /- CRY_ENGINE -/ ⟨0xa00000, 112, 0x8, 1, 0, 0x0, 0x0, 0x0, 0x0, 0x0, 0xffffc0f8, 0x0, 0x0⟩,
  /- CRY_KV_STATUS -/ ⟨0xa00400, 1, 0x0, 1, 0, 0x0, 0x0, 0x0, 0x0, 0x0, 0xffffffc0000e0000, 0x0, 0x0⟩,
  /- CRY_RNG_STATUS -/ ⟨0xa00408, 1, 0x0, 1, 0, 0x0, 0x0, 0x0, 0x0, 0x0, 0xfffe, 0x0, 0x0⟩]

/-- Registers of the management space, part 3 (register tables of the chapters, R402, R442). -/
def regTable2 : List RegDef := [
  /- CRY_KV_QUOTA -/ ⟨0xa00800, 64, 0x8, 1, 0, 0x3ffff00007fff, 0x0, 0x0, 0x0, 0x0, 0xfffc0000ffff8000, 0x0, 0x80000000100⟩,
  /- CMP_ENGINE -/ ⟨0xb00000, 8, 0x8, 1, 0, 0x0, 0x0, 0x0, 0x0, 0x0, 0xffffc0f8, 0x0, 0x0⟩,
  /- MOV_SRC -/ ⟨0xc00000, 64, 0x40, 1, 0, 0x3fffffffffff, 0x0, 0x0, 0x0, 0x0, 0xffffc00000000000, 0x0, 0x0⟩,
  /- MOV_COUNT -/ ⟨0xc00010, 64, 0x40, 1, 0, 0xffffffffff, 0x0, 0x0, 0x0, 0x0, 0xffffff0000000000, 0x0, 0x0⟩,
  /- MOV_CTRL -/ ⟨0xc00018, 64, 0x40, 1, 0, 0xf8, 0x10001, 0x0, 0x0, 0x0, 0xfffffffffffe0000, 0x0, 0x0⟩,
  /- MOV_CHK -/ ⟨0xc00020, 64, 0x40, 1, 0, 0xffffffffffffffff, 0x0, 0x0, 0x0, 0x0, 0x0, 0x0, 0x0⟩,
  /- MOV_SYNC -/ ⟨0xc00028, 64, 0x40, 1, 0, 0x0, 0x0, 0x0, 0x0, 0x0, 0x7fffff0000000000, 0x0, 0x0⟩,
  /- MOV_PROGRESS -/ ⟨0xc00030, 64, 0x40, 1, 0, 0x0, 0x0, 0x0, 0x0, 0x0, 0xffffff0000000000, 0x0, 0x0⟩,
  /- MOV_OWNER -/ ⟨0xc00038, 64, 0x40, 1, 0, 0x0, 0x0, 0x0, 0x0, 0x0, 0xffffffffffffff80, 0x0, 0x0⟩,
  /- MOV_DST -/ ⟨0xc00008, 64, 0x40, 1, 0, 0x3fffffffffff, 0x0, 0x0, 0x0, 0x0, 0xffffc00000000000, 0x0, 0x0⟩,
  /- CHP_CFG -/ ⟨0xd00000, 256, 0x400, 1, 0, 0xf, 0x10, 0x0, 0x0, 0x0, 0xffffffffffffffe0, 0x0, 0x0⟩,
  /- CHP_STATUS -/ ⟨0xd00008, 256, 0x400, 1, 0, 0x0, 0x0, 0x0, 0x0, 0x0, 0xfffffffffffff0e0, 0x0, 0x0⟩,
  /- CHP_PEER_CAP -/ ⟨0xd00030, 256, 0x400, 1, 0, 0x0, 0x0, 0x0, 0x0, 0x0, 0xfffffffce0000000, 0x0, 0x0⟩,
  /- CHP_CREDIT -/ ⟨0xd00038, 256, 0x400, 1, 0, 0x0, 0x0, 0x0, 0x0, 0x0, 0x0, 0x0, 0x0⟩,
  /- CHP_SEQ -/ ⟨0xd00040, 256, 0x400, 1, 0, 0x0, 0x0, 0x0, 0x0, 0x0, 0xfff0000000000000, 0x0, 0x0⟩,
  /- CHP_ERRCNT -/ ⟨0xd00058, 256, 0x400, 1, 0, 0x0, 0x0, 0x0, 0x0, 0x0, 0x0, 0x0, 0x0⟩,
  /- CHP_FEC -/ ⟨0xd00060, 256, 0x400, 1, 0, 0x0, 0x0, 0x0, 0x0, 0x0, 0x0, 0x0, 0x0⟩,
  /- CHP_PEER_ID -/ ⟨0xd00010, 256, 0x400, 2, 8, 0x0, 0x0, 0x0, 0x0, 0x0, 0x0, 0x0, 0x0⟩,
  /- CHP_EXPECT_ID -/ ⟨0xd00020, 256, 0x400, 2, 8, 0xffffffffffffffff, 0x0, 0x0, 0x0, 0x0, 0x0, 0x0, 0x0⟩,
  /- CHP_TXFRAMES -/ ⟨0xd00048, 256, 0x400, 1, 0, 0x0, 0x0, 0x0, 0x0, 0x0, 0x0, 0x0, 0x0⟩,
  /- CHP_RXFRAMES -/ ⟨0xd00050, 256, 0x400, 1, 0, 0x0, 0x0, 0x0, 0x0, 0x0, 0x0, 0x0, 0x0⟩,
  /- CHP_CFG -/ ⟨0x1001000, 8, 0x400, 1, 0, 0xf, 0x10, 0x0, 0x0, 0x0, 0xffffffffffffffe0, 0x0, 0x0⟩,
  /- CHP_STATUS -/ ⟨0x1001008, 8, 0x400, 1, 0, 0x0, 0x0, 0x0, 0x0, 0x0, 0xfffffffffffff0e0, 0x0, 0x0⟩,
  /- CHP_PEER_CAP -/ ⟨0x1001030, 8, 0x400, 1, 0, 0x0, 0x0, 0x0, 0x0, 0x0, 0xfffffffce0000000, 0x0, 0x0⟩,
  /- CHP_CREDIT -/ ⟨0x1001038, 8, 0x400, 1, 0, 0x0, 0x0, 0x0, 0x0, 0x0, 0x0, 0x0, 0x0⟩]

/-- Registers of the management space, part 4 (register tables of the chapters, R402, R442). -/
def regTable3 : List RegDef := [
  /- CHP_SEQ -/ ⟨0x1001040, 8, 0x400, 1, 0, 0x0, 0x0, 0x0, 0x0, 0x0, 0xfff0000000000000, 0x0, 0x0⟩,
  /- CHP_ERRCNT -/ ⟨0x1001058, 8, 0x400, 1, 0, 0x0, 0x0, 0x0, 0x0, 0x0, 0x0, 0x0, 0x0⟩,
  /- CHP_FEC -/ ⟨0x1001060, 8, 0x400, 1, 0, 0x0, 0x0, 0x0, 0x0, 0x0, 0x0, 0x0, 0x0⟩,
  /- CHP_PEER_ID -/ ⟨0x1001010, 8, 0x400, 2, 8, 0x0, 0x0, 0x0, 0x0, 0x0, 0x0, 0x0, 0x0⟩,
  /- CHP_EXPECT_ID -/ ⟨0x1001020, 8, 0x400, 2, 8, 0xffffffffffffffff, 0x0, 0x0, 0x0, 0x0, 0x0, 0x0, 0x0⟩,
  /- CHP_TXFRAMES -/ ⟨0x1001048, 8, 0x400, 1, 0, 0x0, 0x0, 0x0, 0x0, 0x0, 0x0, 0x0, 0x0⟩,
  /- CHP_RXFRAMES -/ ⟨0x1001050, 8, 0x400, 1, 0, 0x0, 0x0, 0x0, 0x0, 0x0, 0x0, 0x0, 0x0⟩,
  /- XT_PG_PORTS -/ ⟨0xe00000, 512, 0x10, 1, 0, 0xffffffffffffffff, 0x0, 0x0, 0x0, 0x0, 0x0, 0x0, 0x0⟩,
  /- XT_PG_CFG -/ ⟨0xe00008, 512, 0x10, 1, 0, 0xffffffff0f7fff, 0x0, 0x0, 0x0, 0x0, 0xff00000000f08000, 0x0, 0x17d78400030000⟩,
  /- XT_TIMER -/ ⟨0xe02000, 5, 0x8, 1, 0, 0xffffffff, 0x0, 0x0, 0x0, 0x0, 0xffffffff00000000, 0x0, 0x2625a00⟩,
  /- XT_TIMER -/ ⟨0xe02028, 1, 0x8, 1, 0, 0xffffffff, 0x0, 0x0, 0x0, 0x0, 0xffffffff00000000, 0x0, 0x61a80⟩,
  /- XT_STATUS -/ ⟨0xe02100, 1, 0x0, 1, 0, 0x0, 0x0, 0x0, 0x0, 0x0, 0xfffffffc00000000, 0x0, 0x0⟩,
  /- XT_PWIN -/ ⟨0xe03000, 63, 0x8, 1, 0, 0xf3ffffffff000, 0x0, 0x0, 0x0, 0x0, 0xfff0c00000000fff, 0x0, 0x0⟩,
  /- JRN_CFG -/ ⟨0xf00000, 1, 0x0, 1, 0, 0xffff1fff03ff, 0x0, 0x0, 0x0, 0x0, 0xffff0000e000fc00, 0x0, 0xa04000001⟩,
  /- JRN_STATUS -/ ⟨0xf00008, 1, 0x0, 1, 0, 0x0, 0x0, 0x0, 0x0, 0x0, 0xffffffffffc00000, 0x0, 0x0⟩,
  /- JRN_JSN -/ ⟨0xf00010, 1, 0x0, 1, 0, 0x0, 0x0, 0x0, 0x0, 0x0, 0x0, 0x0, 0x0⟩,
  /- LDG_CFG -/ ⟨0xf00100, 1, 0x0, 1, 0, 0x7fffffff, 0x0, 0x0, 0x0, 0x0, 0xffffffff80000000, 0x0, 0x61a80⟩,
  /- LDG_STATUS -/ ⟨0xf00108, 1, 0x0, 1, 0, 0x0, 0x0, 0x0, 0x0, 0x0, 0xffffffffffffff80, 0x0, 0x0⟩,
  /- LDG_EPOCH -/ ⟨0xf00110, 1, 0x0, 1, 0, 0x0, 0x0, 0x0, 0x0, 0x0, 0x0, 0x0, 0x0⟩,
  /- LDG_SYNC -/ ⟨0xf00120, 1, 0x0, 1, 0, 0x0, 0x0, 0x0, 0x0, 0x0, 0x0, 0x0, 0x0⟩,
  /- LDG_READ -/ ⟨0xf00180, 1, 0x0, 1, 0, 0x1ffffff, 0x0, 0x0, 0x0, 0x0, 0xfffffffffe000000, 0x0, 0x0⟩,
  /- JRN_DESTAGED -/ ⟨0xf00018, 1, 0x0, 1, 0, 0x0, 0x0, 0x0, 0x0, 0x0, 0x0, 0x0, 0x0⟩,
  /- LDG_START -/ ⟨0xf00118, 1, 0x0, 1, 0, 0x0, 0x0, 0x0, 0x0, 0x0, 0x0, 0x0, 0x0⟩,
  /- LDG_READ_DATA -/ ⟨0xf00200, 32, 0x8, 1, 0, 0x0, 0x0, 0x0, 0x0, 0x0, 0x0, 0x0, 0x0⟩,
  /- STR_STATUS -/ ⟨0x1200000, 1, 0x0, 1, 0, 0x0, 0x0, 0x0, 0x0, 0x0, 0xffff00000000e000, 0x0, 0x1000⟩]

/-- Registers of the management space, part 5 (register tables of the chapters, R402, R442). -/
def regTable4 : List RegDef := [
  /- STR_ERR -/ ⟨0x1200008, 1, 0x0, 1, 0, 0x0, 0x0, 0x0, 0x0, 0x0, 0xffffffff00000000, 0x0, 0x0⟩,
  /- DPX_CFG -/ ⟨0x1000000, 1, 0x0, 1, 0, 0xff07, 0x0, 0x0, 0x0, 0x0, 0xffffffffffff00f8, 0x0, 0xfe04⟩,
  /- DPX_CTL -/ ⟨0x1000008, 1, 0x0, 1, 0, 0x0, 0x3, 0x0, 0x0, 0x0, 0xfffffffffffffffc, 0x0, 0x0⟩,
  /- DPX_STATUS -/ ⟨0x1000010, 1, 0x0, 1, 0, 0x0, 0x0, 0x0, 0x0, 0x0, 0xffff0000, 0x0, 0x0⟩,
  /- DPX_TIME -/ ⟨0x1000028, 1, 0x0, 1, 0, 0x0, 0x0, 0x0, 0x0, 0x0, 0xffff000000000000, 0x0, 0x0⟩,
  /- DPX_MSN -/ ⟨0x1000030, 1, 0x0, 1, 0, 0x0, 0x0, 0x0, 0x0, 0x0, 0x0, 0x0, 0x0⟩,
  /- DPX_RESYNC -/ ⟨0x1000040, 1, 0x0, 1, 0, 0x0, 0x0, 0x0, 0x0, 0x0, 0xfffffe0000000000, 0x0, 0x0⟩,
  /- DPX_PARTNER_ID -/ ⟨0x1000018, 2, 0x8, 1, 0, 0x0, 0x0, 0x0, 0x0, 0x0, 0x0, 0x0, 0x0⟩,
  /- DPX_MSN_APPLIED -/ ⟨0x1000038, 1, 0x0, 1, 0, 0x0, 0x0, 0x0, 0x0, 0x0, 0x0, 0x0, 0x0⟩,
  /- DPX_FENCE_FIRST -/ ⟨0x1000048, 2, 0x8, 1, 0, 0x0, 0x0, 0x0, 0x0, 0x0, 0x0, 0x0, 0xffffffffffffffff⟩,
  /- FLT_STATUS -/ ⟨0x200000, 103, 0x40, 1, 0, 0x0, 0x0, 0xffff, 0x0, 0x0, 0xffffffffffff0000, 0x0, 0x0⟩,
  /- FLT_MASK -/ ⟨0x200008, 103, 0x40, 1, 0, 0xffff, 0x0, 0x0, 0x0, 0x0, 0xffffffffffff0000, 0x0, 0x0⟩,
  /- FLT_FORCE -/ ⟨0x200010, 103, 0x40, 1, 0, 0xf00, 0x1, 0x0, 0x0, 0x0, 0xfffffffffffff0fe, 0x0, 0x0⟩,
  /- FLT_COUNT -/ ⟨0x200018, 103, 0x40, 1, 0, 0xff00, 0x0, 0x0, 0x0, 0x0, 0xffff0000, 0x0, 0x0⟩,
  /- FLT_WINDOW -/ ⟨0x200020, 103, 0x40, 1, 0, 0x1f, 0x0, 0x0, 0x0, 0x0, 0xffffffffffffffe0, 0x0, 0x0⟩,
  /- FLT_REACT -/ ⟨0x200028, 103, 0x40, 1, 0, 0xff031f1f, 0x0, 0x0, 0x0, 0x0, 0xffffffff00fce0e0, 0x0, 0xfd000000⟩,
  /- FLT_LAST -/ ⟨0x200030, 103, 0x40, 1, 0, 0x0, 0x0, 0x0, 0x0, 0x0, 0x80, 0x0, 0x0⟩,
  /- FLT_ARM -/ ⟨0x200038, 103, 0x40, 1, 0, 0x0, 0x0, 0x0, 0x0, 0x0, 0x0, 0x0, 0x0⟩,
  /- FLT_STATUS -/ ⟨0x201a00, 6, 0x40, 1, 0, 0x0, 0x0, 0xffff, 0x0, 0x0, 0xffffffffffff0000, 0x0, 0x0⟩,
  /- FLT_MASK -/ ⟨0x201a08, 6, 0x40, 1, 0, 0xffff, 0x0, 0x0, 0x0, 0x0, 0xffffffffffff0000, 0x0, 0x0⟩,
  /- FLT_FORCE -/ ⟨0x201a10, 6, 0x40, 1, 0, 0xf00, 0x1, 0x0, 0x0, 0x0, 0xfffffffffffff0fe, 0x0, 0x0⟩,
  /- FLT_COUNT -/ ⟨0x201a18, 6, 0x40, 1, 0, 0xff00, 0x0, 0x0, 0x0, 0x0, 0xffff0000, 0x0, 0x0⟩,
  /- FLT_WINDOW -/ ⟨0x201a20, 6, 0x40, 1, 0, 0x1f, 0x0, 0x0, 0x0, 0x0, 0xffffffffffffffe0, 0x0, 0x0⟩,
  /- FLT_REACT -/ ⟨0x201a28, 6, 0x40, 1, 0, 0xff031f1f, 0x0, 0x0, 0x0, 0x0, 0xffffffff00fce0e0, 0x0, 0xfd000000⟩,
  /- FLT_LAST -/ ⟨0x201a30, 6, 0x40, 1, 0, 0x0, 0x0, 0x0, 0x0, 0x0, 0x80, 0x0, 0x0⟩]

/-- Registers of the management space, part 6 (register tables of the chapters, R402, R442). -/
def regTable5 : List RegDef := [
  /- FLT_ARM -/ ⟨0x201a38, 6, 0x40, 1, 0, 0x0, 0x0, 0x0, 0x0, 0x0, 0x0, 0x0, 0x0⟩,
  /- FLT_STATUS -/ ⟨0x201c00, 25, 0x40, 1, 0, 0x0, 0x0, 0xffff, 0x0, 0x0, 0xffffffffffff0000, 0x0, 0x0⟩,
  /- FLT_MASK -/ ⟨0x201c08, 25, 0x40, 1, 0, 0xffff, 0x0, 0x0, 0x0, 0x0, 0xffffffffffff0000, 0x0, 0x0⟩,
  /- FLT_FORCE -/ ⟨0x201c10, 25, 0x40, 1, 0, 0xf00, 0x1, 0x0, 0x0, 0x0, 0xfffffffffffff0fe, 0x0, 0x0⟩,
  /- FLT_COUNT -/ ⟨0x201c18, 25, 0x40, 1, 0, 0xff00, 0x0, 0x0, 0x0, 0x0, 0xffff0000, 0x0, 0x0⟩,
  /- FLT_WINDOW -/ ⟨0x201c20, 25, 0x40, 1, 0, 0x1f, 0x0, 0x0, 0x0, 0x0, 0xffffffffffffffe0, 0x0, 0x0⟩,
  /- FLT_REACT -/ ⟨0x201c28, 25, 0x40, 1, 0, 0xff031f1f, 0x0, 0x0, 0x0, 0x0, 0xffffffff00fce0e0, 0x0, 0xfd000000⟩,
  /- FLT_LAST -/ ⟨0x201c30, 25, 0x40, 1, 0, 0x0, 0x0, 0x0, 0x0, 0x0, 0x80, 0x0, 0x0⟩,
  /- FLT_ARM -/ ⟨0x201c38, 25, 0x40, 1, 0, 0x0, 0x0, 0x0, 0x0, 0x0, 0x0, 0x0, 0x0⟩,
  /- FLT_STATUS -/ ⟨0x202400, 79, 0x40, 1, 0, 0x0, 0x0, 0xffff, 0x0, 0x0, 0xffffffffffff0000, 0x0, 0x0⟩,
  /- FLT_MASK -/ ⟨0x202408, 79, 0x40, 1, 0, 0xffff, 0x0, 0x0, 0x0, 0x0, 0xffffffffffff0000, 0x0, 0x0⟩,
  /- FLT_FORCE -/ ⟨0x202410, 79, 0x40, 1, 0, 0xf00, 0x1, 0x0, 0x0, 0x0, 0xfffffffffffff0fe, 0x0, 0x0⟩,
  /- FLT_COUNT -/ ⟨0x202418, 79, 0x40, 1, 0, 0xff00, 0x0, 0x0, 0x0, 0x0, 0xffff0000, 0x0, 0x0⟩,
  /- FLT_WINDOW -/ ⟨0x202420, 79, 0x40, 1, 0, 0x1f, 0x0, 0x0, 0x0, 0x0, 0xffffffffffffffe0, 0x0, 0x0⟩,
  /- FLT_REACT -/ ⟨0x202428, 79, 0x40, 1, 0, 0xff031f1f, 0x0, 0x0, 0x0, 0x0, 0xffffffff00fce0e0, 0x0, 0xfd000000⟩,
  /- FLT_LAST -/ ⟨0x202430, 79, 0x40, 1, 0, 0x0, 0x0, 0x0, 0x0, 0x0, 0x80, 0x0, 0x0⟩,
  /- FLT_ARM -/ ⟨0x202438, 79, 0x40, 1, 0, 0x0, 0x0, 0x0, 0x0, 0x0, 0x0, 0x0, 0x0⟩,
  /- FLT_STATUS -/ ⟨0x203800, 7, 0x40, 1, 0, 0x0, 0x0, 0xffff, 0x0, 0x0, 0xffffffffffff0000, 0x0, 0x0⟩,
  /- FLT_MASK -/ ⟨0x203808, 7, 0x40, 1, 0, 0xffff, 0x0, 0x0, 0x0, 0x0, 0xffffffffffff0000, 0x0, 0x0⟩,
  /- FLT_FORCE -/ ⟨0x203810, 7, 0x40, 1, 0, 0xf00, 0x1, 0x0, 0x0, 0x0, 0xfffffffffffff0fe, 0x0, 0x0⟩,
  /- FLT_COUNT -/ ⟨0x203818, 7, 0x40, 1, 0, 0xff00, 0x0, 0x0, 0x0, 0x0, 0xffff0000, 0x0, 0x0⟩,
  /- FLT_WINDOW -/ ⟨0x203820, 7, 0x40, 1, 0, 0x1f, 0x0, 0x0, 0x0, 0x0, 0xffffffffffffffe0, 0x0, 0x0⟩,
  /- FLT_REACT -/ ⟨0x203828, 7, 0x40, 1, 0, 0xff031f1f, 0x0, 0x0, 0x0, 0x0, 0xffffffff00fce0e0, 0x0, 0xfd000000⟩,
  /- FLT_LAST -/ ⟨0x203830, 7, 0x40, 1, 0, 0x0, 0x0, 0x0, 0x0, 0x0, 0x80, 0x0, 0x0⟩,
  /- FLT_ARM -/ ⟨0x203838, 7, 0x40, 1, 0, 0x0, 0x0, 0x0, 0x0, 0x0, 0x0, 0x0, 0x0⟩]

/-- Registers of the management space, part 7 (register tables of the chapters, R402, R442). -/
def regTable6 : List RegDef := [
  /- FLT_STATUS -/ ⟨0x203a00, 4, 0x40, 1, 0, 0x0, 0x0, 0xffff, 0x0, 0x0, 0xffffffffffff0000, 0x0, 0x0⟩,
  /- FLT_MASK -/ ⟨0x203a08, 4, 0x40, 1, 0, 0xffff, 0x0, 0x0, 0x0, 0x0, 0xffffffffffff0000, 0x0, 0x0⟩,
  /- FLT_FORCE -/ ⟨0x203a10, 4, 0x40, 1, 0, 0xf00, 0x1, 0x0, 0x0, 0x0, 0xfffffffffffff0fe, 0x0, 0x0⟩,
  /- FLT_COUNT -/ ⟨0x203a18, 4, 0x40, 1, 0, 0xff00, 0x0, 0x0, 0x0, 0x0, 0xffff0000, 0x0, 0x0⟩,
  /- FLT_WINDOW -/ ⟨0x203a20, 4, 0x40, 1, 0, 0x1f, 0x0, 0x0, 0x0, 0x0, 0xffffffffffffffe0, 0x0, 0x0⟩,
  /- FLT_REACT -/ ⟨0x203a28, 4, 0x40, 1, 0, 0xff031f1f, 0x0, 0x0, 0x0, 0x0, 0xffffffff00fce0e0, 0x0, 0xfd000000⟩,
  /- FLT_LAST -/ ⟨0x203a30, 4, 0x40, 1, 0, 0x0, 0x0, 0x0, 0x0, 0x0, 0x80, 0x0, 0x0⟩,
  /- FLT_ARM -/ ⟨0x203a38, 4, 0x40, 1, 0, 0x0, 0x0, 0x0, 0x0, 0x0, 0x0, 0x0, 0x0⟩,
  /- FLT_STATUS -/ ⟨0x203c00, 6, 0x40, 1, 0, 0x0, 0x0, 0xffff, 0x0, 0x0, 0xffffffffffff0000, 0x0, 0x0⟩,
  /- FLT_MASK -/ ⟨0x203c08, 6, 0x40, 1, 0, 0xffff, 0x0, 0x0, 0x0, 0x0, 0xffffffffffff0000, 0x0, 0x0⟩,
  /- FLT_FORCE -/ ⟨0x203c10, 6, 0x40, 1, 0, 0xf00, 0x1, 0x0, 0x0, 0x0, 0xfffffffffffff0fe, 0x0, 0x0⟩,
  /- FLT_COUNT -/ ⟨0x203c18, 6, 0x40, 1, 0, 0xff00, 0x0, 0x0, 0x0, 0x0, 0xffff0000, 0x0, 0x0⟩,
  /- FLT_WINDOW -/ ⟨0x203c20, 6, 0x40, 1, 0, 0x1f, 0x0, 0x0, 0x0, 0x0, 0xffffffffffffffe0, 0x0, 0x0⟩,
  /- FLT_REACT -/ ⟨0x203c28, 6, 0x40, 1, 0, 0xff031f1f, 0x0, 0x0, 0x0, 0x0, 0xffffffff00fce0e0, 0x0, 0xfd000000⟩,
  /- FLT_LAST -/ ⟨0x203c30, 6, 0x40, 1, 0, 0x0, 0x0, 0x0, 0x0, 0x0, 0x80, 0x0, 0x0⟩,
  /- FLT_ARM -/ ⟨0x203c38, 6, 0x40, 1, 0, 0x0, 0x0, 0x0, 0x0, 0x0, 0x0, 0x0, 0x0⟩,
  /- FLT_STATUS -/ ⟨0x203e00, 8, 0x40, 1, 0, 0x0, 0x0, 0xffff, 0x0, 0x0, 0xffffffffffff0000, 0x0, 0x0⟩,
  /- FLT_MASK -/ ⟨0x203e08, 8, 0x40, 1, 0, 0xffff, 0x0, 0x0, 0x0, 0x0, 0xffffffffffff0000, 0x0, 0x0⟩,
  /- FLT_FORCE -/ ⟨0x203e10, 8, 0x40, 1, 0, 0xf00, 0x1, 0x0, 0x0, 0x0, 0xfffffffffffff0fe, 0x0, 0x0⟩,
  /- FLT_COUNT -/ ⟨0x203e18, 8, 0x40, 1, 0, 0xff00, 0x0, 0x0, 0x0, 0x0, 0xffff0000, 0x0, 0x0⟩,
  /- FLT_WINDOW -/ ⟨0x203e20, 8, 0x40, 1, 0, 0x1f, 0x0, 0x0, 0x0, 0x0, 0xffffffffffffffe0, 0x0, 0x0⟩,
  /- FLT_REACT -/ ⟨0x203e28, 8, 0x40, 1, 0, 0xff031f1f, 0x0, 0x0, 0x0, 0x0, 0xffffffff00fce0e0, 0x0, 0xfd000000⟩,
  /- FLT_LAST -/ ⟨0x203e30, 8, 0x40, 1, 0, 0x0, 0x0, 0x0, 0x0, 0x0, 0x80, 0x0, 0x0⟩,
  /- FLT_ARM -/ ⟨0x203e38, 8, 0x40, 1, 0, 0x0, 0x0, 0x0, 0x0, 0x0, 0x0, 0x0, 0x0⟩,
  /- FLT_SUMMARY -/ ⟨0x204000, 4, 0x8, 1, 0, 0x0, 0x0, 0x0, 0x0, 0x0, 0x0, 0x0, 0x0⟩]

/-- Registers of the management space, part 8 (register tables of the chapters, R402, R442). -/
def regTable7 : List RegDef := [
  /- FLT_LANTERN -/ ⟨0x204020, 1, 0x0, 1, 0, 0x0, 0x0, 0x0, 0x0, 0x0, 0xfffffffffff800fc, 0x0, 0x0⟩,
  /- FLT_WDT -/ ⟨0x204028, 1, 0x0, 1, 0, 0x1f02, 0x1, 0x0, 0x0, 0x0, 0xffffffffffffe0fc, 0x1f02, 0x1c02⟩,
  /- CLK_STATUS -/ ⟨0x100000, 1, 0x0, 1, 0, 0x0, 0x0, 0x0, 0x0, 0x0, 0xffffff00000000c0, 0x0, 0x0⟩,
  /- RST_CTL -/ ⟨0x100400, 1, 0x0, 1, 0, 0x3f00, 0x10001, 0x0, 0x0, 0x0, 0xfffffffffffec0fe, 0x0, 0x0⟩,
  /- RST_CAUSE -/ ⟨0x100408, 1, 0x0, 1, 0, 0x0, 0x0, 0x0, 0x0, 0x0, 0xfff000f0, 0x0, 0x0⟩,
  /- RST_BOOT -/ ⟨0x100410, 1, 0x0, 1, 0, 0x0, 0x0, 0x0, 0x0, 0x0, 0xffff00000000ff00, 0x0, 0x0⟩,
  /- PWR_STATUS -/ ⟨0x100800, 1, 0x0, 1, 0, 0x0, 0x0, 0x0, 0x0, 0x0, 0xfffffffffffff800, 0x0, 0x0⟩,
  /- PWR_CFG -/ ⟨0x100808, 1, 0x0, 1, 0, 0xffff07ff, 0x100000000, 0x0, 0x0, 0x0, 0xfffffffe0000f800, 0x400, 0x3e80716⟩,
  /- PWR_CTL -/ ⟨0x100810, 1, 0x0, 1, 0, 0x0, 0x1, 0x0, 0x0, 0x0, 0xfffffffffffffffe, 0x0, 0x0⟩,
  /- PWR_VIN -/ ⟨0x100818, 1, 0x0, 1, 0, 0x0, 0x0, 0x0, 0xffff000000000000, 0x0, 0x0, 0x0, 0x0⟩,
  /- PWR_HOLDUP -/ ⟨0x100820, 1, 0x0, 1, 0, 0x0, 0x0, 0x0, 0x0, 0x0, 0xffff000000000000, 0x0, 0x0⟩,
  /- PWR_THERM -/ ⟨0x100828, 1, 0x0, 1, 0, 0xffffffff, 0x0, 0x0, 0x0, 0x0, 0xffffffff00000000, 0xffffff, 0x556e645f⟩,
  /- PWR_HIB -/ ⟨0x100850, 1, 0x0, 1, 0, 0x0, 0x0, 0x0, 0x0, 0x0, 0xffff0000000000c0, 0x0, 0x0⟩,
  /- PWR_TEMP -/ ⟨0x100830, 4, 0x8, 1, 0, 0x0, 0x0, 0x0, 0x0, 0x0, 0x0, 0x0, 0x0⟩,
  /- CAP_ID -/ ⟨0x0, 1, 0x8, 1, 0, 0x0, 0x0, 0x0, 0x0, 0x0, 0xff000000, 0x0, 0x4641525600000000⟩,
  /- CAP_IDENT -/ ⟨0x8, 2, 0x8, 1, 0, 0x0, 0x0, 0x0, 0x0, 0x0, 0x0, 0x0, 0x0⟩,
  /- CAP_PAIRS -/ ⟨0x18, 1, 0x8, 1, 0, 0x0, 0x0, 0x0, 0x0, 0x0, 0xffff000000000000, 0x0, 0x0⟩,
  /- CAP_UNITS -/ ⟨0x20, 1, 0x8, 1, 0, 0x0, 0x0, 0x0, 0x0, 0x0, 0xffffffffe0e0f000, 0x0, 0x10180000⟩,
  /- CAP_PORTS -/ ⟨0x28, 4, 0x8, 1, 0, 0x0, 0x0, 0x0, 0x0, 0x0, 0x0, 0x0, 0x0⟩,
  /- CAP_ENGINES -/ ⟨0x48, 1, 0x8, 1, 0, 0x0, 0x0, 0x0, 0x0, 0x0, 0xff00000000000000, 0x0, 0x0⟩,
  /- CAP_LANES -/ ⟨0x50, 1, 0x8, 1, 0, 0x0, 0x0, 0x0, 0x0, 0x0, 0x0, 0x0, 0xffffffffffffffff⟩,
  /- CAP_FEATURES -/ ⟨0x58, 1, 0x8, 1, 0, 0x0, 0x0, 0x0, 0x0, 0x0, 0xffffffffc00000f8, 0x0, 0x3f000000⟩,
  /- CAP_TABLES -/ ⟨0x60, 1, 0x8, 1, 0, 0x0, 0x0, 0x0, 0x0, 0x0, 0xfffffffffe000000, 0x0, 0x64b5f0⟩,
  /- CAP_REV -/ ⟨0x68, 1, 0x8, 1, 0, 0x0, 0x0, 0x0, 0x0, 0x0, 0x0, 0x0, 0x0⟩,
  /- CAP_LOCK -/ ⟨0x70, 1, 0x8, 1, 0, 0x0, 0x1, 0x0, 0x0, 0x0, 0xfffffffffffffffe, 0x0, 0x0⟩]

/-- Registers of the management space, part 9 (register tables of the chapters, R402, R442). -/
def regTable8 : List RegDef := [
  /- MBOX_MSG -/ ⟨0x600000, 67, 0x80, 8, 8, 0xffffffffffffffff, 0x0, 0x0, 0x0, 0x0, 0x0, 0x0, 0x0⟩,
  /- MBOX_DB -/ ⟨0x600040, 67, 0x80, 1, 0, 0x0, 0x0, 0x0, 0x0, 0x7f, 0xffffffffffffff80, 0x0, 0x0⟩,
  /- MBOX_ACK -/ ⟨0x600048, 67, 0x80, 1, 0, 0xffff, 0x0, 0x0, 0x0, 0x0, 0xffffffffffff0000, 0x0, 0x0⟩,
  /- MBOX_STATE -/ ⟨0x600050, 67, 0x80, 1, 0, 0x0, 0x0, 0x0, 0x0, 0x0, 0xffffffff0000fe00, 0x0, 0x0⟩]

/-- All registers of the management space. -/
def regTable : List RegDef :=
  regTable0 ++ regTable1 ++ regTable2 ++ regTable3 ++ regTable4 ++ regTable5 ++ regTable6 ++ regTable7 ++ regTable8

/-- The instance of a register that an address names: (outer, inner) index. -/
def RegDef.index (r : RegDef) (a : Nat) : Option (Nat × Nat) :=
  if a < r.base then none
  else
    let o := a - r.base
    let i := if r.n1 = 1 then 0 else o / r.s1
    let o' := if r.n1 = 1 then o else o % r.s1
    let j := if r.n2 = 1 then 0 else o' / r.s2
    let z := if r.n2 = 1 then o' else o' % r.s2
    if i < r.n1 ∧ j < r.n2 ∧ z = 0 then some (i, j) else none

/-- The register at an address, searched in a table. -/
def regFindIn : List RegDef → Nat → Option RegDef
  | [], _ => none
  | r :: t, a => match r.index a with
    | some _ => some r
    | none => regFindIn t a

/-- The register at an address of the management space (R444: none where no register lies). -/
def regFind (a : Nat) : Option RegDef := regFindIn regTable a

/-- Default THRESH of a fault source (R402). -/
def fltThresh (i : Nat) : Nat :=
  if (48 ≤ i ∧ i ≤ 76) ∨ (100 ≤ i ∧ i ≤ 104) ∨ (152 ≤ i ∧ i ≤ 193) ∨ i = 232 ∨ i = 240 ∨ i = 241
    ∨ i = 201 ∨ i = 205 ∨ i = 209 ∨ i = 213 then 64
  else if 80 ≤ i ∧ i ≤ 95 then 32
  else if (112 ≤ i ∧ i ≤ 131) ∨ (144 ≤ i ∧ i ≤ 151) then 4
  else 16

/-- Default REACT_SEVERE of a fault source (R402): INT, and LANTERN_STOP or MODULE_RESET where the table says so. -/
def fltSevere (i : Nat) : Nat :=
  if i = 224 ∨ i = 225 ∨ i = 230 then 0x11
  else if i = 248 then 0x18
  else 0x01

/-- Reset value of the register at an address (the chapters' tables; R402 for FLT; PWR_CFG.LIMIT_W of the FZ-6432). -/
def regReset (small : Bool) (a : Nat) : Word :=
  if 0x200000 ≤ a ∧ a < 0x204000 then
    let i := (a - 0x200000) / 0x40
    let o := (a - 0x200000) % 0x40
    if o = 0x18 then BitVec.ofNat 64 (fltThresh i * 256)
    else if o = 0x20 then 29
    else if o = 0x28 then BitVec.ofNat 64 (fltSevere i * 256 + 253 * 2 ^ 24)
    else 0
  else if a = 0x100808 ∧ small then 0x3E80649
  else match regFind a with
    | some r => r.rst
    | none => 0

/-- The stored value of the register at address `a`. -/
def State.rd (s : State) (a : Nat) : Word :=
  match s.regs.find a with
  | some v => v
  | none => regReset s.fuse.small a

/-- The state with the register at address `a` holding `v`. -/
def State.wr (s : State) (a : Nat) (v : Word) : State := { s with regs := s.regs.set a v }

/-- Field [hi:lo] of the register at `a`. -/
def State.rf (s : State) (a hi lo : Nat) : Nat := fld (s.rd a) hi lo

/-- Field [hi:lo] of the register at `a` replaced by `v`. -/
def State.wf (s : State) (a hi lo v : Nat) : State := s.wr a (setFld (s.rd a) hi lo v)

/-- Bit `i` of the register at `a`. -/
def State.rb (s : State) (a i : Nat) : Bool := (s.rd a).getLsbD i

/-- Bit `i` of the register at `a` replaced. -/
def State.wb (s : State) (a i : Nat) (b : Bool) : State := s.wf a i i (b2n b)

/-- Field [hi:lo] of the register at `a` counted up by one, saturating. -/
def State.satField (s : State) (a hi lo : Nat) : State :=
  s.wf a hi lo (satInc (s.rf a hi lo) (2 ^ (hi + 1 - lo) - 1))

/-- PAIR instance of pair p (R16). -/
def aPair (p o : Nat) : Nat := 0x700000 + p * 0x1000 + o
/-- COH instance of slice s (R16). -/
def aCoh (n o : Nat) : Nat := 0x800000 + n * 0x1000 + o
/-- FLT instance of source i (R16). -/
def aFlt (i o : Nat) : Nat := 0x200000 + i * 0x40 + o
/-- PART instance of partition q (R16). -/
def aPart (q o : Nat) : Nat := 0x300000 + (q - 1) * 0x1000 + o
/-- CHP instance of channel port l, or the DPX_LANE registers of Courier lane l − 256 (R16, 16_duplex.md). -/
def aLink (l o : Nat) : Nat := if l < 256 then 0xD00000 + l * 0x400 + o else 0x1001000 + (l - 256) * 0x400 + o
/-- HIFA or HIFB (R442). -/
def aHif (port o : Nat) : Nat := 0x400000 + port * 0x100000 + o
/-- MOV registers of channel c (12_compression_mover.md). -/
def aMov (c o : Nat) : Nat := 0xC00000 + c * 0x40 + o
/-- The XT block. -/
def aXt (o : Nat) : Nat := 0xE00000 + o
/-- The JRN/LDG block. -/
def aJrn (o : Nat) : Nat := 0xF00000 + o
/-- The DPX block. -/
def aDpx (o : Nat) : Nat := 0x1000000 + o
/-- The CLK/PWR block. -/
def aClk (o : Nat) : Nat := 0x100000 + o
/-- The CRY block. -/
def aCry (o : Nat) : Nat := 0xA00000 + o
/-- The UCS block. -/
def aUcs (o : Nat) : Nat := 0x1100000 + o

end Sys2Proof.Machine
end

