-- ==== Sys2Proof/Machine/Ops.lean ====
section
/-!
DEFINITION. Operations that every family shares: free values, output, raising fault events, memory through the Extent
Map and the coherence fabric, byte ranges of partition memory, the processors of a partition and their events.
-/
namespace Sys2Proof.Machine

/-! ## Free values, output, fault events -/

/-- The next free value, and the state that has drawn it (log entry 1). -/
def State.draw (s : State) : Word × State := (Config.freeWord s.free, { s with free := s.free + 1 })

/-- `n` free bytes. -/
def State.drawBytes (s : State) (n : Nat) : Bytes × State :=
  ((List.range n).map (Config.freeByte s.free), { s with free := s.free + 1 })

/-- Something leaves the block. -/
def State.emit (s : State) (o : Out) : State := { s with out := s.out ++ [o] }

/-- A level on a low-speed contact or a word on the sideband, which a boundary-scan instruction takes away (R464). -/
def State.emitPin (s : State) (o : Out) : State := if s.pin.pinsHeld then s else s.emit o

/-- Device Time as the units read it: the distribution stage (R19). -/
def State.time (s : State) : Word := s.nowStage

/-- A block reports event `ev` of source `src` at this tick (R388); the fault logic takes it at the end of the command
(Machine/Settle.lean). -/
def State.raise (s : State) (src ev : Nat) : State :=
  { s with flt := { s.flt with queue := s.flt.queue ++ [⟨src, ev, s.time, false⟩] } }

/-- FORCE names event `ev` of source `src` and waits for an object (R399). -/
def State.forced (s : State) (src ev : Nat) : Bool :=
  s.rb (aFlt src 0x10) 0 && s.rf (aFlt src 0x10) 11 8 == ev

/-- The detector injects the forced event: FORCE clears and the event is reported FORCED (R399). -/
def State.inject (s : State) (src ev : Nat) : State :=
  let s := s.wb (aFlt src 0x10) 0 false
  { s with flt := { s.flt with queue := s.flt.queue ++ [⟨src, ev, s.time, true⟩] } }

/-- A detector reports an event of an object: as the injected one where a FORCE of it waits (R399). -/
def State.report (s : State) (src ev : Nat) : State := if s.forced src ev then s.inject src ev else s.raise src ev

/-- Take a waiting FORCE of an object's event: whether it applies, and the state in which it has been injected. -/
def State.takeForce (s : State) (src ev : Nat) : Bool × State :=
  if s.forced src ev then (true, s.inject src ev) else (false, s)

/-- Little-endian bytes of a number. -/
def leBytes : Nat → Nat → Bytes
  | 0, _ => []
  | n + 1, v => BitVec.ofNat 8 v :: leBytes n (v / 256)

/-- The number that little-endian bytes spell. -/
def ofLe : Bytes → Nat
  | [] => 0
  | b :: t => b.toNat + 256 * ofLe t

/-- A string cut or zero-padded to `n` bytes. -/
def fit (n : Nat) (b : Bytes) : Bytes := (b ++ List.replicate n 0).take n

/-- Bytes of a string from offset `o`, `n` of them, missing ones reading 0. -/
def slice (b : Bytes) (o n : Nat) : Bytes := fit n (b.drop o)

/-! ## The variant -/

/-- Pair p is present (R15). -/
def State.pairPresent (s : State) (p : Nat) : Bool :=
  p < 48 && !(s.fuse.small && ((16 ≤ p && p < 24) || 40 ≤ p))

/-- HBM extents (R174). -/
def State.hbmExtents (s : State) : Nat := if s.fuse.small then 45 else 90

/-- A PA has contents (R174). Cache-as-Store extents exist while their slice's ways are converted (R166). -/
def State.paValid (s : State) (pa : Nat) : Bool :=
  pa < s.hbmExtents * 0x40000000 ||
    (!s.fuse.small && 0x3F0000000000 ≤ pa && pa < 0x3F0006000000)

/-- Lattice engines are present (R251). -/
def State.hasLattice (s : State) : Bool := !s.fuse.small

/-! ## Lines, words and coherence as the hub and the engines see them -/

/-- Replace the word of a list of a line's words. -/
def setWord (ws : List TWord) (k : Nat) (w : TWord) : List TWord := ws.set k w

/-- The 16 words of memory's copy of a line. -/
def State.memLine (s : State) (line : Nat) : List TWord :=
  (List.range 16).map fun k => s.mem.words.get {} (line * 16 + k)

/-- Memory with one word written, in canonical form. -/
def State.memWrite (s : State) (pa : Nat) (w : TWord) : State :=
  { s with mem := { s.mem with words := s.mem.words.put {} (pa / 8) w } }

/-- Write the words of a line from word `k` on. -/
def writeWords : Tbl TWord → Nat → List TWord → Tbl TWord
  | t, _, [] => t
  | t, k, w :: ws => writeWords (t.put {} k w) (k + 1) ws

/-- Memory with a line written. -/
def State.memWriteLine (s : State) (line : Nat) (ws : List TWord) : State :=
  { s with mem := { s.mem with words := writeWords s.mem.words (line * 16) ws } }

/-- The pair whose L2 holds the newest copy of a line (M, O or E), searched among its L2s. -/
def ownerIn : Tbl L2 → Nat → Option (Nat × L2Line)
  | [], _ => none
  | (p, l2) :: t, line =>
    match l2.lines.find line with
    | some ln => if ln.st = .m ∨ ln.st = .o ∨ ln.st = .e then some (p, ln) else ownerIn t line
    | none => ownerIn t line

/-- A dirty copy of a line in a pair's write-back buffer. -/
def wbIn : Tbl L2 → Nat → Option (List TWord)
  | [], _ => none
  | (_, l2) :: t, line =>
    match l2.wb.find? (fun e => e.line = line ∧ !e.superseded) with
    | some e => some e.data
    | none => wbIn t line

/-- A line's data carried by a message in flight that gives it away (a grant or a dirty answer); a superseded
write-back carries none. -/
def msgIn : List CMsg → Nat → Option (List TWord)
  | [], _ => none
  | .grant _ l _ (some d) :: t, line => if l = line then some d else msgIn t line
  | .answer _ l _ (some d) :: t, line => if l = line then some d else msgIn t line
  | .request _ l .writeBack d :: t, line => if l = line ∧ d ≠ [] then some d else msgIn t line
  | .request _ l .release d :: t, line => if l = line then some d else msgIn t line
  | _ :: t, line => msgIn t line

/-- Slice of a line: of its stack's die (R155, R175), or the one whose way it is (R166). -/
def homeOf (line : Nat) : Nat :=
  if 0x3F0000000000 / 128 ≤ line then (line - 0x3F0000000000 / 128) / 0x8000 else 12 * (line / 2 % 2) + line / 4 % 12

/-- The L3 copy of a line. -/
def State.l3Find (s : State) (line : Nat) : Option L3Line :=
  match s.coh.l3.find line with
  | some l => if l.valid then some l else none
  | none => none

/-- Dirty data that a transaction of the line holds at its home. -/
def txnIn (t : Tbl CTxn) (line : Nat) : Option (List TWord) :=
  match t.find line with
  | some x => if x.dirty then x.data else none
  | none => none

/-- The newest copy of a line, and whether it may differ from memory (R156, R158, R170). -/
def State.newest (s : State) (line : Nat) : List TWord × Bool :=
  match ownerIn s.coh.l2 line with
  | some (_, ln) => (ln.data, true)
  | none => match msgIn s.coh.msgs line with
    | some d => (d, true)
    | none => match txnIn s.coh.txn line <|> wbIn s.coh.l2 line with
      | some d => (d, true)
      | none => match s.l3Find line with
        | some l => (l.data, l.dirty)
        | none => match s.coh.evb.find? (fun e => e.1 = line) with
          | some e => (e.2, true)
          | none => (s.memLine line, false)

/-- The coherent value of the aligned word at a PA. -/
def State.readPa (s : State) (pa : Nat) : TWord :=
  ((s.newest (pa / 128)).1).getD (pa % 128 / 8) {}

/-- Way `w` of the L2 set group of a line is locked at pair p (R164). -/
def State.l2Locked (s : State) (p line w : Nat) : Bool := s.rb (aPair p (0x600 + 8 * (line / 64 % 16))) (16 + w)

/-- Way `w` of a line's slice is locked (R164). -/
def State.l3Locked (s : State) (line w : Nat) : Bool := s.rb (aCoh (homeOf line) 0) (16 + w)

/-- A line leaves an L2; a locked way stays reserved for it (R164). -/
def dropLine (locked : Nat → Bool) (lines : Tbl L2Line) (line : Nat) : Tbl L2Line :=
  match lines.find line with
  | some ln => if locked ln.way then lines.set line { way := ln.way } else lines.del line
  | none => lines

/-- Drop every copy of a line from the L2s. -/
def dropL2 (locked : Nat → Nat → Bool) : Tbl L2 → Nat → Tbl L2
  | [], _ => []
  | (p, l2) :: t, line =>
    (p, { l2 with lines := dropLine (locked p) l2.lines line, wb := l2.wb.filter (fun e => e.line ≠ line) })
      :: dropL2 locked t line

/-- The L3 without its copy of a line; a locked way stays reserved for it (R164). -/
def State.l3Drop (s : State) (line : Nat) : State :=
  match s.coh.l3.find line with
  | some l => { s with coh := { s.coh with
      l3 := if s.l3Locked line l.way then s.coh.l3.set line { way := l.way, valid := false } else s.coh.l3.del line } }
  | none => s

/-- A line is written to memory, over a write of it that the Eviction Buffer still holds (R157). -/
def State.memPut (s : State) (line : Nat) (ws : List TWord) : State :=
  let s := s.memWriteLine line ws
  { s with coh := { s.coh with evb := s.coh.evb.filter (fun e => e.1 ≠ line) } }

/-- Bring a line home: its newest copy is in memory and no cache holds it. -/
def State.recall (s : State) (line : Nat) : State :=
  let (d, dirty) := s.newest line
  let s := (if dirty then s.memPut line d else s).l3Drop line
  { s with coh := { s.coh with
      l2 := dropL2 (fun p w => s.l2Locked p line w) s.coh.l2 line
      dir := s.coh.dir.del line } }

/-- Replace a word in a message's copy of a line. -/
def patchMsg (line k : Nat) (w : TWord) : CMsg → CMsg
  | .grant p l st (some d) => if l = line then .grant p l st (some (setWord d k w)) else .grant p l st (some d)
  | .answer p l st (some d) => if l = line then .answer p l st (some (setWord d k w)) else .answer p l st (some d)
  | .request p l .writeBack d => .request p l .writeBack (if l = line then setWord d k w else d)
  | .request p l .release d => .request p l .release (if l = line then setWord d k w else d)
  | m => m

/-- Pair p's WriteFull of a line has not reached the home yet. -/
def State.fullSent (s : State) (p line : Nat) : Bool :=
  s.coh.msgs.any fun m => match m with
    | .request p' l .writeFull _ => p' == p && l == line
    | _ => false

/-- Replace a word in every copy that the caches hold of a line, and in the data of the WriteFull that blocks it
(R154). -/
def State.patchAll (s : State) (pa : Nat) (w : TWord) : State :=
  let line := pa / 128
  let k := pa % 128 / 8
  let fixL2 (p : Nat) (l2 : L2) : L2 :=
    { l2 with
      wfull := l2.wfull.map fun e =>
        if e.1 = line ∧ s.coh.blocked.contains line ∧ !s.fullSent p line then (e.1, setWord e.2.1 k w, e.2.2) else e
      lines := match l2.lines.find line with
        | some ln => l2.lines.set line { ln with data := setWord ln.data k w }
        | none => l2.lines
      wb := l2.wb.map fun e => if e.line = line then { e with data := setWord e.data k w } else e }
  let s := s.memWrite pa w
  { s with coh := { s.coh with
      l2 := s.coh.l2.map fun (p, l2) => (p, fixL2 p l2)
      l3 := match s.coh.l3.find line with
        | some l => s.coh.l3.set line { l with data := setWord l.data k w }
        | none => s.coh.l3
      evb := s.coh.evb.map fun e => if e.1 = line then (e.1, setWord e.2 k w) else e
      msgs := s.coh.msgs.map (patchMsg line k w)
      txn := match s.coh.txn.find line with
        | some t => s.coh.txn.set line { t with data := t.data.map fun d => setWord d k w }
        | none => s.coh.txn } }

/-- The hub or an engine writes one aligned word (R156, R159): the home brings the line in first; while a transaction
of the line is open the word is merged into every copy in flight. -/
def State.writePa (s : State) (pa : Nat) (w : TWord) : State :=
  let line := pa / 128
  if (s.coh.txn.find line).isSome || s.coh.blocked.contains line || s.coh.msgs.any (fun m => match m with
      | .grant _ l _ _ => l == line
      | .answer _ l _ _ => l == line
      | .request _ l _ _ => l == line
      | _ => false)
  then s.patchAll pa w
  else (s.recall line).memWrite pa w

/-! ## The Extent Map (R189) -/

/-- The PA of a partition-real address, none for NO_EXTENT. -/
def State.xlat (s : State) (q pra : Nat) : Option Nat :=
  if q = 0 ∨ 63 < q then none
  else if pra < 128 * 0x40000000 then
    let e := s.rd (aPart q (0x800 + 8 * (pra / 0x40000000)))
    if fld e 1 0 = 1 then some (fld e 14 8 * 0x40000000 + pra % 0x40000000) else none
  else if !s.fuse.small ∧ 0x3F0000000000 ≤ pra ∧ pra < 0x3F0006000000 then
    let o := pra - 0x3F0000000000
    let e := s.rd (aPart q (0xC00 + 8 * (o / 0x100000)))
    if fld e 1 0 = 1 then some (0x3F0000000000 + fld e 14 8 * 0x100000 + o % 0x100000) else none
  else none

/-- Slot windows that a range of `n` bytes from `pra` touches: every address of it that starts a 1 MiB block. -/
def rangeProbes (pra n : Nat) : List Nat :=
  if n = 0 then []
  else (List.range ((pra + n - 1) / 0x100000 + 1 - pra / 0x100000)).map fun i =>
    max pra ((pra / 0x100000 + i) * 0x100000)

/-- A range lies wholly in MAPPED slots (R189). -/
def State.mapped (s : State) (q pra n : Nat) : Bool :=
  (rangeProbes pra n).all fun a => (s.xlat q a).isSome

/-- A range lies wholly in MAPPED HBM slots (R226, R235). -/
def State.mappedHbm (s : State) (q pra n : Nat) : Bool :=
  s.mapped q pra n && pra + n ≤ 128 * 0x40000000

/-- Mark a write to partition memory in the current dirty bitmap (R244). -/
def State.markDirty (s : State) (q pra : Nat) : State :=
  if s.rb (aPart q 0x40) 0 then
    let bit := if pra < 128 * 0x40000000 then pra / 0x10000 else 0x40000 * 8 + (pra - 0x3F0000000000) / 0x10000
    let base := fld (s.rd (aPart q 0x48)) 45 12 * 4096 + (if s.rb (aPart q 0x40) 2 then 0x41000 else 0)
    let pa := base + bit / 8
    let w := s.readPa (pa / 8 * 8)
    s.writePa (pa / 8 * 8) { w with val := w.val ||| ((1 : Word) <<< (8 * (pa % 8) + bit % 8)) }
  else s

/-- The word at a partition-real address (zero UNTYPED where nothing is mapped). -/
def State.readPra (s : State) (q pra : Nat) : TWord :=
  match s.xlat q pra with
  | some pa => s.readPa (pa / 8 * 8)
  | none => {}

/-- Write a word at a partition-real address, if it is mapped. -/
def State.writePra (s : State) (q pra : Nat) (w : TWord) : State :=
  match s.xlat q pra with
  | some pa => (s.writePa (pa / 8 * 8) w).markDirty q pra
  | none => s

/-- The words that a byte range touches. -/
def State.rangeWords (s : State) (q pra n : Nat) : List TWord :=
  if n = 0 then []
  else (List.range ((pra + n - 1) / 8 + 1 - pra / 8)).map fun i => s.readPra q ((pra / 8 + i) * 8)

/-- Bytes of words, least significant byte first (R99). -/
def wordBytes : List TWord → Bytes
  | [] => []
  | w :: t => leBytes 8 w.val.toNat ++ wordBytes t

/-- The bytes of a range of partition memory. -/
def State.readBytes (s : State) (q pra n : Nat) : Bytes :=
  ((wordBytes (s.rangeWords q pra n)).drop (pra % 8)).take n

/-- A word with bytes replaced from byte `o` on. -/
def splice (w : Word) (o : Nat) (b : Bytes) : Word :=
  let n := b.length
  let m : Nat := (2 ^ (8 * n) - 1) * 2 ^ (8 * o)
  (w &&& ~~~ (BitVec.ofNat 64 m)) ||| BitVec.ofNat 64 (ofLe b * 2 ^ (8 * o))

/-- Write bytes into partition memory: words covered wholly become UNTYPED when `retag`, others keep their tag
(R269, R291). `fuel` bounds the words. -/
def State.writeBytesAux (s : State) (q : Nat) (retag : Bool) : Nat → Nat → Bytes → State
  | 0, _, _ => s
  | _ + 1, _, [] => s
  | fuel + 1, pra, b =>
    let o := pra % 8
    let h := b.take (8 - o)
    let w := s.readPra q (pra / 8 * 8)
    let tag := if retag && h.length == 8 then Tag.untyped else w.tag
    let s := s.writePra q (pra / 8 * 8) ⟨splice w.val o h, tag⟩
    s.writeBytesAux q retag fuel (pra / 8 * 8 + 8) (b.drop (8 - o))

/-- Write bytes into partition memory. -/
def State.writeBytes (s : State) (q pra : Nat) (b : Bytes) (retag : Bool := true) : State :=
  s.writeBytesAux q retag (b.length / 8 + 2) pra b

/-- Write words with their tags from an 8-byte-aligned partition-real address on. -/
def State.writeTagged (s : State) (q pra : Nat) : List TWord → State
  | [] => s
  | w :: ws => (s.writePra q pra w).writeTagged q (pra + 8) ws

/-- No word of a range carries one of the tags. -/
def State.noTags (s : State) (q pra n : Nat) (bad : List Tag) : Bool :=
  (s.rangeWords q pra n).all fun w => !bad.contains w.tag

/-! ## Status codes (R11) -/

namespace St
/-- OK. -/
def ok : BitVec 8 := 0x00
/-- OK_REPLAYED. -/
def replayed : BitVec 8 := 0x01
/-- INVALID_OPCODE. -/
def invalidOpcode : BitVec 8 := 0x10
/-- INVALID_FIELD. -/
def invalidField : BitVec 8 := 0x11
/-- UNSUPPORTED. -/
def unsupported : BitVec 8 := 0x12
/-- HOST_READ_FAULT. -/
def hostReadFault : BitVec 8 := 0x20
/-- CHAIN_LIMIT. -/
def chainLimit : BitVec 8 := 0x21
/-- BUFFER_TOO_SMALL. -/
def bufferTooSmall : BitVec 8 := 0x22
/-- STALE_RECEIPT. -/
def staleReceipt : BitVec 8 := 0x30
/-- KEY_DENIED. -/
def keyDenied : BitVec 8 := 0x50
/-- VERIFY_FAILED. -/
def verifyFailed : BitVec 8 := 0x51
/-- TAG_MISMATCH. -/
def tagMismatch : BitVec 8 := 0x52
/-- PATH_LOST. -/
def pathLost : BitVec 8 := 0x60
/-- CANCELLED. -/
def cancelled : BitVec 8 := 0x61
/-- PARTITION_FROZEN. -/
def partitionFrozen : BitVec 8 := 0x70
/-- INTERNAL_ERROR. -/
def internalError : BitVec 8 := 0x7F
/-- The codes of R11. -/
def all : List (BitVec 8) :=
  [ok, replayed, invalidOpcode, invalidField, unsupported, hostReadFault, chainLimit, bufferTooSmall, staleReceipt,
   keyDenied, verifyFailed, tagMismatch, pathLost, cancelled, partitionFrozen, internalError]
end St

/-! ## Partitions, processors and events -/

/-- PART_STATUS.STATE values (10_partitions.md). -/
def State.partState (s : State) (q : Nat) : Nat := s.rf (aPart q 8) 3 0

/-- Pair p serves partition q with role ACTIVE (R36). -/
def State.activePair (s : State) (q p : Nat) : Bool :=
  s.rf (aPair p 0) 1 0 == 1 && s.rf (aPair p 0) 13 8 == q

/-- Split mode (R41): the latched strap. -/
def State.split (s : State) : Bool := s.rb (aClk 0x408) 16

/-- The processor that a core number stands for: the leading core in checked mode, itself in split mode (R25, R41). -/
def State.procOf (s : State) (c : Nat) : Nat := if s.split then c else c / 2 * 2

/-- Core c is fenced in split mode (R42). -/
def State.coreFenced (s : State) (c : Nat) : Bool := s.rb (aPair (c / 2) 8) (5 + c % 2)

/-- The active processors of a partition, by core number. -/
def State.procsOf (s : State) (q : Nat) : List Nat :=
  (List.range 48).flatMap fun p =>
    if s.activePair q p then
      if s.split then [2 * p, 2 * p + 1].filter fun c =>
        !s.coreFenced c && !(c % 2 == 1 && s.rb (aPair p 8) 9)
      else [2 * p]
    else []

/-- The partition that a core serves. -/
def State.partOf (s : State) (c : Nat) : Nat := s.rf (aPair (c / 2) 0) 13 8

/-- One processor's state. -/
def State.proc (s : State) (c : Nat) : Proc := s.core.procs.get {} c

/-- The state with a processor replaced. -/
def State.setProc (s : State) (c : Nat) (p : Proc) : State :=
  { s with core := { s.core with procs := s.core.procs.put {} c p } }

/-- An event bit in EVPEND (C16) of an architectural state. -/
def Arch.withEvents (a : Arch) (mask : Word) : Arch := { a with c := a.c.put 0 16 (a.c.get 0 16 ||| mask) }

/-- Key of the image of a core's processor (CoreSt.images): the pair, or 64 + core in split mode. -/
def State.imgKey (s : State) (c : Nat) : Nat := if s.split then 64 + c else c / 2

/-- Set EVPEND bits of a processor (R67, R238). They stay latched across a rollback (R33), and in the image of a fenced
processor (R37). -/
def State.setEvents (s : State) (c : Nat) (mask : Word) : State :=
  match s.core.images.find (s.imgKey c) with
  | some m => { s with core := { s.core with
      images := s.core.images.set (s.imgKey c) { m with latched := m.latched ||| mask } } }
  | none =>
    let p := s.proc c
    s.setProc c { p with
      a := Arch.withEvents p.a mask
      ckpt := Arch.withEvents p.ckpt mask
      closed := p.closed.map fun w => { w with after := Arch.withEvents w.after mask } }

/-- Set one event on every active processor of a partition (R238). -/
def State.eventAll (s : State) (q ev : Nat) : State :=
  (s.procsOf q).foldl (fun s c => s.setEvents c ((1 : Word) <<< ev)) s

/-- Set one event on one processor, following it to where its image waits if it has been fenced (R238). -/
def State.eventOne (s : State) (c ev : Nat) : State := s.setEvents (s.procOf c) ((1 : Word) <<< ev)

/-- Event numbers (R67). -/
def evWork : Nat := 0
/-- CRYPTO. -/
def evCrypto : Nat := 1
/-- COMMIT. -/
def evCommit : Nat := 2
/-- MOVER. -/
def evMover : Nat := 3
/-- COMPRESS. -/
def evCompress : Nat := 4
/-- EXCHANGE. -/
def evExchange : Nat := 5
/-- MAILBOX. -/
def evMailbox : Nat := 6
/-- TIMER. -/
def evTimer : Nat := 7
/-- IPI. -/
def evIpi : Nat := 8
/-- MANAGER. -/
def evManager : Nat := 9

/-! ## Admission gates -/

/-- LANTERN has stopped under R397. -/
def State.lanternStopped (s : State) : Bool := s.rb 0x204020 1

/-- DPX_STATUS.STATE (R367). -/
def State.dpxState (s : State) : Nat := s.rf (aDpx 0x10) 2 0

/-- A healthy duplex: ACTIVE and not DEGRADED (R347). -/
def State.healthy (s : State) : Bool := s.dpxState == 2 && !s.rb (aDpx 0x10) 3

/-- A Hibernate sequence runs (R419). -/
def State.hibernating (s : State) : Bool :=
  s.pwr.phase == .stopped || s.pwr.phase == .records || s.pwr.phase == .sealed || s.pwr.phase == .off

/-- The module admits work: boot has opened admission (R432), no removal (R415), LANTERN not stopped (R398), no module
reset under way (R394), no Hibernate (R419), no handover (R383), and a duplex state that admits (R367). -/
def State.admits (s : State) : Bool :=
  s.boot.admission && !s.lanternStopped && s.flt.reset.isNone && !s.hibernating
    && s.pwr.drain == .none && !s.dpx.handover
    && (s.dpxState == 0 || s.dpxState == 2 || (s.dpxState == 1 && s.dpx.role != some false))

/-- COMMIT and OUTCOME records may be staged, and exchange frames sent (R377, R394, R398, R419, R383). -/
def State.mayStage (s : State) : Bool :=
  !s.lanternStopped && s.flt.reset.isNone && !s.hibernating && s.dpxState != 4 && s.dpxState != 7

end Sys2Proof.Machine
end

