-- ==== Sys2Proof/Machine/MgmtRead.lean ====
section
/-!
DEFINITION. Reading the management space: the stored bits of a register (Machine/Regs.lean) with the fields that report
on the rest of the state laid over them; the PAIR_CKPT layout of a processor-state image.
-/
namespace Sys2Proof.Machine

/-- Tags of sixteen G registers from `i` on, packed as PAIR_CKPT 0x200 and 0x208 give. -/
def packTags (g : Tbl TWord) (i : Nat) : Word :=
  BitVec.ofNat 64 ((List.range 16).foldl (fun n k => n + (g.get {} (i + k)).tag.toNat * 16 ^ k) 0)

/-- The word of an image at PAIR_CKPT offset `o` (02_checked_execution.md, PAIR_CKPT). -/
def ckptWord (m : ProcImg) (o : Nat) : Word :=
  if o % 8 ≠ 0 then 0
  else if 0x100 ≤ o ∧ o < 0x200 then (m.a.g.get {} ((o - 0x100) / 8)).val
  else if o = 0x200 then packTags m.a.g 0
  else if o = 0x208 then packTags m.a.g 16
  else if 0x210 ≤ o ∧ o < 0x310 then m.a.f.get 0 ((o - 0x210) / 8)
  else if o = 0x310 then BitVec.ofNat 64 (m.a.cc.toNat + 4 * m.a.depth)
  else if o = 0x318 then m.a.fpsr
  else if 0x320 ≤ o ∧ o < 0x340 then m.a.lstart.get 0 ((o - 0x320) / 8)
  else if 0x340 ≤ o ∧ o < 0x360 then m.a.lend.get 0 ((o - 0x340) / 8)
  else if 0x360 ≤ o ∧ o < 0x380 then m.a.lcount.get 0 ((o - 0x360) / 8)
  else if 0x400 ≤ o ∧ o < 0x500 then m.a.c.get 0 ((o - 0x400) / 8)
  else if o = 0x500 then m.a.psw0
  else if o = 0x508 then m.a.pc
  else if o = 0x510 then m.latched
  else if o = 0x518 then m.seq
  else 0

/-- Set the tags of sixteen G registers from a packed word. -/
def unpackTags (g : Tbl TWord) (i : Nat) (v : Word) : Nat → Tbl TWord
  | 0 => g
  | k + 1 =>
    let g := unpackTags g i v k
    if i + k = 0 then g
    else g.put {} (i + k) { g.get {} (i + k) with tag := BitVec.ofNat 4 (v.toNat / 16 ^ k) }

/-- The image with the word at PAIR_CKPT offset `o` replaced. -/
def ckptSet (m : ProcImg) (o : Nat) (v : Word) : ProcImg :=
  let a := m.a
  if o % 8 ≠ 0 then m
  else if 0x100 ≤ o ∧ o < 0x200 then
    let i := (o - 0x100) / 8
    if i = 0 then m else { m with a := { a with g := a.g.put {} i { a.g.get {} i with val := v } } }
  else if o = 0x200 then { m with a := { a with g := unpackTags a.g 0 v 16 } }
  else if o = 0x208 then { m with a := { a with g := unpackTags a.g 16 v 16 } }
  else if 0x210 ≤ o ∧ o < 0x310 then { m with a := { a with f := a.f.put 0 ((o - 0x210) / 8) v } }
  else if o = 0x310 then { m with a := { a with cc := BitVec.ofNat 2 v.toNat, depth := fld v 4 2 } }
  else if o = 0x318 then
    let v := v &&& 0x1FFF
    { m with a := { a with fpsr := if 5 ≤ fld v 12 10 then setFld v 12 10 (fld a.fpsr 12 10) else v } }
  else if 0x320 ≤ o ∧ o < 0x340 then { m with a := { a with lstart := a.lstart.put 0 ((o - 0x320) / 8) v } }
  else if 0x340 ≤ o ∧ o < 0x360 then { m with a := { a with lend := a.lend.put 0 ((o - 0x340) / 8) v } }
  else if 0x360 ≤ o ∧ o < 0x380 then { m with a := { a with lcount := a.lcount.put 0 ((o - 0x360) / 8) v } }
  else if 0x400 ≤ o ∧ o < 0x500 then { m with a := { a with c := a.c.put 0 ((o - 0x400) / 8) v } }
  else if o = 0x500 then { m with a := { a with psw0 := v &&& 0x1FF } }
  else if o = 0x508 then { m with a := { a with pc := v &&& ~~~ 3 } }
  else if o = 0x510 then { m with latched := v }
  else if o = 0x518 then { m with seq := v }
  else m

/-- Entries of a table that satisfy a test. -/
def countP {α : Type} (f : α → Bool) : Tbl α → Nat
  | [] => 0
  | (_, v) :: t => b2n (f v) + countP f t

/-- Blocks of 256 bytes that a record takes in the ring (R352). -/
def recBlocks (r : JRec) : Nat := (64 + r.payload.length + 255) / 256

/-- Journal Ring blocks in use. -/
def State.ringUsed (s : State) : Nat :=
  (s.jrn.ring.map fun e => recBlocks e.r).sum + (s.dpx.mirror.map fun e => recBlocks e.r).sum

/-- A record still occupies journal staging: not written, or its mirror item not yet covered (R370). -/
def inStaging (e : JEnt) : Bool := !e.written || (e.msn.isSome && !e.mirrored)

/-- Journal staging bytes in use: records and other held items, of 128 bytes and their share each. -/
def State.stagingUsed (s : State) : Nat :=
  ((s.jrn.ring.filter inStaging).map fun e => 64 + e.r.payload.length).sum

/-- A fault source that R402 reserves. -/
def fltReserved (i : Nat) : Bool :=
  i == 103 || i == 110 || i == 111 || (137 ≤ i && i ≤ 143) || i == 223 || i == 231
    || (236 ≤ i && i ≤ 239) || i == 246 || i == 247

/-- A fault source of an absent unit (R403). -/
def State.fltAbsent (s : State) (i : Nat) : Bool :=
  s.fuse.small && ((16 ≤ i && i ≤ 23) || (40 ≤ i && i ≤ 47) || (116 ≤ i && i ≤ 123) || (148 ≤ i && i ≤ 151)
    || (176 ≤ i && i ≤ 191))

/-- The register range belongs to an absent unit (R3, R15, R251, R278, R282, R403). -/
def State.absent (s : State) (a : Nat) : Bool :=
  s.fuse.small &&
    ((0x700000 ≤ a && a < 0x730000 && !s.pairPresent ((a - 0x700000) / 0x1000))
    || (0xD00000 + 128 * 0x400 ≤ a && a < 0xD00000 + 256 * 0x400)
    || (0xA00000 + 16 * 8 ≤ a && a < 0xA00000 + 48 * 8)
    || (0xB00000 + 4 * 8 ≤ a && a < 0xB00000 + 8 * 8)
    || (0x300000 ≤ a && a < 0x33F000 && 0xC00 ≤ a % 0x1000 && a % 0x1000 < 0xF00)
    || (0x200000 ≤ a && a < 0x204000 && s.fltAbsent ((a - 0x200000) / 0x40)))

/-- CAP block contents (R449, R450). -/
def State.capWord (s : State) (a : Nat) : Word :=
  let z := s.fuse.small
  match a with
  | 0x000 => BitVec.ofNat 64 ((if z then 0x6432 else 0x9648) + s.fuse.stepping.toNat * 2 ^ 16 + 0x46415256 * 2 ^ 32)
  | 0x008 => s.fuse.ident.truncate 64
  | 0x010 => (s.fuse.ident >>> 64).truncate 64
  | 0x018 => if z then 0x000000FFFF00FFFF else 0x0000FFFFFFFFFFFF
  | 0x020 => if z then 0x101803CF else 0x10180FFF
  | 0x028 => 0xFFFFFFFFFFFFFFFF
  | 0x030 => 0xFFFFFFFFFFFFFFFF
  | 0x038 => if z then 0 else 0xFFFFFFFFFFFFFFFF
  | 0x040 => if z then 0 else 0xFFFFFFFFFFFFFFFF
  | 0x048 => if z then 0x000F00000000FFFF else 0x00FFFFFFFFFFFFFF
  | 0x050 => 0xFFFFFFFFFFFFFFFF
  | 0x058 => BitVec.ofNat 64 ((if z then 0 else 3) + 4 * b2n s.split + (if z then 24 else 48) * 2 ^ 8
      + (if z then 45 else 90) * 2 ^ 16 + 63 * 2 ^ 24)
  | 0x060 => BitVec.ofNat 64 (16 + 15 * 2 ^ 5 + 13 * 2 ^ 10 + 9 * 2 ^ 15 + 6 * 2 ^ 20)
  | 0x068 => BitVec.ofNat 64 (fld (s.rd 0x68) 31 0 + s.fuse.minFwRev.toNat * 2 ^ 32)
  | _ => s.rd a

/-- View k of the MBX block (R451) by mailbox number of HostSt.mbox. -/
def mbxView (k : Nat) : Nat := k

/-- A mailbox register (R242). -/
def mboxWord (m : Mbox) (o : Nat) : Word :=
  if o < 0x40 then m.msg.get 0 (o / 8)
  else if o = 0x48 then BitVec.ofNat 64 (m.ackStatus.toNat + 256 * m.ackDetail.toNat)
  else if o = 0x50 then BitVec.ofNat 64 ((match m.state with | .idle => 0 | .posted => 1 | .done => 2)
    + m.len * 4 + m.ignored * 2 ^ 16)
  else 0

/-- CHP_CREDIT: (CL − CONSUMED) of each VL (R307). -/
def creditWord (k : LinkSt) : Word :=
  BitVec.ofNat 64 ((List.range 4).foldl
    (fun n i => n + ((k.limit.getD i 0 - k.consumed.getD i 0).toNat) * 2 ^ (16 * i)) 0)

/-- Work Order Table entries that a context holds (R228). -/
def State.inuseWo (s : State) (q : Nat) : Nat := countP (fun e => e.state != .free && e.part == q) s.host.wo

/-- Exchange Table entries that a context holds (R228). -/
def State.inuseXt (s : State) (q : Nat) : Nat := countP (fun e => e.state != .free && e.ctx == q) s.xchg.table

/-- The image that PAIR_CKPT shows: that of a FENCED pair, or in split mode of its fenced core, the even one first. -/
def State.ckptImage (s : State) (p : Nat) : Option ProcImg :=
  if s.split then s.core.images.find (64 + 2 * p) <|> s.core.images.find (64 + 2 * p + 1)
  else if s.rf (aPair p 8) 2 0 = 4 then s.core.images.find p else none

/-- A register as a management read returns it, before any clearing. -/
def State.peek (s : State) (a : Nat) : Word :=
  if s.absent a then 0
  else if a < 0x100 then s.capWord a
  else if 0x200000 ≤ a ∧ a < 0x204000 then
    let i := (a - 0x200000) / 0x40
    if fltReserved i then 0
    else if a % 0x40 = 0x18 then
      let v := s.rd a
      let w := (s.time - s.rd (aFlt i 0x38)).toNat / 2 ^ s.rf (aFlt i 0x20) 4 0
      if s.flt.win.get 0 i = w then v else setFld v 7 0 0
    else s.rd a
  else if 0x204000 ≤ a ∧ a < 0x204020 then
    let j := (a - 0x204000) / 8
    BitVec.ofNat 64 ((List.range 64).foldl
      (fun n b => n + (if s.rf (aFlt (64 * j + b) 0) 15 0 ≠ 0 then 2 ^ b else 0)) 0)
  else if 0x300000 ≤ a ∧ a < 0x33F000 ∧ a % 0x1000 = 8 then
    let q := (a - 0x300000) / 0x1000 + 1
    let v := setBit (s.rd a) 8 (s.rf (aPart q 0x18) 48 32 < s.inuseWo q)
    let v := setBit v 9 (s.rf (aPart q 0x20) 48 32 < s.inuseXt q)
    setFld v 21 16 (s.procsOf q).length
  else if 0x600000 ≤ a ∧ a < 0x600000 + 67 * 0x80 then
    mboxWord (s.host.mbox.get {} ((a - 0x600000) / 0x80)) (a % 0x80)
  else if a = 0x1100000 then BitVec.ofNat 64 (s.fuse.romId.toNat + s.fuse.ucsMinRev.toNat * 2 ^ 32)
  else if 0x700000 ≤ a ∧ a < 0x730000 then
    let p := (a - 0x700000) / 0x1000
    let o := a % 0x1000
    if o = 8 then setFld (s.rd a) 8 8 (b2n s.split)
    else if o = 0x10 then (s.proc (2 * p)).seq
    else if o = 0x38 then s.rd a &&& ~~~ 3
    else if 0x100 ≤ o ∧ o ≤ 0x518 then
      match s.ckptImage p with
      | some m => ckptWord m o
      | none => 0
    else s.rd a
  else if 0x800000 ≤ a ∧ a < 0x818000 ∧ a % 0x1000 = 8 then
    let n := (a - 0x800000) / 0x1000
    BitVec.ofNat 64 (min 127 ((s.coh.txn.filter fun t => homeOf t.1 = n).length)
      + min 63 ((s.coh.evb.filter fun e => homeOf e.1 = n).length) * 2 ^ 7 + b2n (s.rb a 13) * 2 ^ 13)
  else if a = 0x900008 then setFld (s.rd a) 7 0 (if s.fuse.small then 45 else 90)
  else if 0xA00000 ≤ a ∧ a < 0xA00380 then setBit (s.rd a) 0 true
  else if a = 0xA00400 then
    BitVec.ofNat 64 (s.cry.vault.length
      + (s.cry.vault.map fun r => Config.granules r.2.material.length).sum * 2 ^ 20)
  else if 0xB00000 ≤ a ∧ a < 0xB00040 then setBit (s.rd a) 0 true
  else if 0xC00000 ≤ a ∧ a < 0xC01000 ∧ a % 0x40 = 0x38 then
    let c := (a - 0xC00000) / 0x40
    match (List.range 63).find? (fun q => (List.range 32).any fun d =>
        let v := s.rd (aPart (q + 1) (0x100 + 8 * d)); bitOf v 6 && fld v 5 0 == c) with
    | some q => BitVec.ofNat 64 (q + 1 + 64)
    | none => 0
  else if 0xD00000 ≤ a ∧ a < 0xD40000 ∧ (a % 0x400 = 0x38 ∨ a % 0x400 = 0x40) then
    let k := s.link.get {} ((a - 0xD00000) / 0x400)
    if a % 0x400 = 0x38 then creditWord k
    else BitVec.ofNat 64 (k.nextTx.toNat + k.acked.toNat * 2 ^ 16 + k.nextRx.toNat * 2 ^ 32 + k.replayRun * 2 ^ 48)
  else if 0x1001000 ≤ a ∧ a < 0x1003000 ∧ (a % 0x400 = 0x38 ∨ a % 0x400 = 0x40) then
    let k := s.link.get {} (256 + (a - 0x1001000) / 0x400)
    if a % 0x400 = 0x38 then creditWord k
    else BitVec.ofNat 64 (k.nextTx.toNat + k.acked.toNat * 2 ^ 16 + k.nextRx.toNat * 2 ^ 32 + k.replayRun * 2 ^ 48)
  else if a = 0xE02100 then
    BitVec.ofNat 64 (countP (fun e => e.state != .free) s.xchg.table
      + countP (fun e => e.state == .pathWait) s.xchg.table * 2 ^ 17)
  else if a = 0xF00008 then
    BitVec.ofNat 64 (min s.ringUsed (2 ^ 20 - 1) + b2n (!s.healthy) * 2 ^ 20 + b2n (!s.jrn.commits.isEmpty) * 2 ^ 21)
  else if a = 0x1000010 then
    let up (l : Nat) : Bool := s.rf (aLink l 8) 2 0 == 3
    let v := setBit (s.rd a) 9 (s.rb (aClk 0x408) 17)
    let v := setBit v 10 (up 256 || up 257 || up 258 || up 259)
    setBit v 11 (up 260 || up 261 || up 262 || up 263)
  else if 0x400000 ≤ a ∧ a ≤ 0x500000 ∧ a % 0x100000 = 0 then
    let p := (a - 0x400000) / 0x100000
    setFld (s.rd a) 15 8 (if s.host.vfEnable.get false p then s.host.numVfs.get 0 p else 0)
  else match regFind a with
    | some r => s.rd a &&& ~~~ (r.wo ||| r.rsv)
    | none => 0

end Sys2Proof.Machine
end

