-- ==== Sys2Proof/Machine/JournalOps.lean ====
section
/-!
DEFINITION. The Courier items' way out (R369, R370), journal records, their acknowledgement and hashing, seals and
epochs (15_journal_ledger.md), Receipt windows (R209, R346), CHANGE records and management writes (R363, R364, R440).
-/
namespace Sys2Proof.Machine

/-! ## Links as far as the senders see them -/

/-- A link is ACTIVE (R308). -/
def State.linkActive (s : State) (l : Nat) : Bool := s.rf (aLink l 8) 2 0 == 3

/-- A frame joins a link's transmit queue. -/
def State.pushFrame (s : State) (l : Nat) (t : TxF) : State :=
  { s with link := s.link.upd {} l fun k => { k with queue := k.queue ++ [t] } }

/-- Credits that a link holds on a virtual lane (R307). -/
def linkCredit (k : LinkSt) (vl : Nat) : Nat := (k.limit.getD vl 0 - k.consumed.getD vl 0).toNat

/-- KIND of a Courier item (R369). -/
def itemKind : CBody → Nat
  | .journal _ => 0x01 | .workOrder _ _ => 0x02 | .exchange _ _ => 0x03 | .partWrite _ _ => 0x04
  | .vault _ _ _ => 0x05 | .snapshot _ => 0x06 | .snapshotEnd => 0x07 | .migrate _ => 0x08
  | .migrateRsp _ _ _ => 0x09 | .hello _ => 0x10 | .heartbeat _ => 0x11 | .mirrorAck _ => 0x12
  | .goodbye _ => 0x13 | .mailbox _ _ => 0x14 | .mailboxAck _ _ _ => 0x15

/-- Content bytes of a Courier item (log entry 20 for the kinds whose encoding the spec does not lay out). -/
def itemLen : CBody → Nat
  | .journal r => 64 + r.payload.length
  | .workOrder _ _ => 132
  | .exchange _ _ => 132
  | .partWrite _ _ => 16
  | .vault _ _ (some r) => 8 + 64 + r.material.length
  | .vault _ _ none => 8
  | .snapshot _ => 136
  | .snapshotEnd => 0
  | .migrate _ => 32
  | .migrateRsp _ _ _ => 16
  | .hello _ => 24
  | .heartbeat _ => 64
  | .mirrorAck _ => 8
  | .goodbye _ => 8
  | .mailbox _ n => n
  | .mailboxAck _ _ w => 8 + 8 * w.length

/-- TGEN (R368). -/
def State.tgen (s : State) : Nat := s.rf (aDpx 0x10) 63 32

/-- XH1 of a Courier frame (R369): KIND, LASTFRAG, CONTEXT, TGEN. -/
def itemXh1 (i : CItem) : Word :=
  BitVec.ofNat 64 (itemKind i.body + 2 ^ 16 + i.ctx * 2 ^ 24 + i.tgen.toNat * 2 ^ 32)

/-- The Courier frame of an item. -/
def itemFrame (vl : Nat) (xh0 : Word) (i : CItem) : TxF :=
  { vl := vl, xh0 := xh0, xh1 := itemXh1 i, body := .item i }

/-- ACTIVE Courier lanes (as link numbers). -/
def State.activeLanes (s : State) : List Nat := ((List.range 8).map (256 + ·)).filter s.linkActive

/-- The ACTIVE lane with the most VL3 credit, ties to the lower lane (R370). -/
def State.bestLane (s : State) : Option Nat :=
  s.activeLanes.foldl (fun b l => match b with
    | none => some l
    | some m => if linkCredit (s.link.get {} l) 3 > linkCredit (s.link.get {} m) 3 then some l else some m) none

/-- VL3 items are being mirrored: ACTIVE, or FORMING as the future active with the Pair Key agreed (R367, R382). -/
def State.mirrorOn (s : State) : Bool :=
  (s.dpxState == 2 || (s.dpxState == 1 && s.dpx.role == some true && s.dpx.pairKey))
    && !(s.rb (aDpx 0x10) 3 && !s.rb (aDpx 0x10) 4)

/-- Send a VL3 item with an MSN already assigned on the best lane (R370). -/
def State.laneItem (s : State) (i : CItem) : State :=
  match s.bestLane with
  | some l => s.pushFrame l (itemFrame 3 (BitVec.ofNat 64 i.msn) i)
  | none => s

/-- The first lane of a silent Courier path has become ACTIVE: the held items, which had no lane to go on, are sent with
their MSNs (R370). -/
def State.laneUp (s : State) (l : Nat) : State :=
  if s.activeLanes = [l] then s.dpx.held.foldl (fun s i => s.laneItem i) s else s

/-- Assign the next MSN to an item, hold it until MSN_APPLIED covers it, and send it (R370). While the Courier path of
an active module is silent its items are dropped (R367), and so are those of a FENCED one. -/
def State.mirror (s : State) (ctx : Nat) (b : CBody) : Option Nat × State :=
  if s.mirrorOn then
    let n := (s.rd (aDpx 0x30)).toNat
    let i : CItem := { msn := n, ctx := ctx, tgen := BitVec.ofNat 32 s.tgen, body := b }
    let s := s.wr (aDpx 0x30) (BitVec.ofNat 64 (n + 1))
    let s := { s with dpx := { s.dpx with held := s.dpx.held ++ [i] } }
    (some n, s.laneItem i)
  else if s.dpxState == 2 || s.dpxState == 4 then (none, { s with dpx := { s.dpx with dropped := true } })
  else (none, s)

/-- Send a VL3 item whose MSN nobody waits for. -/
def State.mirror' (s : State) (ctx : Nat) (b : CBody) : State := (s.mirror ctx b).2

/-- Send a VL0 item on one lane (R369). -/
def State.vl0Item (s : State) (l : Nat) (xh0 : Word) (b : CBody) : State :=
  s.pushFrame l (itemFrame 0 xh0 { msn := 0, ctx := 0, tgen := BitVec.ofNat 32 s.tgen, body := b })

/-- CRC-8 with polynomial 0x07, initial value 0 (R375): one byte. -/
def crc8Byte (c : BitVec 8) (b : Byte) : BitVec 8 :=
  (List.range 8).foldl (fun c _ => if c.getLsbD 7 then (c <<< 1) ^^^ 0x07 else c <<< 1) (c ^^^ b)

/-- CRC-8 over bytes (R375). -/
def crc8 (b : Bytes) : BitVec 8 := b.foldl crc8Byte 0

/-- A word for the sideband: its nine characters (R375). -/
def sideWord (ty : Byte) (state reason seq ident : Nat) : BitVec 72 :=
  let b := [ty, BitVec.ofNat 8 (state % 8 + reason * 16)] ++ leBytes 2 seq ++ leBytes 4 ident
  BitVec.ofNat 72 (ofLe (b ++ [crc8 b]))

/-- GOODBYE on every ACTIVE lane and three times on the sideband; GOODBYE_TX is counted (R376, R385). -/
def State.goodbye (s : State) (reason : Nat) : State :=
  let s := s.activeLanes.foldl (fun s l => s.vl0Item l 0 (.goodbye reason)) s
  let w := sideWord 0x47 s.dpxState reason s.dpx.hbSeq (s.fuse.ident.toNat % 2 ^ 32)
  let s := if s.rb (aDpx 0) 2 then ((s.emitPin (.sideband w)).emitPin (.sideband w)).emitPin (.sideband w) else s
  s.raise 198 3

/-- LANTERN stops and is held low with a cause and source (R397, R398). A later cause does not replace the first. -/
def State.lanternStop (s : State) (cause src : Nat) : State :=
  if s.lanternStopped then s
  else
    let s := s.wr 0x204020 (BitVec.ofNat 64 (2 + src * 2 ^ 8 + cause * 2 ^ 16))
    { (s.emitPin (.pin "LANTERN" false)) with pwr := { s.pwr with lantern := false } }

/-! ## Journal records -/

/-- CRC-32C, reflected, one byte (R292). -/
def crc32cByte (c : BitVec 32) (b : Byte) : BitVec 32 :=
  (List.range 8).foldl (fun c _ => if c.getLsbD 0 then (c >>> 1) ^^^ 0x82F63B78 else c >>> 1) (c ^^^ b.zeroExtend 32)

/-- CRC-32C over bytes, from a register value before the final XOR. -/
def crc32cRaw (c : BitVec 32) (b : Bytes) : BitVec 32 := b.foldl crc32cByte c

/-- CRC-32C (R292): initial value and final XOR all ones. -/
def crc32c (b : Bytes) : BitVec 32 := ~~~ (crc32cRaw 0xFFFFFFFF b)

/-- CRC-64/ECMA-182, not reflected, one byte (R292). -/
def crc64Byte (c : Word) (b : Byte) : Word :=
  (List.range 8).foldl (fun c _ => if c.getLsbD 63 then (c <<< 1) ^^^ 0x42F0E1EBA9EA3693 else c <<< 1)
    (c ^^^ (b.zeroExtend 64 <<< 56))

/-- CRC-64/ECMA-182 (R292): initial value and final XOR 0. -/
def crc64 (c : Word) (b : Bytes) : Word := b.foldl crc64Byte c

/-- The header bytes 0x00–0x37 of a journal record (R349). -/
def recHead (r : JRec) : Bytes :=
  leBytes 8 r.jsn.toNat ++ leBytes 8 r.stamp.toNat ++ leBytes 8 r.receipt.toNat ++ leBytes 8 r.domain.toNat
    ++ [r.kind, r.window, r.status, r.context] ++ leBytes 4 r.payload.length ++ leBytes 8 r.result.toNat
    ++ leBytes 8 r.ident.toNat

/-- A journal record's bytes: 64-byte header and payload (R349). -/
def recBytes (r : JRec) : Bytes :=
  recHead r ++ leBytes 4 (crc32c (recHead r ++ r.payload)).toNat ++ leBytes 4 0 ++ r.payload

/-- SHA-384, 48 bytes (R349). -/
def sha384 (b : Bytes) : Bytes := fit 48 (Config.hash 2 48 b)

/-- Room for a COMMIT or OUTCOME record: outside the reserve of R345. -/
def State.commitRoom (s : State) (n : Nat) : Bool :=
  s.stagingUsed + 64 + n ≤ 0x400000 - 0x40000 && s.ringUsed + (64 + n + 255) / 256 ≤ 524288 - 16384

/-- Room for a CHANGE record: outside the part of the reserve that serves SEAL records (R345). -/
def State.changeRoom (s : State) : Bool :=
  s.stagingUsed + 64 + 40 ≤ 0x400000 - 0x10000 && s.ringUsed + 1 ≤ 524288 - 4096

/-- Room for a SEAL record. -/
def State.sealRoom (s : State) (n : Nat) : Bool :=
  s.stagingUsed + 64 + n ≤ 0x400000 && s.ringUsed + (64 + n + 255) / 256 ≤ 524288

/-- Stage a record: JSN and STAMP are assigned, the local write starts, and in a duplex its JOURNAL item is sent
(R348, R350, R369). -/
def State.stage (s : State) (e : JEnt) : State :=
  let jsn := s.rd (aJrn 0x10)
  let r := { e.r with jsn := jsn, stamp := s.time, ident := s.fuse.ident.truncate 64 }
  let s := s.wr (aJrn 0x10) (jsn + 1)
  let (n, s) := s.mirror r.context.toNat (.journal r)
  { s with jrn := { s.jrn with ring := s.jrn.ring ++ [{ e with r := r, msn := n }] } }

/-! ## Receipt windows -/

/-- Source and sequence of a Receipt (R208, R322). -/
def rcptPart (r : Word) : Nat := fld r 63 57
/-- Source field. -/
def rcptSource (r : Word) : Nat := fld r 56 48
/-- Sequence field. -/
def rcptSeq (r : Word) : Nat := fld r 47 0

/-- A sequence lies at or below the high-water − 4,096 (R209, R339). `high` is one above the high-water. -/
def staleSeq (high seq : Nat) : Bool := seq + 4096 < high

/-- Raise a high-water to a sequence (R209). -/
def raiseHigh (high seq : Nat) : Nat := max high (seq + 1)

/-- Outcomes that have left a window. -/
def pruneOuts {α : Type} (high : Nat) (t : Tbl α) : Tbl α := t.filter fun e => !staleSeq high e.1

/-- Record an outcome in a host window (R209). -/
def rwinSet (w : RWin) (seq : Nat) (o : ROut) : RWin :=
  let h := raiseHigh w.high seq
  { w with high := h, outs := pruneOuts h (w.outs.set seq o) }

/-- Key of a host window. -/
def winKey (q src : Nat) : Nat := q * 512 + src

/-- A host window. -/
def State.win (s : State) (q src : Nat) : RWin := s.host.wins.get {} (winKey q src)

/-- The state with a host window replaced. -/
def State.setWin (s : State) (q src : Nat) (w : RWin) : State :=
  { s with host := { s.host with wins := s.host.wins.set (winKey q src) w } }

/-- Record an outcome in a peer window (R338, R339). -/
def pwinSet (w : PWin) (seq : Nat) (o : POut) : PWin :=
  let h := raiseHigh w.high seq
  { w with high := h, outs := pruneOuts h (w.outs.set seq o) }

/-- A partition's peer window for (DOMAIN, source). -/
def State.pwin (s : State) (q : Nat) (dom : Word) (src : Nat) : Option PWin :=
  (s.xchg.pwins.get [] q).find? fun w => w.domain == dom && w.source == src

/-- The state with a peer window replaced. -/
def State.setPwin (s : State) (q : Nat) (w : PWin) : State :=
  { s with xchg := { s.xchg with pwins := s.xchg.pwins.set q ((s.xchg.pwins.get [] q).map fun v =>
      if v.domain == w.domain && v.source == w.source then w else v) } }

/-- Mark a Receipt committed in the window that a record names (R346, R355). -/
def State.markCommitted (s : State) (q : Nat) (r : JRec) : State :=
  let src := rcptSource r.receipt
  let seq := rcptSeq r.receipt
  if r.window = 1 then s.setWin q src (rwinSet (s.win q src) seq (.done r.status r.result false false true r.jsn))
  else if r.window = 2 then
    match s.pwin q r.domain src with
    | some w => s.setPwin q (pwinSet w seq (.done r.status r.status r.result false true r.jsn))
    | none => s
  else s

/-- Record SOLO in the flags of a committed Receipt's outcome (R347 step 3). -/
def State.markSolo (s : State) (q : Nat) (r : JRec) : State :=
  let src := rcptSource r.receipt
  let seq := rcptSeq r.receipt
  if r.window = 1 then
    let w := s.win q src
    match w.outs.find seq with
    | some (.done st res _ sag c j) => s.setWin q src { w with outs := w.outs.set seq (.done st res true sag c j) }
    | _ => s
  else if r.window = 2 then
    match s.pwin q r.domain src with
    | some w => match w.outs.find seq with
      | some (.done st o res _ c j) => s.setPwin q { w with outs := w.outs.set seq (.done st o res true c j) }
      | _ => s
    | none => s
  else s

/-! ## Acknowledgement (R347) -/

/-- Write the ACK word of a commit descriptor and raise EVPEND.COMMIT unless NOEVENT (R345–R347). A descriptor no
longer MAPPED loses its ACK only. -/
def State.writeAck (s : State) (t : AckTo) (status : BitVec 8) (solo dup : Bool) (jsn : Nat) : State :=
  let v := status.toNat + b2n solo * 2 ^ 8 + b2n dup * 2 ^ 9 + 2 ^ 15 + (jsn % 2 ^ 48) * 2 ^ 16
  let s := s.writePra t.part (t.addr + 0x38) ⟨BitVec.ofNat 64 v, Tag.untyped⟩
  if t.noEvent then s else s.eventOne t.core evCommit

/-- Acknowledge one record. -/
def State.ackOne (s : State) (e : JEnt) (solo : Bool) : State :=
  match e.ack with
  | some t =>
    let s := s.writeAck t St.ok solo false e.r.jsn.toNat
    if solo then s.markSolo t.part e.r else s
  | none => s

/-- A record is durable as far as R347 asks: local write, and the partner's acknowledgement in a healthy duplex. -/
def State.durable (s : State) (e : JEnt) : Bool := e.written && (e.mirrored || !s.healthy || e.msn.isNone)

/-- Acknowledge every record that has become durable, in JSN order (R347). -/
def State.ackSweep (s : State) : List JEnt → State
  | [] => s
  | e :: t =>
    let s := if !e.acked && !e.never && e.ack.isSome && s.durable e then
        let s := s.ackOne e (!e.mirrored)
        { s with jrn := { s.jrn with ring := s.jrn.ring.map fun x =>
            if x.r.jsn = e.r.jsn then { x with acked := true } else x } }
      else s
    s.ackSweep t

/-- Acknowledge what can be acknowledged. -/
def State.ackAll (s : State) : State := if s.mayStage then s.ackSweep s.jrn.ring else s

/-- Records staged and not acknowledged will never be acknowledged (R377, R394, R419). -/
def State.neverAck (s : State) : State :=
  { s with jrn := { s.jrn with ring := s.jrn.ring.map fun e => if e.acked then e else { e with never := true } } }

/-! ## Ledger -/

/-- A record kind that an accumulator takes: 1 COMMIT and 2 OUTCOME (RACC), 4 CHANGE (CACC) (R357). -/
def accumulate (acc : Bytes) (r : JRec) : Bytes := sha384 (acc ++ sha384 (recBytes r))

/-- The records of an epoch in the ring (R358). -/
def State.epochRecs (s : State) (start stop : Word) : List JRec :=
  (s.jrn.ring.filter fun e => start.toNat ≤ e.r.stamp.toNat && e.r.stamp.toNat < stop.toNat).map (·.r)

/-- A seal's bytes without signatures (R361, 0x000–0x0FF). -/
def sealHead (k : Seal) : Bytes :=
  leBytes 4 0x46505345 ++ leBytes 2 1
    ++ leBytes 2 (b2n k.sag + 2 * b2n k.synced + 4 * b2n k.hybrid + 8 * b2n k.genesis + 16 * b2n k.resumed
        + 32 * b2n k.reset)
    ++ leBytes 8 k.epoch.toNat ++ leBytes 8 k.start.toNat ++ leBytes 8 k.stop.toNat ++ leBytes 8 k.records.toNat
    ++ leBytes 8 k.changes.toNat ++ leBytes 16 k.ident.toNat ++ fit 48 k.racc ++ fit 48 k.cacc ++ fit 48 k.prev
    ++ leBytes 8 k.kcv.toNat ++ leBytes 8 k.lastJsn.toNat ++ List.replicate 32 0

/-- A whole seal (R361). -/
def sealBytes (k : Seal) : Bytes :=
  sealHead k ++ fit 96 k.sigP384 ++ (if k.hybrid then fit 3309 k.sigMldsa else [])

/-- The Ledger keys in key domain 0 (R362): record indices of the P-384 and the ML-DSA-65 key. -/
def ledgerKey : Nat := 2
/-- The ML-DSA-65 Ledger key. -/
def ledgerKeyPq : Nat := 3

/-- At least one lattice engine is online (R366). -/
def State.latticeOnline (s : State) : Bool :=
  s.hasLattice && (List.range 16).any fun i => !s.rb (aCry (8 * (32 + i))) 1

/-- Sign a seal's head (R362, R366): P-384, and ML-DSA-65 when HYBRID is selected and a lattice engine is online;
SIGN_FAIL when it is selected and none is, and for a forced failure, which is retried on another engine (R365). -/
def State.signSeal (s : State) (k : Seal) : Seal × State :=
  let want := s.rb (aJrn 0x100) 30 && s.hasLattice
  let hy := want && s.latticeOnline
  let s := if (want && !hy) || s.forced 244 0 then s.report 244 0 else s
  let (nonce, s) := s.drawBytes 48
  let (rnd, s) := s.drawBytes 32
  let k := { k with hybrid := hy }
  let k1 := s.cry.vault.get {} ledgerKey
  let k2 := s.cry.vault.get {} ledgerKeyPq
  ({ k with
      sigP384 := fit 96 (Config.ecdsaSign 2 k1.material (sha384 (sealHead k)) nonce)
      sigMldsa := if hy then fit 3309 (Config.mldsaSign 2 k2.material [] (sealHead k) rnd) else [] }, s)

/-- The seal of an ended epoch (R357, R361): accumulators run from the previous seal over the epoch's records. -/
def State.makeSeal (s : State) (m : EndMark) : Seal × State :=
  let recs := s.epochRecs m.start m.stop
  let prev := s.jrn.seals.head?
  let r0 := match prev with | some p => p.racc | none => List.replicate 48 0
  let c0 := match prev with | some p => p.cacc | none => List.replicate 48 0
  let rr := recs.filter fun r => r.kind = 1 ∨ r.kind = 2
  let cc := recs.filter fun r => r.kind = 4
  let last := (recs.filter fun r => r.kind ≠ 3).getLast?
  s.signSeal
    { sag := m.sag, synced := m.synced, genesis := m.genesis, resumed := m.resumed, reset := m.reset
      epoch := m.epoch, start := m.start, stop := m.stop
      records := BitVec.ofNat 64 rr.length, changes := BitVec.ofNat 64 cc.length, ident := s.fuse.ident
      racc := rr.foldl accumulate r0, cacc := cc.foldl accumulate c0
      prev := match prev with | some p => sha384 (sealBytes p) | none => List.replicate 48 0
      kcv := (s.cry.vault.get {} ledgerKey).kcv
      lastJsn := match last with | some r => r.jsn | none => 0xFFFFFFFFFFFFFFFF }

/-- Write a seal as a SEAL record and into the Ledger anchors (R362). A RESET or SAG seal is not mirrored (R360,
R419). -/
def State.writeSeal (s : State) (m : EndMark) : State :=
  let (k, s) := s.makeSeal m
  let s := { s with jrn := { s.jrn with seals := k :: s.jrn.seals } }
  let lim : Word := if k.hybrid then 32000 else 20000
  let e : JEnt := { r := { kind := 3, payload := sealBytes k }, acked := true, sealEnd := some m.stop
                    sealDue := some (m.due + lim) }
  if m.reset || m.sag then
    let d := s.dpx
    let st := s.rd (aDpx 0x10)
    let s' := (s.wf (aDpx 0x10) 2 0 0).stage e
    { (s'.wr (aDpx 0x10) st) with dpx := d }
  else s.stage e

/-- Every record stamped before `stop` has been hashed. -/
def State.hashedTo (s : State) (stop : Word) : Bool :=
  s.jrn.ring.all fun e => e.hashed || stop.toNat ≤ e.r.stamp.toNat

/-- Seal every ended epoch whose records are hashed, in order, while a SEAL record finds room (R345, R358). -/
def State.sealMarks : Nat → State → State
  | 0, s => s
  | n + 1, s =>
    match s.jrn.marks with
    | [] => s
    | m :: t =>
      if s.hashedTo m.stop && s.sealRoom 3661 then
        sealMarks n (({ s with jrn := { s.jrn with marks := t } }).writeSeal m)
      else s

/-- Hash written records in JSN order (R358): the running accumulators and counts. -/
def State.hashSweep (s : State) : List JEnt → State
  | [] => s
  | e :: t =>
    if e.hashed then s.hashSweep t
    else if !e.written then s
    else
      let j := s.jrn
      let j := if e.r.kind = 1 ∨ e.r.kind = 2 then
          { j with racc := accumulate j.racc e.r, records := j.records + 1, lastJsn := e.r.jsn }
        else if e.r.kind = 4 then
          { j with cacc := accumulate j.cacc e.r, changes := j.changes + 1, lastJsn := e.r.jsn }
        else j
      let j := { j with ring := j.ring.map fun x => if x.r.jsn = e.r.jsn then { x with hashed := true } else x }
      ({ s with jrn := j }).hashSweep t

/-- Hash what is written and seal what has ended. -/
def State.ledger (s : State) : State :=
  let s := s.hashSweep s.jrn.ring
  if s.jrn.running then State.sealMarks 8 s else s

/-- End the current epoch at `stop` (R359, R360), the limit of R362 running from `due`: the next one starts there with
its own N. -/
def State.endEpoch (s : State) (stop due : Word) (sag synced reset : Bool) : State :=
  let m : EndMark := { epoch := s.rd (aJrn 0x110), start := s.rd (aJrn 0x118), stop := stop,
                       resumed := s.jrn.resumed, sag := sag, synced := synced, reset := reset, due := due }
  let l := BitVec.ofNat 64 (s.rf (aJrn 0x100) 28 0)
  let s := (s.wr (aJrn 0x110) (m.epoch + 1)).wr (aJrn 0x118) stop
  { s with jrn := { s.jrn with marks := s.jrn.marks ++ [m], resumed := false, len := l, nominal := stop + l } }

/-- Free the ring in JSN order (R353): destaged, or DESTAGE_EN 0, and the epoch's seal durable and mirrored. -/
def freeRing (en : Bool) (sealedTo : Word) : List JEnt → List JEnt
  | [] => []
  | e :: t =>
    if e.written && e.hashed && (e.acked || e.never) && (e.destaged || !en) && e.r.stamp.toNat < sealedTo.toNat
    then freeRing en sealedTo t else e :: t

/-- Count SEAL_LATE for each seal that has become durable and mirrored after its limit (R362, R365). -/
def State.sealSweep (s : State) : List JEnt → State
  | [] => s
  | e :: t =>
    match e.sealDue with
    | some d =>
      if s.durable e then
        let s := if d.toNat < s.time.toNat then s.raise 243 0 else s
        let ring := s.jrn.ring.map fun (x : JEnt) => if x.r.jsn = e.r.jsn then { x with sealDue := none } else x
        State.sealSweep { s with jrn := { s.jrn with ring := ring } } t
      else s.sealSweep t
    | none => s.sealSweep t

/-- Mirrored records are freed from the front: one whose feed entry has been posted and which `free` allows. -/
def dropFed (free : JRec → Bool) : List MEnt → List MEnt
  | [] => []
  | e :: t => if e.applied && e.fed && free e.r then dropFed free t else e :: t

/-- Free the mirrored records that the ring no longer needs: on a standby those that the active's DESTAGED covers (R372);
after a takeover those destaged here, or all with DESTAGE_EN 0, once the staged seals are durable (R353, R379). -/
def State.freeMirror (s : State) : State :=
  let top := s.dpx.partnerDestaged.toNat
  let sealsDone := s.jrn.ring.all fun e => e.r.kind ≠ 3 || e.written
  let free (r : JRec) : Bool :=
    if s.dpx.adopt.isSome then (decide (r.jsn.toNat ≤ top) || !s.rb (aJrn 0) 0) && sealsDone
    else decide (r.jsn.toNat ≤ top)
  { s with dpx := { s.dpx with mirror := dropFed free s.dpx.mirror } }

/-- Advance the END of the latest durable and mirrored seal, and free the ring (R353). -/
def State.freeJournal (s : State) : State :=
  let s := if s.dpx.adopt.isSome then s.freeMirror else s
  let s := s.sealSweep s.jrn.ring
  let top := s.jrn.ring.foldl (fun (m : Word) e => match e.sealEnd with
    | some t => if s.durable e && m.toNat < t.toNat then t else m
    | none => m) s.jrn.sealedTo
  { s with jrn := { s.jrn with sealedTo := top, ring := freeRing (s.rb (aJrn 0) 0) top s.jrn.ring } }

/-! ## CHANGE records and management writes -/

/-- WRITER code (R363). -/
def writerCode : Writer → Nat
  | .steward => 0
  | .pf0A => 1
  | .pf0B => 2

/-- Stage a CHANGE record and copy it into the change-stream ring, which keeps 24 MiB (R363, R364). -/
def State.changeRec (s : State) (payload : Bytes) : State :=
  let s := s.stage { r := { kind := 4, domain := s.fuse.ident.truncate 64, payload := payload }, acked := true }
  match s.jrn.ring.getLast? with
  | some e => { s with jrn := { s.jrn with changeRing := (e.r :: s.jrn.changeRing).take (0x1800000 / 104) } }
  | none => s

/-- The bits of a word whose bytes are enabled (R445). -/
def beMask (be : Byte) : Word :=
  BitVec.ofNat 64 ((List.range 8).foldl (fun n i => n + (if be.getLsbD i then 255 * 2 ^ (8 * i) else 0)) 0)

/-- The payload of a register write's CHANGE record (R363). -/
def changeBytes (addr : Nat) (before written after : Word) (w : Writer) (absent ignored : Bool) (be : Byte) : Bytes :=
  leBytes 8 addr ++ leBytes 8 before.toNat ++ leBytes 8 written.toNat ++ leBytes 8 after.toNat
    ++ [BitVec.ofNat 8 (writerCode w), BitVec.ofNat 8 (b2n absent + 2 * b2n ignored), 0, 0] ++ leBytes 4 be.toNat

/-- A register that the saved configuration keeps (R440): the blocks it names, without PAIR_TEST and PAIR_CKPT. -/
def savedBlock (a : Nat) : Bool :=
  let b := a / 0x100000
  (b == 0x3 || b == 0xE || b == 0xD || b == 0x10 || b == 0xF || b == 0x8 || b == 0x7 || b == 0x4 || b == 0x5
    || b == 0xA || b == 0x2 || (b == 0x1 && 0x800 ≤ a % 0x1000))
    && !(b == 0x7 && (a % 0x1000 == 0x30 || (0x100 ≤ a % 0x1000 && a % 0x1000 ≤ 0x518)))

/-- LOCK bits by register (R448). -/
def lockBit (a : Nat) : Option Nat :=
  if a = aUcs 0x10 then some 33
  else if a = aHif 0 8 ∨ a = aHif 1 8 then some 24
  else if a = aClk 0x808 then some 32
  else if a = 0x70 then some 0
  else none

/-- Keep an applied write in the saved configuration (R440): RW and RWL fields, and LOCK bits that are set. -/
def State.saveConfig (s : State) (a : Nat) : State :=
  if savedBlock a || (lockBit a).isSome then
    match regFind a with
    | some r =>
      if r.rw = 0 ∧ lockBit a = none then s else
      let v := s.rd a
      let keep := v &&& r.rw
      let keep := match lockBit a with
        | some i => if v.getLsbD i then keep ||| ((1 : Word) <<< i) else keep
        | none => keep
      { s with boot := { s.boot with saved := s.boot.saved.set a keep } }
    | none => s
  else s

/-- A writer reaches the management space: PF0 of a port only while its link is up (R454). -/
def State.reaches (s : State) (w : Writer) : Bool :=
  match w with
  | .steward => true
  | .pf0A => s.rb (aHif 0 0) 0
  | .pf0B => s.rb (aHif 1 0) 0

/-- Carry out a management write: nothing while the management space takes no access (R470) or while no room is left
for its CHANGE record (R364); an absent unit's range ignores it (R3, R444); otherwise `f` applies it. Stray RSV bits
and addresses without a register are counted; the CHANGE record is staged; a PART or XT_PWIN write is mirrored
(R369); the saved configuration follows (R440). `abs` marks a write of an absent field (R165). -/
def State.mgmt (s : State) (w : Writer) (a : Nat) (v : Word) (be : Byte) (f : State → State)
    (abs : Bool := false) : State :=
  if s.hibernating || !s.pwr.powered || !s.changeRoom || !s.reaches w then s
  else if s.absent a then
    (s.raise 250 0).changeRec (changeBytes a 0 v 0 w true (v &&& beMask be ≠ 0) be)
  else
    match regFind a with
    | none => (s.raise 250 1).changeRec (changeBytes a 0 v 0 w false (v &&& beMask be ≠ 0) be)
    | some r =>
      let m := beMask be
      let before := s.peek a
      let s := if v &&& m &&& r.rsv ≠ 0 then s.raise 250 1 else s
      let s := f s
      let after := s.peek a
      let s := s.changeRec (changeBytes a before v after w abs (after &&& m ≠ v &&& m) be)
      let s := if (0x300000 ≤ a && a < 0x33F000) || (0xE03000 ≤ a && a < 0xE03000 + 63 * 8) then
          s.mirror' (if a < 0x400000 then (a - 0x300000) / 0x1000 + 1 else (a - 0xE03000) / 8 + 1) (.partWrite a after)
        else s
      s.saveConfig a

/-- Apply the plain part of a write: enabled bits of RW fields (RWL ones unless locked), W1C bits cleared, W1S bits
left to the caller (R444, R445, R447). -/
def State.applyRw (s : State) (a : Nat) (v : Word) (be : Byte) (locked : Bool := false) : State :=
  match regFind a with
  | some r =>
    let m := beMask be
    let rw := (if locked then r.rw &&& ~~~ r.lk else r.rw) &&& m
    let old := s.rd a
    let new := ((old &&& ~~~ rw) ||| (v &&& rw)) &&& ~~~ (r.w1c &&& m &&& v)
    s.wr a new
  | none => s

/-- The value that a write would leave in a register's RW fields. -/
def State.merged (s : State) (a : Nat) (v : Word) (be : Byte) : Word :=
  match regFind a with
  | some r => (s.rd a &&& ~~~ (r.rw &&& beMask be)) ||| (v &&& r.rw &&& beMask be)
  | none => s.rd a

/-- Bit `i` is written with 1 in an enabled byte (R445). -/
def wrote1 (v : Word) (be : Byte) (i : Nat) : Bool := v.getLsbD i && be.getLsbD (i / 8)

end Sys2Proof.Machine
end

