-- ==== Sys2Proof/Machine/PartBase.lean ====
section
/-!
DEFINITION. What several families do to a partition: MSI-X notices and host writes (R201), quotas and admission
(R228–R233, R237), Work Inbox slots (R235), mailboxes (R241–R243), and the start, stop and window state of its
processors (R29, R45, R234).
-/
namespace Sys2Proof.Machine

/-! ## The host ports -/

/-- The PCI Express link of a port is in L0 (HIF_LINK.UP). -/
def State.hostUp (s : State) (port : Nat) : Bool := s.rb (aHif port 0) 0

/-- Memory write TLPs to the host; the module issues none to a port that is down (R221). -/
def State.hostWrite (s : State) (port : Nat) (addr : Word) (data : Bytes) : State :=
  if s.hostUp port then s.emit (.hostWrite port addr data) else s

/-- Key of a function of a port. -/
def fnKey (port fn : Nat) : Nat := port * 64 + fn

/-- An MSI-X vector of a function (R201): sent when MSI-X is enabled and the vector is unmasked, pending while it is
masked. -/
def State.sendMsix (s : State) (port fn vec : Nat) : State :=
  let m := s.host.msix.get {} (fnKey port fn)
  if !s.hostUp port || !m.enabled then s
  else if !m.fnMask && m.unmasked.contains vec then s.emit (.msix port fn vec)
  else { s with host := { s.host with
      msix := s.host.msix.set (fnKey port fn) { m with pending := if m.pending.contains vec then m.pending
                                                                    else m.pending ++ [vec] } } }

/-- Send every pending vector that has become unmasked. -/
def State.flushMsix (s : State) (port fn : Nat) : State :=
  let m := s.host.msix.get {} (fnKey port fn)
  if !s.hostUp port || !m.enabled || m.fnMask then s
  else
    let go := m.pending.filter m.unmasked.contains
    let m := { m with pending := m.pending.filter fun v => !m.unmasked.contains v }
    let s := { s with host := { s.host with msix := s.host.msix.set (fnKey port fn) m } }
    go.foldl (fun s v => s.emit (.msix port fn v)) s

/-- The partition that VF v of a port is bound to (R200); 0 for PF0 and while unbound. -/
def State.vfPart (s : State) (port v : Nat) : Nat :=
  if 1 ≤ v ∧ v < 64 then s.rf (aHif port (0x100 + 8 * v)) 5 0 else 0

/-- The VF of a port that is bound to partition q (R200). -/
def State.boundVf (s : State) (port q : Nat) : Option Nat :=
  if q = 0 then none else ((List.range 63).map (· + 1)).find? fun v => s.vfPart port v == q

/-! ## Quotas and admission -/

/-- MIN of a context in the Work Order Table (R228, R229). -/
def State.woMin (s : State) (q : Nat) : Nat := if q = 0 then 256 else s.rf (aPart q 0x18) 16 0
/-- MAX of a context in the Work Order Table. -/
def State.woMax (s : State) (q : Nat) : Nat := if q = 0 then 256 else s.rf (aPart q 0x18) 48 32
/-- MIN of a context in the Exchange Table. -/
def State.xtMin (s : State) (q : Nat) : Nat := if q = 0 then 1024 else s.rf (aPart q 0x20) 16 0
/-- MAX of a context in the Exchange Table. -/
def State.xtMax (s : State) (q : Nat) : Nat := if q = 0 then 4096 else s.rf (aPart q 0x20) 48 32

/-- The function may_admit of R228 over in-use counts, minima, maxima and the table size. -/
def mayAdmit (inuse mn mx : Nat → Nat) (size q : Nat) : Bool :=
  if mx q ≤ inuse q then false
  else if inuse q < mn q then true
  else
    let used := ((List.range 64).map inuse).sum
    let held := ((List.range 64).map fun r => if r = q then 0 else mn r - inuse r).sum
    decide (held + used < size)

/-- Slots of a partition's Work Inbox (R235). -/
def State.inboxSlots (s : State) (q : Nat) : Nat := 2 ^ s.rf (aPart q 0x10) 52 48

/-- The Work Inbox of a partition. -/
def State.inbox (s : State) (q : Nat) : Inbox := s.parts.inbox.get {} q

/-- The state with a partition's Work Inbox replaced. -/
def State.setInbox (s : State) (q : Nat) (b : Inbox) : State :=
  { s with parts := { s.parts with inbox := s.parts.inbox.set q b } }

/-- A waiting feed entry. -/
def isFeed : InKind → Bool
  | .feed _ => true
  | _ => false

/-- Free slots outnumber the waiting service entries (R237), and no feed entry waits: those go before any new work
(R378). -/
def State.slotsLeft (s : State) (q : Nat) : Bool :=
  let b := s.inbox q
  decide (b.slots.length + b.waiting.length < s.inboxSlots q) && !b.waiting.any fun t => isFeed t.1

/-- A work order of context q may be admitted (R228, R237). -/
def State.admitWo (s : State) (q : Nat) : Bool :=
  mayAdmit s.inuseWo s.woMin s.woMax 32768 q && (q == 0 || s.slotsLeft q)

/-- An Exchange Table entry of context q may be allocated (R228). -/
def State.admitXt (s : State) (q : Nat) : Bool := mayAdmit s.inuseXt s.xtMin s.xtMax 65536 q

/-- An inbound exchange of context q may be admitted (R228, R237). -/
def State.admitInbound (s : State) (q : Nat) : Bool := s.admitXt q && (q == 0 || s.slotsLeft q)

/-- Crypto request slots that a context holds (R229). -/
def State.inuseCry (s : State) (q : Nat) : Nat := countP (fun r => r.part == q) s.cry.reqs

/-- A crypto request slot may be given to partition q (R229). -/
def State.admitCry (s : State) (q : Nat) : Bool :=
  let mn (r : Nat) : Nat := if r = 0 ∨ s.partState r ≠ 0 then 64 else 0
  mayAdmit s.inuseCry mn (fun _ => 2048) 8192 q

/-- Count a wait in PART_BP: WO 0, XT 1, CRYPTO 2 (R231). -/
def State.countBp (s : State) (q k : Nat) : State :=
  if q = 0 then s else s.satField (aPart q 0x38) (16 * k + 15) (16 * k)

/-! ## Work Inbox (R22, R235) -/

/-- The entry size of a partition's Work Inbox. -/
def State.entrySize (s : State) (q : Nat) : Nat := 2 ^ s.rf (aPart q 0x10) 59 56

/-- Partition-real address of a slot's header. -/
def State.slotHdr (s : State) (q slot : Nat) : Nat := s.rf (aPart q 0x10) 45 12 * 4096 + 64 * slot

/-- Partition-real address of a slot's payload. -/
def State.slotPay (s : State) (q slot : Nat) : Nat :=
  s.rf (aPart q 0x10) 45 12 * 4096 + 64 * s.inboxSlots q + slot * s.entrySize q

/-- The whole Work Inbox lies in MAPPED HBM slots (R226). -/
def State.inboxMapped (s : State) (q : Nat) : Bool :=
  s.mappedHbm q (s.slotHdr q 0) (s.inboxSlots q * (64 + s.entrySize q))

/-- A slot, header and payload, lies in MAPPED HBM slots (R207 step 10). -/
def State.slotMapped (s : State) (q slot : Nat) : Bool :=
  s.mappedHbm q (s.slotHdr q slot) 64 && s.mappedHbm q (s.slotPay q slot) (s.entrySize q)

/-- A slot of the inbox is free. -/
def State.slotFree (s : State) (q slot : Nat) : Bool :=
  decide (slot < s.inboxSlots q) && ((s.inbox q).slots.find slot).isNone

/-- Header fields of a delivery (R235). -/
structure SlotHdr where
  receipt : Word := 0
  origin : Nat := 0
  index : Nat := 0
  service : Nat := 0
  opcode : Nat := 0
  arg : Word := 0
  domain : Word := 0
deriving DecidableEq, Repr

/-- Write a slot's header, make it visible and raise WORK (R22, R235). -/
def State.showSlot (s : State) (q slot : Nat) (k : InKind) (h : SlotHdr) (payLen : Nat) : State :=
  let b := s.inbox q
  let n := b.fill.get 0 slot + 1
  let w1 := h.origin % 4 + (h.index % 2 ^ 17) * 4 + (h.service % 8) * 2 ^ 19 + (payLen % 2 ^ 24) * 2 ^ 32
    + (h.opcode % 256) * 2 ^ 56
  let s := s.writeTagged q (s.slotHdr q slot)
    [⟨h.receipt, Tag.receipt⟩, ⟨BitVec.ofNat 64 w1, Tag.untyped⟩, ⟨h.arg, Tag.untyped⟩, ⟨h.domain, Tag.untyped⟩,
     ⟨s.time, Tag.time⟩, ⟨n, Tag.untyped⟩]
  let s := s.setInbox q { b with
    slots := b.slots.set slot { kind := k }, order := b.order ++ [slot], fill := b.fill.set slot n }
  s.eventAll q evWork

/-- Fill a slot with payload and header, make it visible and raise WORK (R22, R235). -/
def State.fillSlot (s : State) (q slot : Nat) (k : InKind) (h : SlotHdr) (payload : Bytes) : State :=
  (s.writeBytes q (s.slotPay q slot) payload).showSlot q slot k h payload.length

/-- Take a slot for a request whose data is still arriving. -/
def State.takeSlot (s : State) (q slot : Nat) (k : InKind) : State :=
  let b := s.inbox q
  s.setInbox q { b with slots := b.slots.set slot { kind := k } }

/-- Free a slot. -/
def State.freeSlot (s : State) (q slot : Nat) : State :=
  let b := s.inbox q
  s.setInbox q { b with slots := b.slots.del slot, order := b.order.filter (· ≠ slot) }

/-- A service entry becomes ready and waits for a slot (R237). -/
def State.serve (s : State) (q : Nat) (k : InKind) : State :=
  if q = 0 ∨ s.partState q = 0 then s
  else
    let b := s.inbox q
    s.setInbox q { b with waiting := b.waiting ++ [(k, s.time)] }

/-- Claim the oldest delivered slot (R236): its index, if one waits. -/
def State.claim (s : State) (q : Nat) : Option Nat × State :=
  let b := s.inbox q
  match b.order with
  | [] => (none, s)
  | i :: t => (some i, s.setInbox q { b with
      order := t, slots := b.slots.upd {} i fun x => { x with claimed := true } })

/-! ## Mailboxes (R241–R243) -/

/-- Number of a mailbox in HostSt.mbox. -/
def mbKey : MbId → Nat
  | .pf port => port.val
  | .partnerIn => 2
  | .partnerOut => 3
  | .part q => 3 + q.val
  | .vf port v => 256 + 64 * port.val + v.val

/-- A mailbox. -/
def State.mb (s : State) (m : MbId) : Mbox := s.host.mbox.get {} (mbKey m)

/-- The state with a mailbox replaced. -/
def State.setMb (s : State) (m : MbId) (b : Mbox) : State :=
  { s with host := { s.host with mbox := s.host.mbox.set (mbKey m) b } }

/-- The eight message words. -/
def mbWords (b : Mbox) : List Word := (List.range 8).map (b.msg.get 0)

/-- A message table of eight words. -/
def mbTable (ws : List Word) : Tbl Word := (List.range 8).map fun i => (i, ws.getD i 0)

/-- The lowest-numbered ACTIVE Courier lane carries mailbox traffic. -/
def State.vl0Any (s : State) (b : CBody) : State :=
  match s.activeLanes.head? with
  | some l => s.vl0Item l 0 b
  | none => s

/-- The receiver is notified and woken (R239, R241). -/
def State.mbNotify (s : State) (m : MbId) (b : Mbox) : State :=
  match m with
  | .vf port v => s.eventAll (s.vfPart port.val v.val) evMailbox
  | .partnerOut => s.vl0Any (.mailbox (mbWords b) b.len)
  | _ => s.emit .stewardWake

/-- The notice of an acknowledgement at the sender (R241). -/
def State.mbNotice (s : State) (m : MbId) (b : Mbox) : State :=
  match m with
  | .pf port => s.sendMsix port.val 0 255
  | .vf port v => s.sendMsix port.val v.val 15
  | .part q => s.eventAll q.val evManager
  | .partnerIn => s.vl0Any (.mailboxAck b.ackStatus b.ackDetail (mbWords b))
  | .partnerOut => s.emit .stewardWake

/-- The sender writes MBOX_DB (R243). -/
def State.mbPost (s : State) (m : MbId) (v : Word) (be : Byte) : State :=
  let b := s.mb m
  let len := if be.getLsbD 0 then fld v 6 0 else 0
  if b.state = .posted then s.setMb m { b with ignored := satInc b.ignored 0xFFFF }
  else if 1 ≤ len ∧ len ≤ 64 then
    let b := { b with state := .posted, len := len }
    (s.setMb m b).mbNotify m b
  else s

/-- The receiver writes MBOX_ACK (R243). -/
def State.mbAck (s : State) (m : MbId) (v : Word) (be : Byte) : State :=
  let b := s.mb m
  if b.state = .posted then
    let b := { b with
      ackStatus := if be.getLsbD 0 then v.truncate 8 else b.ackStatus
      ackDetail := if be.getLsbD 1 then (v >>> 8).truncate 8 else b.ackDetail
      state := .done }
    (s.setMb m b).mbNotice m b
  else s

/-- The sender writes message word `i` in IDLE or DONE, the receiver in POSTED (R242). -/
def State.mbMsg (s : State) (m : MbId) (sender : Bool) (i : Nat) (v : Word) (be : Byte) : State :=
  let b := s.mb m
  if (b.state = .posted) = (sender = false) then
    let old := b.msg.get 0 i
    s.setMb m { b with msg := b.msg.set i ((old &&& ~~~ (beMask be)) ||| (v &&& beMask be)) }
  else s

/-- FLR of the sending function, or DESTROY of a partition on either side: IDLE, MSG and ACK cleared (R243). -/
def State.mbClear (s : State) (m : MbId) : State := s.setMb m { (s.mb m) with
  msg := [], ackStatus := 0, ackDetail := 0, state := .idle }

/-- Partition q's incoming VF mailboxes. -/
def State.mbIncoming (s : State) (q : Nat) : List MbId :=
  ([0, 1] : List (Fin 2)).filterMap fun p => (s.boundVf p.val q).map fun v => .vf p (Fin.ofNat 64 v)

/-- Incoming mailboxes in POSTED are acknowledged with PARTITION_FROZEN (R234 step 4, R243). -/
def State.mbFreeze (s : State) (q : Nat) : State :=
  (s.mbIncoming q).foldl (fun s m =>
    let b := s.mb m
    if b.state = .posted then
      let b := { b with ackStatus := St.partitionFrozen, state := .done }
      (s.setMb m b).mbNotice m b
    else s) s

/-! ## Processors of a partition -/

/-- The cores of pair p that carry a processor of their own. -/
def State.pairCores (s : State) (p : Nat) : List Nat :=
  if s.split then [2 * p, 2 * p + 1].filter fun c => !s.coreFenced c && !(c % 2 == 1 && s.rb (aPair p 8) 9)
  else [2 * p]

/-- The state of R45 in which pair p's processors start. -/
def State.startArch (s : State) (p : Nat) : Arch :=
  let q := s.rf (aPair p 0) 13 8
  let ident := BitVec.ofNat 64 (q + s.rf (aPair p 0) 21 16 * 256)
  let rd := if q = 0 then 0 else s.rd (aPart q 0x50)
  { c := ((Tbl.put [] 0 19 0xFFFFFFFFFFFFFFFF).put 0 21 ident).put 0 22 rd
    psw0 := 1, pc := s.rd (aPair p 0x38) &&& ~~~ 3 }

/-- Start a pair's processors from the state of R45. -/
def State.startPair (s : State) (p : Nat) : State :=
  let a := s.startArch p
  let s := (s.pairCores p).foldl (fun s c =>
    s.setProc c { running := true, a := a, ckpt := a, seq := (s.proc c).seq }) s
  s.wf (aPair p 8) 2 0 0

/-- Start a processor of core c from an image (R37 step 8, R39, R248). Its latched events become pending. -/
def State.startImage (s : State) (c : Nat) (m : ProcImg) : State :=
  let p := c / 2
  let ident := BitVec.ofNat 64 (s.rf (aPair p 0) 13 8 + s.rf (aPair p 0) 21 16 * 256)
  let a := Arch.withEvents { m.a with c := m.a.c.put 0 21 ident } m.latched
  (s.setProc c { running := true, a := a, ckpt := a, seq := m.seq }).wf (aPair p 8) 2 0 0

/-- Close the open window of a processor (R29). In split mode its stores leave at once and the checkpoint moves up
(R41). -/
def closeWin (split : Bool) (p : Proc) : Proc :=
  if p.fresh then p
  else if split then
    { p with fresh := true, units := 0, stores := 0, ckpt := p.a, seq := p.seq + 1, fails := 0, kept := none
             gate := p.gate.map fun e => { e with passed := true } }
  else
    { p with fresh := true, units := 0, stores := 0
             closed := p.closed ++ [⟨p.seq + BitVec.ofNat 64 p.closed.length, p.misr, p.a, none⟩] }

/-- An episode of retries of core c's processor ends with a window that passed: PAIR_LAST.RECOVERED is set, and
PAIR_STATUS shows no attempt and RUNNING (02_checked_execution.md). Nothing changes outside an episode. -/
def State.endRetry (s : State) (c : Nat) : State :=
  if (s.proc c).fails = 0 then s
  else ((s.wb (aPair (c / 2) 0x20) 7 true).wf (aPair (c / 2) 8) 4 3 0).wf (aPair (c / 2) 8) 2 0 0

/-- A window that closes in split mode passes at once and ends an episode of retries (R41). -/
def State.splitPass (s : State) (c : Nat) (closing : Bool) : State :=
  if s.split && closing then s.endRetry c else s

/-- Close a processor's open window. -/
def State.closeWindow (s : State) (c : Nat) : State :=
  let p := closeWin s.split (s.proc c)
  (s.splitPass c (!(s.proc c).fresh)).setProc c p

/-- Nothing of a processor is left to compare or to release. -/
def procSettled (p : Proc) : Bool := p.fresh && p.closed.isEmpty && p.gate.isEmpty

/-- A processor stops at its next instruction boundary, where its window closes (R234 step 2). -/
def State.haltProc (s : State) (c : Nat) : State :=
  let s := s.closeWindow c
  let s := s.setProc c { (s.proc c) with frozen := true }
  s.wf (aPair (c / 2) 8) 2 0 5

/-- Stop a pair's processors for good: they leave the partition. -/
def State.stopPair (s : State) (p : Nat) : State :=
  [2 * p, 2 * p + 1].foldl (fun s c => s.setProc c { seq := (s.proc c).seq }) s |>.wf (aPair p 8) 2 0 5

/-- The processor of core c is fencing or fenced (R37, R42). -/
def State.fencedProc (s : State) (c : Nat) : Bool :=
  s.rf (aPair (c / 2) 8) 2 0 == 3 || s.rf (aPair (c / 2) 8) 2 0 == 4 || s.coreFenced c

/-- Enter FREEZING with a cause (R234): admission stops, processors stop, incoming mailboxes are answered. -/
def State.freezePart (s : State) (q cause : Nat) : State :=
  if s.partState q = 2 then
    let s := (s.wf (aPart q 8) 3 0 3).wf (aPart q 8) 7 4 cause
    let s := { s with
      parts := { s.parts with froze := s.parts.froze.set q s.time }
      boot := { s.boot with savedParts := s.boot.savedParts.set q 4 } }
    let s := (s.procsOf q).foldl (fun s c =>
      if s.fencedProc c then s else s.haltProc c) s
    s.mbFreeze q
  else s

/-- A processor of the partition is fencing or waits for its sparing (R44). -/
def State.sparing (s : State) (q : Nat) : Bool :=
  (s.core.waiting.any fun c => s.rf (aPair (c / 2) 0) 13 8 == q)
    || s.core.procs.any fun t => t.2.fails == 4 && s.rf (aPair (t.1 / 2) 0) 13 8 == q

/-- Every processor of the partition has stopped and nothing of its windows is left (R225). -/
def State.allStopped (s : State) (q : Nat) : Bool :=
  !s.sparing q && (s.procsOf q).all fun c =>
    let p := s.proc c
    !p.running || ((p.frozen || p.stopped) && procSettled p && !p.inCommit)

end Sys2Proof.Machine
end

