-- ==== Sys2Proof/Machine/QueueOps.lean ====
section
/-!
DEFINITION. The request queues of the Partition Control Page: crypto (R262, R267, R270), compression (R284) and
exchange start queues (R326), which share their registers, rings and states.
-/
namespace Sys2Proof.Machine

/-- The three kinds of request queue. -/
inductive QK where
  | cry | cmp | xch
deriving DecidableEq, Repr

/-- Bytes of a request slot (R262, R284, R326). -/
def slotBytes : QK → Nat
  | .cry => 128
  | .cmp => 64
  | .xch => 64

/-- A queue. -/
def State.pq (s : State) (k : QK) (q n : Nat) : Pq :=
  match k with
  | .cry => s.cry.queues.get {} (q * 32 + n)
  | .cmp => s.cmp.queues.get {} (q * 32 + n)
  | .xch => s.xchg.queues.get {} (q * 32 + n)

/-- The state with a queue replaced. -/
def State.setPq (s : State) (k : QK) (q n : Nat) (p : Pq) : State :=
  match k with
  | .cry => { s with cry := { s.cry with queues := s.cry.queues.set (q * 32 + n) p } }
  | .cmp => { s with cmp := { s.cmp with queues := s.cmp.queues.set (q * 32 + n) p } }
  | .xch => { s with xchg := { s.xchg with queues := s.xchg.queues.set (q * 32 + n) p } }

/-- Size of a queue's rings. -/
def pqSize (p : Pq) : Nat := 2 ^ p.log2

/-- Base address of a queue's request ring. -/
def pqBase (p : Pq) : Nat := p.base.toNat

/-- Address of the completion ring. -/
def pqCompl (k : QK) (p : Pq) : Nat := pqBase p + slotBytes k * pqSize p

/-- Both rings lie in MAPPED slots (R262). -/
def State.pqMapped (s : State) (k : QK) (q : Nat) (p : Pq) : Bool :=
  s.mapped q (pqBase p) ((slotBytes k + 32) * pqSize p)

/-- (a − b) mod size of ring indices. -/
def ringDiff (size a b : Nat) : Nat := (a + size - b % size) % size

/-- Free completion entries of a queue (R267). -/
def pqFree (p : Pq) : Nat := ringDiff (pqSize p) (p.cHead + pqSize p - 1) p.cTail

/-- A halt counts QUEUE_HALT (R270, R284, R326). -/
def State.pqHalt (s : State) (k : QK) (q n cause : Nat) : State :=
  let s := s.setPq k q n { s.pq k q n with mode := .halted, cause := cause }
  match k with
  | .cry => s.raise 135 0
  | .cmp => s.raise 144 2
  | .xch => s.raise 104 2

/-- Enable a queue (R270). -/
def State.pqEnable (s : State) (k : QK) (q n : Nat) : State :=
  let p := s.pq k q n
  if p.mode ≠ .disabled then s
  else if 4 ≤ p.log2 ∧ p.log2 ≤ 12 ∧ s.pqMapped k q p then
    s.setPq k q n { p with mode := .active, head := 0, tail := 0, cHead := 0, cTail := 0, phase := true
                           outstanding := 0, ringers := [], waitCounted := false, fenced := false }
  else s.setPq k q n { p with cause := 4 }

/-- A queue whose fetched requests have all finished leaves RESETTING (R270). -/
def State.pqSettle (s : State) (k : QK) (q n : Nat) : State :=
  let p := s.pq k q n
  if p.mode = .resetting ∧ p.outstanding = 0 then s.setPq k q n { p with mode := .disabled } else s

/-- Reset a queue (R270): fetch stops; its fetched requests will write neither completion nor event. -/
def State.pqReset (s : State) (k : QK) (q n : Nat) : State :=
  let p := s.pq k q n
  if p.mode = .active ∨ p.mode = .halted then
    let s := s.setPq k q n { p with mode := .resetting }
    match k with
    | .cry => { s with cry := { s.cry with reqs := s.cry.reqs.vmap fun r =>
        if r.part = q ∧ r.queue = n then { r with dropped := true } else r } }
    | .cmp => ({ s with cmp := { s.cmp with reqs := s.cmp.reqs.vmap fun r =>
        if r.part = q ∧ r.queue = n then { r with dropped := true } else r } }).pqSettle k q n
    | .xch => ({ s with xchg := { s.xchg with table := s.xchg.table.vmap fun (e : XtEnt) =>
        if e.ctx = q ∧ e.queue = n ∧ !e.inbound ∧ e.state ≠ XtSt.free then { e with noCompl := true } else e } }).pqSettle k q n
  else s

/-- Record the ringing core for slots `count` of them from `i` on. -/
def markRingers (t : Tbl Nat) (size c : Nat) : Nat → Nat → Tbl Nat
  | _, 0 => t
  | i, m + 1 => markRingers (t.set (i % size) c) size c (i + 1) m

/-- A doorbell write of a core (R262, R270). -/
def State.pqDoorbell (s : State) (k : QK) (q n idx c : Nat) : State :=
  let p := s.pq k q n
  match p.mode with
  | .active =>
    if pqSize p ≤ idx then s.pqHalt k q n 1
    else s.setPq k q n { p with
      tail := idx, ringers := markRingers p.ringers (pqSize p) c p.tail (ringDiff (pqSize p) idx p.tail) }
  | .halted => if idx < pqSize p then s.setPq k q n { p with tail := idx } else s
  | _ => s

/-- A write of the completion head (R262, R270). -/
def State.pqChead (s : State) (k : QK) (q n idx : Nat) : State :=
  let p := s.pq k q n
  let bad := pqSize p ≤ idx ∨ ringDiff (pqSize p) p.cTail p.cHead < ringDiff (pqSize p) idx p.cHead
  match p.mode with
  | .active => if bad then s.pqHalt k q n 2 else s.setPq k q n { p with cHead := idx }
  | .halted => if bad then s else s.setPq k q n { p with cHead := idx }
  | _ => s

/-- Fetching stops unless the partition is RUNNING (R234, R270), and while a Hibernate or a module reset runs. -/
def State.pqFetchOk (s : State) (k : QK) (q n : Nat) : Bool :=
  let p := s.pq k q n
  1 ≤ q && s.partState q == 2 && p.mode == .active && p.head != p.tail && p.outstanding < pqFree p && !p.fenced
    && !s.hibernating && s.flt.reset.isNone

/-- The words of the request slot at the head. -/
def State.pqWords (s : State) (k : QK) (q n : Nat) : List TWord :=
  let p := s.pq k q n
  s.rangeWords q (pqBase p + slotBytes k * p.head) (slotBytes k)

/-- Advance the head past a fetched request; a FENCE request holds back later ones until it completes. -/
def State.pqTake (s : State) (k : QK) (q n : Nat) (fence : Bool) : State :=
  let p := s.pq k q n
  s.setPq k q n { p with head := (p.head + 1) % pqSize p, outstanding := p.outstanding + 1, waitCounted := false
                         fenced := fence }

/-- Count a request that first finds its bound reached, once (R231). -/
def State.pqWait (s : State) (k : QK) (q n bp : Nat) : State :=
  let p := s.pq k q n
  if p.waitCounted then s else (s.setPq k q n { p with waitCounted := true }).countBp q bp

/-- Write a completion entry of four words, PHASE laid over bit 31 of the last (R212, R262). Nothing is written once the
queue is RESETTING or HALTED with CAUSE 3, or when the entry is no longer MAPPED. -/
def State.pqWrite (s : State) (k : QK) (q n : Nat) (ws : List Word) : State :=
  let p := s.pq k q n
  if p.mode = .active ∨ (p.mode = .halted ∧ p.cause ≠ 3) then
    let a := pqCompl k p + 32 * p.cTail
    if s.mapped q a 32 then
      let last := setBit (ws.getD 3 0) 31 p.phase
      let s := s.writeTagged q a ((ws.take 3 ++ [last]).map fun w => ⟨w, Tag.untyped⟩)
      let t := (p.cTail + 1) % pqSize p
      s.setPq k q n { p with cTail := t, phase := if t = 0 then !p.phase else p.phase }
    else s.pqHalt k q n 3
  else s

/-- A fetched request has been completed. -/
def State.pqDone (s : State) (k : QK) (q n : Nat) : State :=
  let p := s.pq k q n
  let s := s.setPq k q n { p with outstanding := p.outstanding - 1
                                  fenced := p.fenced && p.outstanding != 1 }
  if k = .cry then s else s.pqSettle k q n

/-- The queue still writes completions and events. -/
def State.pqLive (s : State) (k : QK) (q n : Nat) : Bool :=
  let p := s.pq k q n
  p.mode == .active || (p.mode == .halted && p.cause != 3)

/-- Queues of a partition with a ring address that has become NO_EXTENT halt with CAUSE 3 (R270). -/
def State.pqUnmapped (s : State) (q : Nat) : State :=
  [QK.cry, QK.cmp, QK.xch].foldl (fun s k =>
    (List.range 32).foldl (fun s n =>
      let p := s.pq k q n
      if p.mode = .active ∧ !s.pqMapped k q p then s.pqHalt k q n 3 else s) s) s

/-- A queue register as the page reads it: CQ_BASE, CQ_CFG, CQ_STAT (11_crypto_complex.md). -/
def State.pqRead (s : State) (k : QK) (q n off : Nat) : Word :=
  let p := s.pq k q n
  if off = 0 then p.base
  else if off = 8 then BitVec.ofNat 64 p.log2
  else if off = 0x28 then
    BitVec.ofNat 64 ((match p.mode with | .disabled => 0 | .active => 1 | .halted => 2 | .resetting => 3)
      + p.cause * 4 + b2n p.phase * 2 ^ 6 + (p.outstanding % 2 ^ 13) * 2 ^ 16 + p.head * 2 ^ 32 + p.cTail * 2 ^ 48)
  else 0

/-- A write to a queue register by core c (11_crypto_complex.md). -/
def State.pqWriteReg (s : State) (k : QK) (q n off : Nat) (v : Word) (c : Nat) : State :=
  let p := s.pq k q n
  if off = 0 then
    if p.mode = .disabled then s.setPq k q n { p with base := v &&& 0x3FFFFFFFF000 } else s
  else if off = 8 then
    if p.mode = .disabled then s.setPq k q n { p with log2 := fld v 3 0 } else s
  else if off = 0x10 then
    let s := if v.getLsbD 1 then s.pqReset k q n else s
    if v.getLsbD 0 then s.pqEnable k q n else s
  else if off = 0x18 then s.pqDoorbell k q n (fld v 15 0) c
  else if off = 0x20 then s.pqChead k q n (fld v 15 0)
  else s

end Sys2Proof.Machine
end

