-- ==== Sys2Proof/Machine/XchgOps.lean ====
section
/-!
DEFINITION. The exchange layer (14_channel_exchanges.md): the Exchange Table, path groups, requests and re-drives,
outcomes and completions of outbound exchanges, answers to inbound requests and the peer windows.
-/
namespace Sys2Proof.Machine

/-! ## The Exchange Table -/

/-- An Exchange Table entry. -/
def State.xt (s : State) (x : Nat) : XtEnt := s.xchg.table.get {} x

/-- The state with an Exchange Table entry replaced; a change of its STATE is mirrored (R330). -/
def State.setXt (s : State) (x : Nat) (e : XtEnt) : State :=
  let old := s.xt x
  let s := { s with xchg := { s.xchg with
    table := if e.state = XtSt.free then s.xchg.table.del x else s.xchg.table.set x e } }
  if old.state = e.state then s else s.mirror' e.ctx (.exchange x e)

/-- Free an Exchange Table entry. -/
def State.freeXt (s : State) (x : Nat) : State := s.setXt x { ctx := (s.xt x).ctx }

/-- An outbound entry whose request is on a port. -/
def onPort (e : XtEnt) : Bool :=
  !e.inbound && e.attachedTo.isNone
    && (e.state == .issued || e.state == .acked || e.state == .data || e.state == .cancelling)

/-- Open exchanges of any group on a port, entry x apart (R325). -/
def State.openOn (s : State) (p x : Nat) : Nat :=
  countP (fun e => onPort e && e.port == p) (s.xchg.table.filter fun t => t.1 != x)

/-- Codes of XtSt (R330). -/
def xtCode : XtSt → Nat
  | .free => 0 | .issued => 1 | .acked => 2 | .data => 3 | .done => 4 | .pathWait => 5 | .cancelling => 6

/-- The 128 bytes of an entry (R330). -/
def xtBytes (e : XtEnt) : Bytes :=
  leBytes 4 (xtCode e.state + b2n e.inbound * 8 + e.xtype * 16 + e.cls * 2 ^ 8 + e.ctx * 2 ^ 10 + e.port * 2 ^ 16
      + e.attempt * 2 ^ 24)
    ++ leBytes 4 (e.group + e.queue * 2 ^ 9 + e.rounds * 2 ^ 12 + e.slot * 2 ^ 16)
    ++ leBytes 8 e.receipt.toNat ++ leBytes 8 e.domain.toNat ++ leBytes 8 e.address.toNat ++ leBytes 8 e.user.toNat
    ++ leBytes 8 e.outAddr.toNat ++ leBytes 4 e.outLen ++ leBytes 4 e.peerXid ++ leBytes 8 e.inAddr.toNat
    ++ leBytes 4 e.inLen ++ leBytes 4 e.got ++ leBytes 8 e.admitted.toNat
    ++ leBytes 8 (match e.deadline with | some d => d.toNat | none => 2 ^ 64 - 1)
    ++ leBytes 8 e.result.toNat
    ++ leBytes 4 (e.status.toNat + e.orig.toNat * 2 ^ 8 + e.redrives * 2 ^ 16 + b2n e.solo * 2 ^ 24 + b2n e.dup * 2 ^ 25
        + b2n e.sagResumed * 2 ^ 26)
    ++ leBytes 4 (e.next.getD 0x1FFFF) ++ leBytes 4 (e.cancelOf.getD 0x1FFFF) ++ List.replicate 20 0

/-! ## Path groups (R324, R325) -/

/-- XT_PG_CFG of a group. -/
def State.pgCfg (s : State) (g : Nat) : Word := s.rd (aXt (8 + 16 * g))

/-- The member ports of a group that VALID enables, in member order. -/
def State.pgPorts (s : State) (g : Nat) : List Nat :=
  (List.range 8).filterMap fun i =>
    if (s.pgCfg g).getLsbD i then some (fld (s.rd (aXt (16 * g))) (8 * i + 7) (8 * i)) else none

/-- Owner of a group. -/
def State.pgOwner (s : State) (g : Nat) : Nat := fld (s.pgCfg g) 13 8

/-- The usable members of a group. -/
def State.pgUsable (s : State) (g : Nat) : List Nat := (s.pgPorts g).filter s.linkActive

/-- The usable member with the fewest open exchanges other than x itself, ties to the lower port number (R325). -/
def State.newPort (s : State) (g x : Nat) : Option Nat :=
  (s.pgUsable g).foldl (fun b p => match b with
    | none => some p
    | some r =>
      let a := s.openOn p x
      let c := s.openOn r x
      if a < c ∨ (a = c ∧ p < r) then some p else some r) none

/-- The next usable member after the failing port in member order, the failing port last (R325). -/
def State.nextPort (s : State) (g fail : Nat) : Option Nat :=
  let ps := s.pgPorts g
  let before := ps.takeWhile (· ≠ fail)
  let after := (ps.dropWhile (· ≠ fail)).drop 1
  match (after ++ before).find? s.linkActive with
  | some p => some p
  | none => if ps.contains fail && s.linkActive fail then some fail else none

/-! ## Frames (R318–R321) -/

/-- XH1 of an exchange frame (R318). -/
def xh1 (xtype role : Nat) (last : Bool) (status xid attempt offset : Nat) : Word :=
  BitVec.ofNat 64 (xtype + role * 16 + b2n last * 128 + status * 2 ^ 8 + xid * 2 ^ 16 + attempt * 2 ^ 32
    + offset * 2 ^ 40)

/-- The virtual lane of a type (R321). -/
def xtVl (xtype : Nat) : Nat := if xtype = 2 then 1 else if xtype = 4 ∨ xtype = 5 then 0 else 2

/-- Cut bytes into pieces of at most `m`. -/
def chunks (m : Nat) : Nat → Bytes → List Bytes
  | 0, _ => []
  | _, [] => []
  | f + 1, b => b.take m :: chunks m f (b.drop m)

/-- The frames of a request or a response: prologue with the first data in role `role`, further data in `role + 1`. -/
def xframes (mp : Nat) (pro data : Bytes) (xtype role status xid attempt : Nat) (receipt : Word) (xt : Option Nat)
    (ctx : Nat) : List TxF :=
  let room := mp - pro.length
  let rest := chunks mp (data.length / mp + 2) (data.drop room)
  let mk (r : Nat) (last : Bool) (off : Nat) (b : Bytes) : TxF :=
    { vl := xtVl xtype, xh0 := receipt
      xh1 := xh1 xtype r last (if r = role then status else 0) xid attempt off
      body := .bytes b, xt := xt, last := last, ctx := ctx }
  let first := mk role rest.isEmpty 0 (pro ++ data.take room)
  first :: (List.range rest.length).map fun i =>
    mk (role + 1) (i + 1 == rest.length) (room + mp * i) (rest.getD i [])

/-- The peer's MAX_PAYLOAD on a port (R321). -/
def State.maxPayload (s : State) (l : Nat) : Nat := max 256 (s.rf (aLink l 0x30) 28 16)

/-- Queue frames on a port. -/
def State.pushFrames (s : State) (l : Nat) (fs : List TxF) : State := fs.foldl (fun s f => s.pushFrame l f) s

/-- Drop frames of an exchange that still wait for transmission on a port. -/
def State.dropQueued (s : State) (l x : Nat) : State :=
  { s with link := s.link.upd {} l fun k => { k with queue := k.queue.filter fun f => f.xt ≠ some x } }

/-! ## Outcomes and completions -/

/-- The third and fourth words of a completion entry (R329), PHASE left 0. -/
def xComplWords (x : Nat) (e : XtEnt) (status orig : Nat) (written : Nat) (dup interim : Bool) : List Word :=
  [e.user, if interim then 0 else e.result, BitVec.ofNat 64 (written % 2 ^ 32 + x * 2 ^ 32),
   BitVec.ofNat 64 (e.slot + status * 2 ^ 16 + b2n e.solo * 2 ^ 24 + b2n (e.dup || dup) * 2 ^ 25
     + b2n e.sagResumed * 2 ^ 26 + b2n interim * 2 ^ 27 + orig * 2 ^ 32 + min e.redrives 255 * 2 ^ 40
     + e.port % 256 * 2 ^ 48)]

/-- Bytes that a final completion reports in IN_WRITTEN (R329). -/
def xWritten (e : XtEnt) : Nat :=
  if e.status = St.bufferTooSmall then e.rspLen
  else if e.tooBig || e.inLost then 0 else e.got

/-- Write the final completion of one entry and free it; a restored exchange's goes to the Work Inbox instead (R331,
R378, R437). -/
def State.xFinalOne (s : State) (x : Nat) (dup : Bool) : State :=
  let e := s.xt x
  if e.ctx = 0 ∨ e.own then s.freeXt x
  else if e.restored then s.serve e.ctx (.xcomplete x)
  else if e.noCompl then (s.pqDone .xch e.ctx e.queue).freeXt x
  else
    let s := s.pqWrite .xch e.ctx e.queue
      (xComplWords x e e.status.toNat e.orig.toNat (if dup then 0 else xWritten e) dup false)
    let s := if e.noEvent then s else s.eventAll e.ctx evExchange
    (s.pqDone .xch e.ctx e.queue).freeXt x

/-- Entries attached to x (R334), in table order. -/
def State.attachedTo (s : State) (x : Nat) : List Nat :=
  (s.xchg.table.filter fun t => t.2.attachedTo = some x).map (·.1)

/-- CANCELs whose target is x. -/
def State.cancelsOf (s : State) (x : Nat) : List Nat :=
  (s.xchg.table.filter fun t => t.2.cancelOf = some x ∧ t.2.xtype = 4 ∧ !t.2.inbound).map (·.1)

/-- Final completion of an entry, of the starts attached to it with the same outcome and DUP, and of the CANCELs that
waited for it, whose RESULT holds its STATUS (R334, R336). -/
def State.xFinal : Nat → State → Nat → State
  | 0, s, _ => s
  | f + 1, s, x =>
    let e := s.xt x
    let att := s.attachedTo x
    let cans := s.cancelsOf x
    let s := s.xFinalOne x false
    let s := att.foldl (fun s y =>
      let a := s.xt y
      let s := s.setXt y { a with status := e.status, orig := e.orig, result := e.result, solo := e.solo
                                  sagResumed := e.sagResumed, redrives := e.redrives, port := e.port
                                  attachedTo := none, state := .done }
      s.xFinalOne y true) s
    cans.foldl (fun s c =>
      let a := s.xt c
      let s := s.setXt c { a with cancelOf := none, result := BitVec.ofNat 64 e.status.toNat }
      if a.state = .done then State.xFinal f s c else s) s

/-- Stage the outcome record of a partition's COMMIT exchange, if records may be staged and there is room (R331,
R345). -/
def State.stageOutcome (s : State) (x : Nat) : State :=
  let e := s.xt x
  if !s.mayStage then s
  else if !s.commitRoom 0 then s.raise 100 0
  else
    let jsn := s.rd (aJrn 0x10)
    let s := s.stage { r := { receipt := e.receipt, domain := e.domain, kind := 2, status := e.status
                              context := BitVec.ofNat 8 e.ctx, result := e.result }, xent := some x }
    s.setXt x { (s.xt x) with outcome := some jsn }

/-- A destage exchange has been answered: its batch counts as destaged (R354); JRN_DESTAGED is of this module's own
records (log entry 46). -/
def State.destaged (s : State) (x : Nat) : State :=
  match s.jrn.sent.find? (fun b => b.xent == some x) with
  | some b =>
    if b.partner then
      let sent := s.jrn.sent.filter fun c => c.xent ≠ some x
      ({ s with jrn := { s.jrn with sent := sent }, dpx := { s.dpx with partnerDestaged := b.lastJsn } }).freeMirror
    else
    let s := s.wr (aJrn 0x18) b.lastJsn
    let ring := s.jrn.ring.map fun (e : JEnt) =>
      if e.r.jsn.toNat ≤ b.lastJsn.toNat then { e with destaged := true } else e
    let s := { s with jrn := { s.jrn with sent := s.jrn.sent.filter fun c => c.xent ≠ some x, ring := ring } }
    s.freeJournal
  | none => s

/-- An outbound entry reaches DONE with its outcome recorded in it: a partition's COMMIT waits for its outcome record,
a CANCEL for its target's final completion, which it decides while the target is CANCELLING (R331, R336). -/
def State.xDone : Nat → State → Nat → State
  | 0, s, _ => s
  | f + 1, s, x =>
    let s := s.setXt x { (s.xt x) with state := .done, deadline := none }
    let e := s.xt x
    match e.cancelOf with
    | some t =>
      let te := s.xt t
      if e.xtype = 4 then
        if te.state = .cancelling then
          let s := s.setXt t { te with
            status := e.status, orig := if e.status = St.cancelled then 0 else e.orig
            result := if e.status = St.cancelled then 0 else e.result, got := 0 }
          State.xDone f s t
        else s
      else if e.xtype = 2 && e.ctx != 0 then s.stageOutcome x
      else s.xFinal 8 x
    | none =>
      if e.xtype = 2 && e.ctx != 0 then s.stageOutcome x
      else if e.ctx = 0 then (s.destaged x).xFinal 8 x
      else s.xFinal 8 x

/-- An exchange ends with a status of the module's own and no response (R328). -/
def State.xFail (s : State) (x : Nat) (status : BitVec 8) : State :=
  let s := s.setXt x { (s.xt x) with status := status, orig := 0, result := 0, got := 0 }
  State.xDone 8 s x

/-! ## Sending (R331, R334, R335) -/

/-- LENGTH, data and prologue of a request (R319). -/
def reqPrologue (e : XtEnt) (n : Nat) : Bytes :=
  leBytes 8 e.domain.toNat ++ leBytes 8 e.address.toNat
    ++ leBytes 4 (if e.xtype = 0 then e.inLen else n) ++ [BitVec.ofNat 8 e.cls, 0, 0, 0] ++ leBytes 8 e.user.toNat

/-- Send the whole request of an entry on its port, reading OUT again (R321, R328, R334). -/
def State.xSend (s : State) (x : Nat) : State :=
  let e := s.xt x
  let a := e.outAddr.toNat
  if e.ctx ≠ 0 ∧ !s.mapped e.ctx a e.outLen then s.xFail x St.invalidField
  else if e.ctx ≠ 0 ∧ !s.noTags e.ctx a e.outLen [Tag.sealedW, Tag.poison] then s.xFail x St.tagMismatch
  else
    let data := if e.ctx = 0 then e.ctxData else s.readBytes e.ctx a e.outLen
    let fs := xframes (s.maxPayload e.port) (reqPrologue e data.length) data e.xtype 0 0 x e.attempt e.receipt
      (some x) e.ctx
    (s.setXt x { e with state := .issued, deadline := none, got := 0, tooBig := false, inLost := false }).pushFrames
      e.port fs

/-- Write the interim completion that an entry in PATH_WAIT owes, once a completion slot is left for it (R335). -/
def State.xInterim (s : State) (x : Nat) : State :=
  let e := s.xt x
  let p := s.pq .xch e.ctx e.queue
  if e.interim ∧ e.state = .pathWait ∧ p.outstanding < pqFree p then
    let s := s.pqWrite .xch e.ctx e.queue (xComplWords x e St.pathLost.toNat 0 0 false true)
    (s.setXt x { e with interim := false }).eventAll e.ctx evExchange
  else s

/-- Enter PATH_WAIT (R335). -/
def State.xWait (s : State) (x : Nat) : State :=
  let e := s.xt x
  let w := fld (s.pgCfg e.group) 55 24
  let e := { e with state := .pathWait, rounds := 0, tried := []
                    deadline := if w = 0 then none else some (s.time + BitVec.ofNat 64 w) }
  let s := s.raise 104 5
  if e.ctx = 0 then (s.setXt x e).raise 101 0
  else if e.restored || e.noCompl then s.setXt x e
  else (s.setXt x { e with interim := true }).xInterim x

/-- Issue a newly admitted exchange (R325, R331). -/
def State.xIssue (s : State) (x : Nat) : State :=
  let e := s.xt x
  match s.newPort e.group x with
  | some p => (s.setXt x { e with port := p }).xSend x
  | none => s.xWait x

/-- Re-drive an exchange from the failing port (R325, R334). -/
def State.xRedrive (s : State) (x : Nat) : State :=
  let e := s.xt x
  match s.nextPort e.group e.port with
  | some p =>
    let s := s.dropQueued e.port x
    let s := s.setXt x { e with port := p, attempt := satInc e.attempt 255, redrives := satInc e.redrives 255
                                interim := false, deadline := none }
    (s.raise 104 3).xSend x
  | none => (s.dropQueued e.port x).xWait x

/-- The timer of an exchange has expired on its port: a round ends when every usable member has timed out, and after
ROUNDS rounds the exchange waits (R334). -/
def State.xTimeout (s : State) (x : Nat) : State :=
  let e := s.xt x
  let s := s.raise 104 4
  let tried := if e.tried.contains e.port then e.tried else e.port :: e.tried
  let excess := (s.pgUsable e.group).all tried.contains
  let rounds := if excess then e.rounds + 1 else e.rounds
  let s := s.setXt x { e with tried := if excess then [] else tried, rounds := rounds }
  if excess ∧ fld (s.pgCfg e.group) 19 16 ≤ rounds then (s.dropQueued e.port x).xWait x else s.xRedrive x

/-- Entries of the table satisfying a test, by number. -/
def State.xtWhere (s : State) (f : XtEnt → Bool) : List Nat := (s.xchg.table.filter fun t => f t.2).map (·.1)

/-- A member has reached ACTIVE: waiting exchanges of its groups are re-driven with rounds reset (R331). -/
def State.xPortUp (s : State) (l : Nat) : State :=
  (s.xtWhere fun e => e.state == .pathWait && !e.inbound && !e.wait).foldl (fun s x =>
    let e := s.xt x
    if (s.pgPorts e.group).contains l then (s.setXt x { e with rounds := 0, tried := [] }).xRedrive x else s) s

/-- The slot of an inbound entry. -/
def inSlot (e : XtEnt) : Nat := e.outAddr.toNat

/-- A port has left ACTIVE: its outbound exchanges are re-driven (a loss does not count toward a round), partial
inbound requests are discarded, answered ones freed (R331, R332, R334). -/
def State.xPortLost (s : State) (l : Nat) : State :=
  let s := (s.xtWhere fun e => e.inbound && e.port == l && (e.state == .data || e.state == .done)).foldl (fun s x =>
    let e := s.xt x
    let s := if e.state = .data ∧ e.ctx ≠ 0 then
        let s := s.freeSlot e.ctx (inSlot e)
        match s.pwin e.ctx e.domain (rcptSource e.receipt) with
        | some w => s.setPwin e.ctx { w with outs := w.outs.del (rcptSeq e.receipt) }
        | none => s
      else s
    s.freeXt x) s
  (s.xtWhere fun e => onPort e && e.port == l && e.state != .cancelling).foldl (fun s x => s.xRedrive x) s

/-- A frame belongs to the present attempt of an entry, not to an abandoned one or to an earlier holder of its number. -/
def ofEntry (t : TxF) (e : XtEnt) : Bool := t.xh0 == e.receipt && fld t.xh1 39 32 == e.attempt

/-- A link ACKSEQ has covered a frame (R331, R332). -/
def State.xFrameAcked (s : State) (t : TxF) : State :=
  match t.xt with
  | some x =>
    let e := s.xt x
    if !t.last || !ofEntry t e then s
    else if !e.inbound ∧ e.state = .issued then s.setXt x { e with state := .acked }
    else if e.inbound ∧ e.state = .done then s.freeXt x
    else s
  | none => s

/-- The last frame of a request has been sent for the first time: its timer starts (R331, R333). -/
def State.xFrameSent (s : State) (t : TxF) : State :=
  match t.xt with
  | some x =>
    let e := s.xt x
    if t.last ∧ ofEntry t e ∧ !e.inbound ∧ e.state = .issued then
      s.setXt x { e with deadline := some (s.time + BitVec.ofNat 64 (s.rf (aXt (0x2000 + 8 * e.xtype)) 31 0)) }
    else s
  | none => s

/-! ## Receiving responses (R320, R329, R331) -/

/-- A frame that fits no open entry is discarded and counted (R331). -/
def State.stray (s : State) : State := s.raise 104 6

/-- The bytes of a DATA frame of the exchange layer. -/
def frameBytes (fr : Frame) : Bytes :=
  match fr.body with
  | .bytes b => b
  | .item _ => []

/-- XTYPE of an exchange frame. -/
def frXtype (fr : Frame) : Nat := fld fr.xh1 3 0
/-- ROLE. -/
def frRole (fr : Frame) : Nat := fld fr.xh1 6 4
/-- LAST. -/
def frLast (fr : Frame) : Bool := fr.xh1.getLsbD 7
/-- XID. -/
def frXid (fr : Frame) : Nat := fld fr.xh1 31 16
/-- ATTEMPT. -/
def frAttempt (fr : Frame) : Nat := fld fr.xh1 39 32
/-- OFFSET. -/
def frOffset (fr : Frame) : Nat := fld fr.xh1 63 40

/-- Write response data into IN, unless the response exceeds it or IN is no longer MAPPED (R329, R342). -/
def State.xWriteIn (s : State) (x off : Nat) (d : Bytes) : State :=
  let e := s.xt x
  if e.ctx = 0 then s.setXt x { e with ctxData := if off = 0 then d else e.ctxData ++ d }
  else if e.tooBig || e.inLost || e.inLen < off + d.length then
    s.setXt x { e with tooBig := e.tooBig || (e.inLen < off + d.length && !e.inLost) }
  else if s.mapped e.ctx (e.inAddr.toNat + off) d.length then s.writeBytes e.ctx (e.inAddr.toNat + off) d
  else s.setXt x { e with inLost := true }

/-- The final response has been received. -/
def State.xAnswered (s : State) (x : Nat) : State :=
  let e := s.xt x
  let s := if e.status = St.staleReceipt then s.raise 104 7 else s
  let e := if e.tooBig then { e with status := St.bufferTooSmall }
    else if e.inLost then { e with status := St.invalidField } else e
  State.xDone 8 (s.setXt x e) x

/-- A response frame of the exchange layer arrives (R331). A CANCEL whose target has had its final completion keeps the
RESULT that this gave it (R336). -/
def State.xResponse (s : State) (l : Nat) (fr : Frame) : State :=
  let x := frXid fr
  let e := s.xt x
  let b := frameBytes fr
  let open_ := !e.inbound && e.attachedTo.isNone && e.port == l && frAttempt fr == e.attempt
    && (e.state == .issued || e.state == .acked || e.state == .data || e.state == .cancelling)
  if !open_ then s.stray
  else
    let timer (e : XtEnt) : XtEnt :=
      if e.state = .cancelling then e
      else { e with state := .data
                    deadline := some (s.time + BitVec.ofNat 64 (s.rf (aXt (0x2000 + 8 * e.xtype)) 31 0)) }
    if frRole fr = 2 then
      if e.state = .data ∨ frOffset fr ≠ 0 ∨ b.length < 16 then s.stray
      else
        let len := ofLe (slice b 8 4)
        let d := b.drop 16
        let e := timer { e with
          result := if e.xtype = 4 ∧ e.cancelOf = none then e.result else BitVec.ofNat 64 (ofLe (b.take 8)), rspLen := len, orig := b.getD 12 0
          status := (fr.xh1 >>> 8).truncate 8, got := d.length, tooBig := e.ctx ≠ 0 ∧ e.inLen < len }
        let s := (s.setXt x e).xWriteIn x 0 d
        if frLast fr then s.xAnswered x else s
    else if frRole fr = 3 then
      if e.state = .issued ∨ e.state = .acked ∨ frOffset fr ≠ e.got then s.stray
      else
        let off := e.got
        let e := timer { e with got := off + b.length }
        let s := (s.setXt x e).xWriteIn x off b
        if frLast fr then s.xAnswered x else s
    else s.stray

/-! ## Answering inbound requests (R317, R320, R332, R336–R339) -/

/-- Send a response on the port on which the request arrived; nothing while that port is not ACTIVE or frames are
stopped (R321, R332, R398). -/
def State.answer (s : State) (l : Nat) (d : Dup) (status : BitVec 8) (result : Word) (orig : BitVec 8) (data : Bytes)
    (xt : Option Nat) (ctx : Nat) : State :=
  if s.linkActive l && s.mayStage then
    let pro := leBytes 8 result.toNat ++ leBytes 4 data.length ++ [orig, 0, 0, 0]
    s.pushFrames l (xframes (s.maxPayload l) pro data d.xtype 2 status.toNat d.xid d.attempt d.receipt xt ctx)
  else match xt with
    | some x => s.freeXt x
    | none => s

/-- The return address of a request frame. -/
def frDup (l : Nat) (fr : Frame) : Dup :=
  { port := l, xid := frXid fr, attempt := frAttempt fr, xtype := frXtype fr, receipt := fr.xh0 }

/-- Answer a request frame without data. -/
def State.refuse (s : State) (l : Nat) (fr : Frame) (status : BitVec 8) : State :=
  s.answer l (frDup l fr) status 0 0 [] none 0

/-- Answer the duplicates and CANCELs attached to an inbound request (R336, R339). -/
def State.answerDups (s : State) (ds : List Dup) (status : BitVec 8) (result : Word) : State :=
  ds.foldl (fun s d => s.answer d.port d St.replayed result status [] none 0) s

/-- The peer of a port is a Farvin module (R317). -/
def State.modulePeer (s : State) (l : Nat) : Bool := s.rb (aLink l 0x30) 33

/-- The arrival port is a valid member of a group owned by q with ACCEPT_IN set (R337). -/
def State.acceptIn (s : State) (q l : Nat) : Bool :=
  (List.range 512).any fun g =>
    let c := s.pgCfg g
    fld c 13 8 == q && c.getLsbD 14 && (s.pgPorts g).contains l

/-- Find or allocate the peer window for (DOMAIN, source) (R338). -/
def State.openPwin (s : State) (q : Nat) (dom : Word) (src : Nat) : Option (PWin × State) :=
  let ws := s.xchg.pwins.get [] q
  match s.pwin q dom src with
  | some w =>
    let w := { w with last := s.time }
    some (w, s.setPwin q w)
  | none =>
    let w : PWin := { domain := dom, source := src, last := s.time }
    let cap := if q = 0 then 4096 else 2 ^ s.rf (aXt (0x3000 + 8 * (q - 1))) 51 48
    if ws.length < cap then
      some (w, { s with xchg := { s.xchg with pwins := s.xchg.pwins.set q (ws ++ [w]) } })
    else
      match ws.foldl (fun (b : Option PWin) v => match b with
          | none => some v
          | some u => if v.last.toNat < u.last.toNat then some v else some u) none with
      | some old =>
        if 4000000000 < (s.time - old.last).toNat then
          let ws := ws.map fun v => if v.domain == old.domain && v.source == old.source then w else v
          some (w, { s with xchg := { s.xchg with pwins := s.xchg.pwins.set q ws } })
        else none
      | none => none

/-- How R339 answers a sequence: executed, stale, replayed with the outcome, attached to an entry, or lost in a LOSSY
window (R355). -/
inductive PAns where
  | fresh
  | stale
  | replay (orig : BitVec 8) (result : Word)
  | attach (entry : Nat)
  | lost
deriving DecidableEq, Repr

/-- The case of R339 for a Receipt in its peer window. -/
def State.pAnswer (s : State) (w : PWin) (receipt : Word) : PAns :=
  let seq := rcptSeq receipt
  if staleSeq w.high seq then .stale
  else match w.outs.find seq with
    | some (.pending x) => .attach x
    | some (.done st _ res _ _ _) => .replay st res
    | none =>
      if s.xchg.cancelled.contains (w.domain, receipt) then .replay St.cancelled 0
      else if w.lossy && seq < w.high then .lost else .fresh

/-- Record the outcome of an inbound request in its peer window (R338). -/
def State.pRecord (s : State) (q : Nat) (dom receipt : Word) (o : POut) : State :=
  match s.pwin q dom (rcptSource receipt) with
  | some w =>
    let o := match o, w.outs.find (rcptSeq receipt) with
      | .done st og res _ _ _, some (.done _ _ _ solo true j) => .done st og res solo true j
      | o, _ => o
    s.setPwin q (pwinSet w (rcptSeq receipt) o)
  | none => s

/-- The request that an inbound entry holds is complete: visible in the Work Inbox; an ATTENTION is answered at once
(R332). -/
def State.inComplete (s : State) (x : Nat) : State :=
  let e := s.xt x
  let s := s.setXt x { e with state := .acked }
  let att := e.xtype == 6
  let s := s.showSlot e.ctx (inSlot e) (if att then .attention else .message x)
    { receipt := e.receipt, origin := if att then 3 else 2, index := x, opcode := e.opcode, arg := e.user
      domain := e.domain } e.reqLen
  if att then
    let s := s.eventAll e.ctx evExchange
    let s := s.pRecord e.ctx e.domain e.receipt (.done St.ok St.ok 0 false false 0)
    let s := s.setXt x { (s.xt x) with state := .done, status := St.ok, dups := [] }
    let s := s.answer e.port { port := e.port, xid := e.peerXid, attempt := e.attempt, xtype := 6
                               receipt := e.receipt } St.ok 0 0 [] (some x) e.ctx
    s.answerDups e.dups St.ok 0
  else s

/-- The first frame of an inbound MESSAGE or ATTENTION (R337–R339): the next state, or none while it cannot be
admitted and waits in its link's buffer (R231). Entry and slot are the module's choice. -/
def State.inMessage (s : State) (l : Nat) (fr : Frame) (x slot : Nat) : Option State :=
  let b := frameBytes fr
  let dom := BitVec.ofNat 64 (ofLe (b.take 8))
  let addr := BitVec.ofNat 64 (ofLe (slice b 8 8))
  let len := ofLe (slice b 16 4)
  let q := fld addr 5 0
  let d := frDup l fr
  let st := s.partState q
  if s.dpxState = 3 then some (s.refuse l fr St.partitionFrozen)
  else if b.length < 32 ∨ q = 0 then some (s.refuse l fr St.invalidField)
  else if st = 3 ∨ st = 4 then some (s.refuse l fr St.partitionFrozen)
  else if st ≠ 2 ∨ !s.acceptIn q l ∨ s.entrySize q < len then some (s.refuse l fr St.invalidField)
  else match s.openPwin q dom (rcptSource fr.xh0) with
    | none => some ((s.refuse l fr St.invalidField).raise 104 8)
    | some (w, s) =>
      match s.pAnswer w fr.xh0 with
      | .stale => some (s.refuse l fr St.staleReceipt)
      | .lost => some (s.refuse l fr St.internalError)
      | .replay orig res => some (s.answer l d St.replayed res orig [] none 0)
      | .attach y => some (s.setXt y { (s.xt y) with dups := (s.xt y).dups ++ [d] })
      | .fresh =>
        if !s.admits || !s.admitInbound q || (s.xt x).state != .free || !s.slotFree q slot then none
        else
          let data := b.drop 32
          let s := s.setPwin q (pwinSet w (rcptSeq fr.xh0) (.pending x))
          let s := s.takeSlot q slot (if d.xtype = 6 then .attention else .message x)
          let s := s.setXt x
            { state := .data, inbound := true, xtype := d.xtype, cls := fld (BitVec.ofNat 64 (ofLe (slice b 20 1))) 1 0
              ctx := q, port := l, attempt := d.attempt, receipt := fr.xh0, domain := dom, address := addr
              user := BitVec.ofNat 64 (ofLe (slice b 24 8)), outAddr := BitVec.ofNat 64 slot, peerXid := d.xid
              admitted := s.time, reqLen := len, got := data.length, opcode := fld addr 15 8 }
          let s := s.writeBytes q (s.slotPay q slot) (data.take len)
          some (if frLast fr then s.inComplete x else s)

/-- The inbound entry that a further request frame belongs to. -/
def State.inEntry (s : State) (l : Nat) (fr : Frame) : Option Nat :=
  (s.xtWhere fun e => e.inbound && e.state == .data && e.port == l && e.peerXid == frXid fr
    && e.attempt == frAttempt fr && e.receipt == fr.xh0).head?

/-- The answer of a MESSAGE that its partition has posted (R236, R332): the outcome stays in the peer window. -/
def State.inPosted (s : State) (x : Nat) (status : BitVec 8) (result : Word) (data : Bytes) : State :=
  let e := s.xt x
  let solo := match s.pwin e.ctx e.domain (rcptSource e.receipt) with
    | some w => match w.outs.find (rcptSeq e.receipt) with
      | some (.done _ _ _ so true _) => so
      | _ => false
    | none => false
  let s := s.pRecord e.ctx e.domain e.receipt (.done status status result solo false 0)
  let s := s.setXt x { e with state := .done, status := status, result := result, solo := solo, dups := [] }
  let s := s.answer e.port { port := e.port, xid := e.peerXid, attempt := e.attempt, xtype := e.xtype
                             receipt := e.receipt } status result 0 data (some x) e.ctx
  s.answerDups e.dups status result

/-- The inbound entry that holds a Receipt of a peer. -/
def State.inHolding (s : State) (dom receipt : Word) : Option Nat :=
  (s.xtWhere fun e => e.inbound && e.domain == dom && e.receipt == receipt && e.state != .free).head?

/-- The recorded outcome of a peer's Receipt in any partition's windows. -/
def State.pOutcome (s : State) (dom receipt : Word) : Option (BitVec 8 × Word) :=
  s.xchg.pwins.findSome? fun t =>
    t.2.findSome? fun w =>
      if w.domain = dom ∧ w.source = rcptSource receipt then
        match w.outs.find (rcptSeq receipt) with
        | some (.done st _ res _ _ _) => some (st, res)
        | _ => none
      else none

/-- An inbound CANCEL for Receipt c (R336). -/
def State.inCancel (s : State) (l : Nat) (fr : Frame) : State :=
  let b := frameBytes fr
  let dom := BitVec.ofNat 64 (ofLe (b.take 8))
  let c := BitVec.ofNat 64 (ofLe (slice b 8 8))
  let d := frDup l fr
  match s.inHolding dom c with
  | some x =>
    let e := s.xt x
    if e.state = .data then
      let s := if e.ctx = 0 then s else s.freeSlot e.ctx (inSlot e)
      let s := s.pRecord e.ctx dom c (.done St.cancelled St.cancelled 0 false false 0)
      let s := (s.freeXt x).answerDups e.dups St.cancelled 0
      s.answer l d St.cancelled 0 0 [] none 0
    else if e.state = .done then s.answer l d St.replayed e.result e.status [] none 0
    else s.setXt x { e with dups := e.dups ++ [d] }
  | none =>
    match s.pOutcome dom c with
    | some (st, res) => s.answer l d St.replayed res st [] none 0
    | none =>
      if s.xchg.cancelled.contains (dom, c) then s.answer l d St.replayed 0 St.cancelled [] none 0
      else ({ s with xchg := { s.xchg with cancelled := s.xchg.cancelled ++ [(dom, c)] } }).answer l d St.cancelled 0 0
        [] none 0

/-! ## Starting an exchange (R326–R328) -/

/-- Address ranges do not overlap. -/
def disjoint (a n b m : Nat) : Bool := n == 0 || m == 0 || a + n ≤ b || b + m ≤ a

/-- An open outbound exchange of a partition with a Receipt. -/
def State.openReceipt (s : State) (q : Nat) (r : Word) (self : Nat) : Option Nat :=
  (s.xchg.table.find? fun t => t.1 ≠ self ∧ !t.2.inbound ∧ t.2.ctx = q ∧ t.2.receipt = r ∧ t.2.attachedTo = none
    ∧ t.2.xtype ≠ 5).map (·.1)

/-- The next start of queue n of partition q is admitted into entry x if it has a type in `ok` (R326, R328): the
checks in order, then attachment, a CANCEL's hold on its target, and the first sending. -/
def State.xStart (s : State) (q n x : Nat) (ok : Nat → Bool) : State :=
  let ws := s.pqWords .xch q n
  let w (i : Nat) : Word := (ws.getD i {}).val
  let tg (i : Nat) : Tag := (ws.getD i {}).tag
  let ctl := w 0
  let ty := fld ctl 3 0
  let p := s.pq .xch q n
  let fence := ctl.getLsbD 8
  if 8 ≤ n ∨ !s.pqFetchOk .xch q n ∨ !s.admits ∨ (s.xt x).state ≠ .free ∨ !ok ty ∨ (fence ∧ p.outstanding ≠ 0) then s
  else if !s.admitXt q then s.pqWait .xch q n 1
  else
    let slot := p.head
    let s := s.pqTake .xch q n false
    let rcpt : Word := if ty = 5 then BitVec.ofNat 64 (q * 2 ^ 57 + 0x1FF * 2 ^ 48 + s.xchg.probeSeq % 2 ^ 48) else w 1
    let s := if ty = 5 then { s with xchg := { s.xchg with probeSeq := s.xchg.probeSeq + 1 } } else s
    let outA := (w 4).toNat
    let outN := (w 5).toNat
    let inA := (w 6).toNat
    let inN := (w 7).toNat
    let tgt := if ty = 4 then s.openReceipt q (w 2) x else none
    let g := match tgt with
      | some t => (s.xt t).group
      | none => fld ctl 24 16
    let e : XtEnt :=
      { state := .issued, xtype := ty, cls := fld ctl 5 4, ctx := q, group := g, queue := n, slot := slot
        receipt := rcpt, domain := s.rd (aPart q 0x50), address := w 2, user := w 3, outAddr := w 4, outLen := outN
        inAddr := w 6, inLen := inN, admitted := s.time, noEvent := ctl.getLsbD 9 }
    let tagsOk := (List.range 8).all fun i =>
      tg i == Tag.untyped || (i == 1 && tg i == Tag.receipt) || ((i == 4 || i == 6) && tg i == Tag.pointer)
    let s := s.setXt x e
    if !tagsOk then s.xFail x St.tagMismatch
    else if 6 ≤ ty ∨ 2 ≤ fld ctl 5 4 ∨ fld ctl 7 6 ≠ 0 ∨ fld ctl 15 10 ≠ 0 ∨ fld ctl 63 25 ≠ 0
        ∨ 2 ^ 24 ≤ outN ∨ 2 ^ 24 ≤ inN ∨ (outN ≠ 0 ∧ (ty = 0 ∨ ty = 4 ∨ ty = 5)) then s.xFail x St.invalidField
    else if fld (s.pgCfg (fld ctl 24 16)) 7 0 = 0 ∨ s.pgOwner (fld ctl 24 16) ≠ q then s.xFail x St.invalidField
    else if ty ≠ 5 ∧ (rcptPart rcpt ≠ q ∨ rcptSource rcpt < 0x80 ∨ 0x1FE < rcptSource rcpt) then
      s.xFail x St.invalidField
    else if ty = 4 ∧ tgt = none then s.xFail x St.invalidField
    else if !s.mapped q outA outN ∨ !s.mapped q inA inN ∨ !disjoint outA outN inA inN then s.xFail x St.invalidField
    else if !s.noTags q outA outN [Tag.sealedW, Tag.poison]
        ∨ !s.noTags q inA inN [Tag.sealedW, Tag.code, Tag.poison] then s.xFail x St.tagMismatch
    else match (if ty = 5 then none else s.openReceipt q rcpt x) with
      | some y =>
        (s.setXt y { (s.xt y) with next := some x }).setXt x { e with attachedTo := some y }
      | none =>
        match tgt with
        | some t =>
          let te := s.xt t
          let s := if te.state = .issued ∨ te.state = .acked ∨ te.state = .data ∨ te.state = .pathWait then
              let te := { te with state := .cancelling, deadline := none, interim := false, cancelOf := some x }
              (s.dropQueued te.port t).setXt t te
            else s
          (s.setXt x { (s.xt x) with cancelOf := some t }).xIssue x
        | none => s.xIssue x

/-- Start a context-0 exchange of the module's own (R249, R354). -/
def State.xStart0 (s : State) (x xtype group : Nat) (receipt address : Word) (data : Bytes) (inLen : Nat) : State :=
  (s.setXt x { state := .issued, xtype := xtype, cls := 1, ctx := 0, group := group, receipt := receipt
               domain := s.fuse.ident.truncate 64, address := address, ctxData := data, outLen := data.length
               inLen := inLen, admitted := s.time }).xIssue x

end Sys2Proof.Machine
end

