-- ==== Sys2Proof/Machine/LinkOps.lean ====
section
/-!
DEFINITION. The link layer of the channel ports and the Courier lanes (13_channel_links.md). Links 0–255 are channel
ports, 256–263 the Courier lanes.
-/
namespace Sys2Proof.Machine

/-! ## Registers and frames out -/

/-- A link's layer state. -/
def State.lk (s : State) (l : Nat) : LinkSt := s.link.get {} l

/-- The state with a link replaced. -/
def State.setLk (s : State) (l : Nat) (k : LinkSt) : State := { s with link := s.link.set l k }

/-- STATE of a link (R308): 0 DISABLED, 1 TRAINING, 2 INIT, 3 ACTIVE, 4 HOLDOFF. -/
def State.lkState (s : State) (l : Nat) : Nat := s.rf (aLink l 8) 2 0

/-- A Courier lane. -/
def isLane (l : Nat) : Bool := decide (256 ≤ l)

/-- The fault source of a link (R315, R402). -/
def linkSrc (l : Nat) : Nat := if l < 256 then 160 + l / 8 else 192 + (l - 256) / 4

/-- The channel port is absent (R295). -/
def State.lkAbsent (s : State) (l : Nat) : Bool := s.fuse.small && 128 ≤ l && l < 256

/-- Receive buffer of a link on a virtual lane, in credits (R307). -/
def vlCredits (l vl : Nat) : Nat :=
  if isLane l then (if vl = 0 then 32 else if vl = 3 then 128 else 0)
  else if vl = 0 then 32 else if vl = 3 then 0 else 64

/-- The initial cumulative limits granted by a link. -/
def initialGrant (l : Nat) : List (BitVec 16) := (List.range 4).map fun v => BitVec.ofNat 16 (vlCredits l v)

/-- LEN of a DATA frame's payload. -/
def bodyLen : FBody → Nat
  | .bytes b => b.length
  | .item i => itemLen i.body

/-- Credits that a frame takes (R307). -/
def frameCredits (n : Nat) : Nat := (36 + n + 255) / 256

/-- Add to one virtual lane's count. -/
def addVl (c : List (BitVec 16)) (vl n : Nat) : List (BitVec 16) :=
  c.set vl (c.getD vl 0 + BitVec.ofNat 16 n)

/-- A control frame of a link (R299, R300): ACKV and CRV are set while ACTIVE. -/
def State.control (s : State) (l ty : Nat) (body : Bytes) : State :=
  let k := s.lk l
  let act := s.lkState l = 3
  let s := s.emit (.frame l { ftype := ty, ackv := act, crv := act, ackseq := if act then k.nextRx - 1 else 0
                              credit := if act then k.granted else [], body := .bytes body })
  if act then s.setLk l { k with owesAck := false, unacked := 0 } else s

/-- Send LINIT (R309). -/
def State.sendLinit (s : State) (l : Nat) : State :=
  s.control l 3 (leBytes 16 s.fuse.ident.toNat ++ leBytes 2 (if isLane l then l - 256 else l)
    ++ [BitVec.ofNat 8 (b2n (isLane l) + 2), 0]
    ++ (initialGrant l).flatMap (fun c => leBytes 2 c.toNat) ++ leBytes 2 4096 ++ leBytes 2 0
    ++ leBytes 4 (s.lk l).nonce.toNat ++ leBytes 4 0)

/-- Send LACK (R309). -/
def State.sendLack (s : State) (l : Nat) (echo : BitVec 32) : State :=
  s.control l 4 (leBytes 4 echo.toNat ++ leBytes 4 (s.lk l).nonce.toNat)

/-- Enter a state; `since` of nothing is kept. -/
def State.lkGo (s : State) (l st : Nat) : State := s.wf (aLink l 8) 2 0 st

/-- Enter INIT: a new NONCE is drawn and LINIT sent (R308). -/
def State.lkInit (s : State) (l : Nat) : State :=
  let (n, s) := s.draw
  ((s.setLk l { nonce := n.truncate 32 }).lkGo l 2).sendLinit l

/-! ## Link down (R310, R311) -/

/-- VL3 items that a lane returns as unconfirmed are sent again on another ACTIVE lane (R370). -/
def State.resendItems (s : State) (fs : List TxF) : State :=
  fs.foldl (fun s f =>
    match f.body with
    | .item i => if f.vl = 3 then s.laneItem i else s
    | .bytes _ => s) s

/-- A link leaves its state for `to` with a reason; an ACTIVE link goes down by R311. -/
def State.linkLeave (s : State) (l dest reason : Nat) : State :=
  let act := s.lkState l = 3
  let k := s.lk l
  let s := if act && !(reason == 3 || reason == 5 || reason == 8) then
      s.control l 5 [BitVec.ofNat 8 reason, 0, 0, 0, 0, 0, 0, 0]
    else s
  let s := (s.lkGo l dest).wf (aLink l 8) 11 8 reason
  let s := if reason = 3 ∨ reason = 8 then (s.wb (aLink l 8) 3 false).wb (aLink l 8) 4 false else s
  let s := s.setLk l {}
  if act then
    let s := (s.satField (aLink l 0x58) 63 48).raise (linkSrc l) 0
    if isLane l then s.resendItems (k.held.map (·.2) ++ k.queue) else s.xPortLost l
  else s

/-- A protocol error (R303, R305, R307). -/
def State.protocolError (s : State) (l : Nat) : State := (s.raise (linkSrc l) 6).linkLeave l 4 4

/-! ## Acknowledgement and replay (R302–R305) -/

/-- Start a replay, or take the link down when a ninth in a row is due (R305). -/
def State.startReplay (s : State) (l : Nat) : State :=
  let k := s.lk l
  if k.replayRun = 8 then s.linkLeave l 4 1
  else ((s.setLk l { k with replayRun := k.replayRun + 1, replay := k.held.length }).satField (aLink l 0x58) 47 32).raise
    (linkSrc l) 2

/-- Send NAK once (R303). -/
def State.nak (s : State) (l : Nat) : State :=
  let k := s.lk l
  if k.nakSent then s else (s.setLk l { k with nakSent := true }).control l 2 []

/-- Frames acknowledged up to and including sequence `a`, and the rest. -/
def splitAcked (a : BitVec 16) : List (BitVec 16 × TxF) → List TxF × List (BitVec 16 × TxF)
  | [] => ([], [])
  | (q, t) :: r => if (a - q).toNat < 0x8000 then (t :: (splitAcked a r).1, (splitAcked a r).2) else ([], (q, t) :: r)

/-- Act on the ACKSEQ and the credit limits of a received frame (R305, R307); none on a protocol error. -/
def State.takeAck (s : State) (l : Nat) (fr : Frame) : Option State :=
  let k := s.lk l
  let d := (fr.ackseq - k.acked).toNat
  let sent := (k.nextTx - 1 - k.acked).toNat
  let r : Option State :=
    if !fr.ackv then some s
    else if d ≤ sent then
      let (gone, held) := splitAcked fr.ackseq k.held
      let s := s.setLk l { k with
        held := held, acked := fr.ackseq, replayRun := if d = 0 then k.replayRun else 0
        replay := min k.replay held.length }
      some (if isLane l then s else gone.foldl (fun s t => s.xFrameAcked t) s)
    else if (k.acked - fr.ackseq).toNat < 0x8000 then some s
    else none
  match r with
  | none => none
  | some s =>
    if !fr.crv then some s
    else
      let k := s.lk l
      let bad := (List.range 4).any fun v => 0x8000 ≤ (fr.credit.getD v 0 - k.limit.getD v 0).toNat
      if bad then none
      else some (s.setLk l { k with limit := (List.range 4).map fun v => fr.credit.getD v 0 })

/-- A received frame fails its check (R301, R303). -/
def State.checkFail (s : State) (l : Nat) : State :=
  let s := (s.satField (aLink l 0x58) 15 0).raise (linkSrc l) 1
  if s.lkState l = 3 then s.nak l else s

/-- Receive a DATA frame (R303): `deliver` is what the layer above does with it, none while it must wait in the
receive buffer. -/
def State.rxData (s : State) (l : Nat) (fr : Frame) (ctx : Nat) (deliver : State → Option State) : State :=
  let n := bodyLen fr.body
  if s.lkState l ≠ 3 ∨ fr.ftype ≠ 0 then s
  else if s.forced (linkSrc l) 1 then
    let s := (s.inject (linkSrc l) 1).satField (aLink l 0x58) 15 0
    s.nak l
  else if fr.version ≠ 1 ∨ 4096 < n ∨ vlCredits l fr.vl = 0 then s.protocolError l
  else match s.takeAck l fr with
    | none => s.protocolError l
    | some s =>
      let k := s.lk l
      if fr.seq = k.nextRx then
        let s1 := s.setLk l { k with
          nextRx := k.nextRx + 1, nakSent := false, owesAck := true, unacked := k.unacked + 1, bpSeq := none
          granted := addVl k.granted fr.vl (frameCredits n) }
        let s1 := s1.wr (aLink l 0x50) (s1.rd (aLink l 0x50) + 1)
        match deliver s1 with
        | some s2 => if 8 ≤ (s2.lk l).unacked ∧ s2.lkState l = 3 then s2.control l 1 [] else s2
        | none =>
          if k.bpSeq = some fr.seq then s
          else (s.setLk l { k with bpSeq := some fr.seq }).countBp ctx 1
      else if (fr.seq - k.nextRx).toNat < 0x8000 then s.nak l
      else s.setLk l { k with owesAck := true }

/-- A control frame passes its check in ACTIVE: its ACKSEQ and credits are taken, then `f` acts. -/
def State.rxControl (s : State) (l : Nat) (fr : Frame) (f : State → State) : State :=
  if s.lkState l ≠ 3 then s
  else if s.forced (linkSrc l) 1 then (s.inject (linkSrc l) 1).satField (aLink l 0x58) 15 0 |>.nak l
  else if fr.version ≠ 1 then s.protocolError l
  else match s.takeAck l fr with
    | none => s.protocolError l
    | some s => f s

/-- A frame of link start-up arrives in INIT: one that fails its check is counted and discarded, one of another VERSION
is a protocol error that is counted (R303, R315); `f` acts on any other. -/
def State.rxStart (s : State) (l : Nat) (fr : Frame) (f : State → State) : State :=
  if s.forced (linkSrc l) 1 then (s.inject (linkSrc l) 1).satField (aLink l 0x58) 15 0
  else if fr.version ≠ 1 then s.raise (linkSrc l) 6
  else f s

/-! ## Commands of a link -/

/-- A write of CHP_CFG, or of a lane's CFG (R308): ENABLE starts training, clearing it or RETRAIN takes the link
down. -/
def State.lkConfig (s : State) (l : Nat) (v : Word) (be : Byte) : State :=
  let was := s.rb (aLink l 0) 0
  let s := s.applyRw (aLink l 0) v be
  let now := s.rb (aLink l 0) 0
  let s := if was && !now then s.linkLeave l 0 7 else s
  if wrote1 v be 4 && !(was && !now) then s.linkLeave l 4 12
  else if !was && now && s.lkState l == 0 then s.lkGo l 1
  else s

/-- PORT_ENABLE, PORT_DISABLE and RETRAIN: a management write of the port's CFG. -/
def State.opLinkConfig (w : Writer) (l : Nat) (v : Word) (be : Byte) (s : State) : State :=
  s.mgmt w (aLink l 0) v be fun s => s.lkConfig l v be

/-- The bit of CLK_STATUS for a lane PLL: octets 0–31, Courier A and B as 32 and 33. -/
def pllBit (o : Nat) : Nat := if o < 32 then 8 + o else 4 + (o - 32)

/-- TRAINING_DONE: TRAINING to INIT (R308); the lane PLL has lock. -/
def State.opTrainingDone (l : Nat) (s : State) : State :=
  let o := if l < 256 then l / 8 else 32 + (l - 256) / 4
  if s.lkState l = 1 then (((s.wb (aClk 0) (pllBit o) true).wb (aLink l 8) 3 true).wb (aLink l 8) 4 true).lkInit l else s

/-- TRAINING_TIMEOUT (R308). -/
def State.opTrainingTimeout (l : Nat) (s : State) : State :=
  if s.lkState l = 1 then (s.raise (linkSrc l) 4).linkLeave l 4 9 else s

/-- LINIT_TIMER (R308). -/
def State.opLinitTimer (l : Nat) (s : State) : State := if s.lkState l = 2 then s.sendLinit l else s

/-- INIT_TIMEOUT: not while reason 11 holds (R308). -/
def State.opInitTimeout (l : Nat) (s : State) : State :=
  if s.lkState l = 2 ∧ !(s.lk l).mismatch then s.linkLeave l 4 10 else s

/-- HOLDOFF_EXPIRY (R308). -/
def State.opHoldoffExpiry (l : Nat) (s : State) : State :=
  if s.lkState l = 4 ∧ s.rb (aLink l 0) 0 then s.lkGo l 1 else s

/-- LINIT content is valid (R309). -/
def linitOk (l : Nat) (b : Bytes) : Bool :=
  let mp := ofLe (slice b 0x1C 2)
  let cr (v : Nat) : Nat := ofLe (slice b (0x14 + 2 * v) 2)
  b.length == 40 && mp % 256 == 0 && 256 ≤ mp && mp ≤ 4096
    && (List.range 4).all (fun v => if vlCredits l v = 0 then cr v == 0 else 17 ≤ cr v)
    && (b.getD 0x12 0).getLsbD 0 == isLane l

/-- LINIT received in INIT (R308). -/
def State.linitInInit (s : State) (l : Nat) (b : Bytes) : State :=
  let nonce := BitVec.ofNat 32 (ofLe (slice b 0x20 4))
  let k := s.lk l
  if !linitOk l b then s.raise (linkSrc l) 6
  else
    let lo := BitVec.ofNat 64 (ofLe (slice b 0 8))
    let hi := BitVec.ofNat 64 (ofLe (slice b 8 8))
    if s.rb (aLink l 0) 2 ∧ (lo ≠ s.rd (aLink l 0x20) ∨ hi ≠ s.rd (aLink l 0x28)) then
      let s := s.wf (aLink l 8) 11 8 11
      let s := s.setLk l { k with mismatch := true, badNonce := some nonce }
      if k.badNonce = some nonce then s else s.raise (linkSrc l) 5
    else
      let s := (s.wr (aLink l 0x10) lo).wr (aLink l 0x18) hi
      let fl := (b.getD 0x12 0).toNat
      let s := s.wr (aLink l 0x30)
        (BitVec.ofNat 64 (ofLe (slice b 0x10 2) + ofLe (slice b 0x1C 2) * 2 ^ 16 + (fl % 4) * 2 ^ 32))
      let s := s.setLk l { k with
        mismatch := false, badNonce := none, peerNonce := some nonce, lackSent := true
        linitLimit := (List.range 4).map fun v => BitVec.ofNat 16 (ofLe (slice b (0x14 + 2 * v) 2)) }
      s.sendLack l nonce

/-- LINIT: in INIT by R308, in ACTIVE by its NONCE (R310 reason 6, R316). -/
def State.opLinit (l : Nat) (fr : Frame) (s : State) : State :=
  let b := frameBytes fr
  if fr.ftype ≠ 3 then s
  else if s.lkState l = 2 then s.rxStart l fr fun s => s.linitInInit l b
  else s.rxControl l fr fun s =>
    let nonce := BitVec.ofNat 32 (ofLe (slice b 0x20 4))
    if (s.lk l).peerNonce = some nonce then s.sendLack l nonce
    else ((s.linkLeave l 2 6).lkInit l).linitInInit l b

/-- LACK echoing the port's own NONCE, after the port has sent LACK: ACTIVE (R308). One that arrives while ACTIVE is an
acknowledgement as any frame is (R304). -/
def State.opLack (l : Nat) (fr : Frame) (s : State) : State :=
  if fr.ftype ≠ 4 then s
  else if s.lkState l = 2 then s.rxStart l fr fun s =>
    let k := s.lk l
    if k.lackSent ∧ BitVec.ofNat 32 (ofLe ((frameBytes fr).take 4)) = k.nonce then
      let s := s.setLk l { nonce := k.nonce, peerNonce := k.peerNonce, lackSent := true, linitLimit := k.linitLimit
                           limit := k.linitLimit, granted := initialGrant l }
      let s := s.lkGo l 3
      if isLane l then s.laneUp l else s.xPortUp l
    else s
  else s.rxControl l fr id

/-- LDOWN received: the acknowledgement that it carries counts before the link goes down (R304, R310 reason 5). -/
def State.opLdown (l : Nat) (fr : Frame) (s : State) : State :=
  if fr.ftype = 5 then s.rxControl l fr fun s => s.linkLeave l 4 5 else s

/-- ACK received (R305, R307). -/
def State.opAck (l : Nat) (fr : Frame) (s : State) : State :=
  if fr.ftype = 1 then s.rxControl l fr id else s

/-- NAK received: an acknowledgement, and a replay (R305). -/
def State.opNak (l : Nat) (fr : Frame) (s : State) : State :=
  if fr.ftype = 2 then s.rxControl l fr fun s => (s.satField (aLink l 0x58) 31 16).startReplay l else s

/-- FRAME_CHECK_FAIL (R301, R303). -/
def State.opFrameCheckFail (l : Nat) (s : State) : State := if s.lkAbsent l then s else s.checkFail l

/-- REPLAY_TIMER expires with frames unacknowledged (R305). -/
def State.opReplayTimer (l : Nat) (s : State) : State :=
  if s.lkState l = 3 ∧ (s.lk l).held ≠ [] then s.startReplay l else s

/-- ACK_DUE: an acknowledgement that is owed goes out (R304). -/
def State.opAckDue (l : Nat) (s : State) : State :=
  if s.lkState l = 3 ∧ (s.lk l).owesAck then s.control l 1 [] else s

/-- KEEPALIVE: 100 µs without a frame sent (R304). -/
def State.opKeepalive (l : Nat) (s : State) : State := if s.lkState l = 3 then s.control l 1 [] else s

/-- ACK_TIMEOUT: no acknowledgement for 10 ms (R310 reason 2). -/
def State.opAckTimeout (l : Nat) (s : State) : State := if s.lkState l = 3 then s.linkLeave l 4 2 else s

/-- PCS_LOCK_LOSS (R310 reason 3). -/
def State.opPcsLockLoss (l : Nat) (s : State) : State :=
  if s.lkState l = 3 then s.linkLeave l 4 3
  else (s.wb (aLink l 8) 3 false).wb (aLink l 8) 4 false

/-- OCTET_PLL_UNLOCK: octets 0–31, and 32 and 33 for the lanes of Courier A and B (R20, R295, R308). -/
def State.opOctetPllUnlock (o : Nat) (s : State) : State :=
  let ls := if o < 32 then (List.range 8).map (8 * o + ·) else (List.range 4).map (256 + 4 * (o - 32) + ·)
  if ls.all s.lkAbsent then s
  else
    let s := if o < 32 then s.raise (160 + o) 7 else s.raise (228 + (o - 32)) 0
    ls.foldl (fun s l => s.linkLeave l 4 8) (s.wb (aClk 0) (pllBit o) false)

/-! ## Transmission (R302, R306, R307, R340) -/

/-- Bytes held in the replay buffer. -/
def heldBytes (k : LinkSt) : Nat := (k.held.map fun h => 36 + bodyLen h.2.body).sum

/-- A waiting frame may be sent now: credit, replay buffer, sequence space; exchange frames only while the module sends
them (R302, R307, R377, R394, R398). -/
def State.canSend (s : State) (l : Nat) (k : LinkSt) (t : TxF) : Bool :=
  let n := bodyLen t.body
  frameCredits n ≤ linkCredit k t.vl && heldBytes k + 36 + n ≤ 0x40000 && k.held.length < 32767
    && (isLane l || s.mayStage)

/-- Whether context a is served before context b: context 0 first, then by usage over channel weight, ties to the lower
number (R232, R340). -/
def State.servedFirst (s : State) (a b : Nat) : Bool :=
  if a = b then false
  else if a = 0 then true
  else if b = 0 then false
  else
    let ua := s.parts.bytes.get 0 a * s.rf (aPart b 0x28) 25 16
    let ub := s.parts.bytes.get 0 b * s.rf (aPart a 0x28) 25 16
    ua < ub || (ua == ub && a < b)

/-- The frame of a virtual lane that is next on a link: that of the context served first, its oldest. -/
def State.nextOfVl (s : State) (l : Nat) (k : LinkSt) (vl : Nat) : Option TxF :=
  let c := k.queue.filter fun t => t.vl == vl
  let best := c.foldl (fun (b : Option TxF) t => match b with
    | none => some t
    | some u => if !isLane l && s.servedFirst t.ctx u.ctx then some t else some u) none
  match best with
  | some t => if s.canSend l k t then some t else none
  | none => none

/-- The next new DATA frame of a link: VL0, VL3, then VL1 and VL2 three bytes to one (R306). -/
def State.nextFrame (s : State) (l : Nat) (k : LinkSt) : Option TxF :=
  match s.nextOfVl l k 0 with
  | some t => some t
  | none => match s.nextOfVl l k 3 with
    | some t => some t
    | none => match s.nextOfVl l k 1, s.nextOfVl l k 2 with
      | some a, some b => if k.drr1 ≤ 3 * k.drr2 then some a else some b
      | some a, none => some a
      | none, b => b

/-- The frame on the wire. -/
def txFrame (k : LinkSt) (seq : BitVec 16) (t : TxF) : Frame :=
  { ftype := 0, vl := t.vl, seq := seq, ackseq := k.nextRx - 1, credit := k.granted, xh0 := t.xh0, xh1 := t.xh1
    body := t.body }

/-- Remove the first occurrence of a frame. -/
def removeFirst (t : TxF) : List TxF → List TxF
  | [] => []
  | u :: r => if u = t then r else u :: removeFirst t r

/-- FRAME_TRANSMIT: the transmitter of an ACTIVE link sends its next DATA frame, a replay before a new one (R305,
R306). -/
def State.opFrameTransmit (l : Nat) (s : State) : State :=
  let k := s.lk l
  if s.lkState l ≠ 3 then s
  else if 0 < k.replay then
    match k.held.drop (k.held.length - k.replay) with
    | (q, t) :: _ =>
      let s := s.emit (.frame l (txFrame k q t))
      let s := s.setLk l { k with replay := k.replay - 1, owesAck := false, unacked := 0 }
      s.wr (aLink l 0x48) (s.rd (aLink l 0x48) + 1)
    | [] => s
  else match s.nextFrame l k with
    | none => s
    | some t =>
      let n := bodyLen t.body
      let both := (s.nextOfVl l k 1).isSome && (s.nextOfVl l k 2).isSome
      let s := s.emit (.frame l (txFrame k k.nextTx t))
      let s := s.setLk l { k with
        queue := removeFirst t k.queue, held := k.held ++ [(k.nextTx, t)], nextTx := k.nextTx + 1
        consumed := addVl k.consumed t.vl (frameCredits n), owesAck := false, unacked := 0
        drr1 := if !both then 0 else if t.vl = 1 then k.drr1 + 36 + n else k.drr1
        drr2 := if !both then 0 else if t.vl = 2 then k.drr2 + 36 + n else k.drr2 }
      let s := s.wr (aLink l 0x48) (s.rd (aLink l 0x48) + 1)
      let s := if isLane l || t.ctx == 0 then s
        else { s with parts := { s.parts with bytes := s.parts.bytes.upd 0 t.ctx (· + 36 + n) } }
      if isLane l then s else s.xFrameSent t

/-! ## Frames of the exchange layer (14_channel_exchanges.md) -/

/-- The frame belongs to the row: a channel port, and a request frame of the type. -/
def isReq (l : Nat) (fr : Frame) (ty : Nat) : Bool := !isLane l && frRole fr == 0 && frXtype fr == ty

/-- INBOUND_MESSAGE and INBOUND_ATTENTION (R332, R337). -/
def State.opInMessage (ty l : Nat) (fr : Frame) (x slot : Nat) (s : State) : State :=
  if isReq l fr ty then
    s.rxData l fr (fld (BitVec.ofNat 64 (ofLe (slice (frameBytes fr) 8 8))) 5 0) fun s => s.inMessage l fr x slot
  else s

/-- INBOUND_CANCEL (R336). -/
def State.opInCancel (l : Nat) (fr : Frame) (s : State) : State :=
  if isReq l fr 4 then s.rxData l fr 0 fun s => some (s.inCancel l fr) else s

/-- INBOUND_PROBE: answered OK (R317). -/
def State.opInProbe (l : Nat) (fr : Frame) (s : State) : State :=
  if isReq l fr 5 then s.rxData l fr 0 fun s => some (s.refuse l fr St.ok) else s

/-- INBOUND_RESERVED_XTYPE: types 7–15 are answered UNSUPPORTED (R317). -/
def State.opInReserved (l : Nat) (fr : Frame) (s : State) : State :=
  if !isLane l ∧ frRole fr = 0 ∧ 7 ≤ frXtype fr then
    s.rxData l fr 0 fun s => some (s.refuse l fr St.unsupported)
  else s

/-- RSP_FRAME and RSP_DATA_FRAME (R331). -/
def State.opResponse (role l : Nat) (fr : Frame) (s : State) : State :=
  if !isLane l ∧ frRole fr = role then s.rxData l fr 0 fun s => some (s.xResponse l fr) else s

/-- EXCHANGE_TIMEOUT: the tick after the deadline has come (R333, R334). -/
def State.opExchangeTimeout (x : Nat) (s : State) : State :=
  let e := s.xt x
  match e.deadline with
  | some d =>
    if !e.inbound ∧ (e.state = .issued ∨ e.state = .acked ∨ e.state = .data) ∧ e.attachedTo = none
        ∧ d.toNat < s.time.toNat then s.xTimeout x
    else s
  | none => s

/-- WAIT_RETRY has elapsed with a member usable (R331). -/
def State.opWaitRetry (x : Nat) (s : State) : State :=
  let e := s.xt x
  match e.deadline with
  | some d =>
    if !e.inbound ∧ e.state = .pathWait ∧ !e.wait ∧ d.toNat ≤ s.time.toNat ∧ s.pgUsable e.group ≠ [] then
      (s.setXt x { e with rounds := 0, tried := [] }).xRedrive x
    else s
  | none => s

/-- The outcome record of entry x in the ring. -/
def State.outcomeRec (s : State) (x : Nat) : Option JEnt := s.jrn.ring.find? fun e => e.xent == some x && !e.acked

/-- EXCHANGE_OUTCOME_DURABLE: the outcome record is durable, and the final completion is written (R331). SOLO when it
was acknowledged on the local write alone (R12). -/
def State.opOutcomeDurable (x : Nat) (s : State) : State :=
  let e := s.xt x
  match s.outcomeRec x with
  | some j =>
    if e.state = .done ∧ !e.inbound ∧ s.durable j ∧ s.mayStage ∧ !j.never then
      let ring := s.jrn.ring.map fun (r : JEnt) => if r.r.jsn = j.r.jsn then { r with acked := true } else r
      let s := { s with jrn := { s.jrn with ring := ring } }
      ((s.setXt x { e with solo := e.solo || !j.mirrored }).xFinal 8 x).freeJournal
    else s
  | none => s

end Sys2Proof.Machine
end

