-- ==== Sys2Proof/Machine/HostOps.lean ====
section
/-!
DEFINITION. The host interface (09_host_interface.md): doorbells, descriptors and their checks, Work Order Table
entries, completions and interrupts, queue pair states, links and functions.
-/
namespace Sys2Proof.Machine

/-! ## Queue pairs and functions -/

/-- A function exists: PF0, or a VF up to NumVFs while VF Enable is set (R194). -/
def State.fnHere (s : State) (port fn : Nat) : Bool :=
  fn == 0 || (s.host.vfEnable.get false port && fn ≤ s.host.numVfs.get 0 port)

/-- Key of a queue pair. -/
def qpKey (port fn qp : Nat) : Nat := port * 1024 + fn * 16 + qp

/-- A queue pair. -/
def State.qp (s : State) (port fn qp : Nat) : Qp := s.host.qps.get {} (qpKey port fn qp)

/-- The state with a queue pair replaced. -/
def State.setQp (s : State) (port fn qp : Nat) (r : Qp) : State :=
  { s with host := { s.host with qps := s.host.qps.set (qpKey port fn qp) r } }

/-- Size of the SQ. -/
def sqSize (r : Qp) : Nat := 2 ^ fld r.cfg 4 0
/-- Size of the CQ. -/
def cqSize (r : Qp) : Nat := 2 ^ fld r.cfg 12 8

/-- The context that a function's work belongs to: its bound partition, 0 for PF0. -/
def State.fnCtx (s : State) (port fn : Nat) : Nat := if fn = 0 then 0 else s.vfPart port fn

/-- Port fault source b + k (R223). -/
def hifSrc (port k : Nat) : Nat := 200 + 8 * port + k

/-- An ACTIVE queue pair halts (R220). -/
def State.haltQp (s : State) (port fn qp cause : Nat) : State :=
  let r := s.qp port fn qp
  if r.mode = .active then
    let s := s.setQp port fn qp { r with mode := .halted, cause := cause }
    if cause = 3 ∨ cause = 4 then s.raise (hifSrc port 6) 0 else s
  else s

/-! ## Work Order Table -/

/-- A Work Order Table entry. -/
def State.wo (s : State) (i : Nat) : WoEnt := s.host.wo.get {} i

/-- The state with an entry replaced; a change of its STATE is mirrored (R219, R24). -/
def State.setWo (s : State) (i : Nat) (e : WoEnt) : State :=
  let old := s.wo i
  let s := { s with host := { s.host with
    wo := if e.state = WoSt.free then s.host.wo.del i else s.host.wo.set i e } }
  if old.state = e.state then s else s.mirror' e.part (.workOrder i e)

/-- Free an entry; a change of the Key Vault that waited for its command no longer completes it. -/
def State.freeWo (s : State) (i : Nat) : State :=
  let forget (v : VFor) : VFor := if v = .command i then .domain 0 else v
  let cs := s.cry.changes.map fun c => { c with why := forget c.why }
  let s := { s with cry := { s.cry with changes := cs, erasing := s.cry.erasing.vmap forget } }
  s.setWo i { part := (s.wo i).part }

/-- Entries of a queue pair, by number. -/
def State.woOf (s : State) (port fn qp : Nat) (f : WoEnt → Bool) : List Nat :=
  (s.host.wo.filter fun t => t.2.port == port && t.2.fn == fn && t.2.qp == qp && f t.2).map (·.1)

/-- Outstanding count of a queue pair (R213): fetched and not yet completed. -/
def State.outstanding (s : State) (port fn qp : Nat) : Nat :=
  (s.woOf port fn qp fun e => e.state != .free && e.state != .orphan).length

/-- Free entries of the CQ (R213). -/
def cqFree (r : Qp) : Nat := ringDiff (cqSize r) (r.cqHead + cqSize r - 1) r.cqTail

/-! ## Segment entries (R204, R205) -/

/-- TYPE of a segment entry. -/
def segType (e : BitVec 128) : Nat := (e.toNat / 2 ^ 88) % 4
/-- LEN of a segment entry. -/
def segLen (e : BitVec 128) : Nat := (e.toNat / 2 ^ 64) % 2 ^ 24
/-- ADDR of an entry. -/
def segAddr (e : BitVec 128) : Word := e.truncate 64
/-- NDESC of a LINK. -/
def linkCount (e : BitVec 128) : Nat := (e.toNat / 2 ^ 64) % 2 ^ 8

/-- An entry is valid under R204; a LINK only where `link` allows one. -/
def segOk (link : Bool) (e : BitVec 128) : Bool :=
  match segType e with
  | 0 => e == 0
  | 3 => link && e.toNat / 2 ^ 90 == 0 && (segAddr e).toNat % 256 == 0 && 1 ≤ linkCount e && linkCount e ≤ 64
      && segLen e / 256 == 0
  | _ => e.toNat / 2 ^ 90 == 0 && 1 ≤ segLen e

/-- Number of segments among entries. -/
def segCount (es : List (BitVec 128)) : Nat := (es.filter fun e => segType e == 1 || segType e == 2).length

/-- Sum of LEN over entries of a type. -/
def segTotal (ty : Nat) (es : List (BitVec 128)) : Nat := ((es.filter fun e => segType e == ty).map segLen).sum

/-- The segments of a type, as host addresses and lengths. -/
def segList (ty : Nat) (es : List (BitVec 128)) : List (Word × Nat) :=
  (es.filter fun e => segType e == ty).map fun e => (segAddr e, segLen e)

/-- The inline entries. -/
def inlineEnts (d : Desc) : List (BitVec 128) := [d.e0, d.e1, d.e2]

/-- OPCODE of a descriptor. -/
def dOpcode (d : Desc) : Nat := fld d.w0 7 0
/-- CLASS. -/
def dClass (d : Desc) : Nat := fld d.w0 9 8
/-- CID. -/
def dCid (d : Desc) : Nat := fld d.w0 31 16
/-- ARG. -/
def dArg (d : Desc) : Nat := fld d.w0 63 32

/-- Step 3 of R207: reserved fields zero, CLASS not reserved, entries valid. -/
def descOk (d : Desc) : Bool :=
  fld d.w0 15 11 == 0 && dClass d < 2 && segOk false d.e0 && segOk false d.e1 && segOk true d.e2

/-- What a chain run says (R205): an invalid entry, a limit passed, a further run, or the end. -/
inductive ChainRes where
  | bad | limit | more (addr : Word) (n : Nat) | done
deriving DecidableEq, Repr

/-- Check a run's entries in order, with the segments counted before it (R205). -/
def chainEnts (segs : Nat) : List (BitVec 128) → ChainRes
  | [] => .done
  | e :: t =>
    if !segOk t.isEmpty e then .bad
    else if segType e = 3 then .more (segAddr e) (linkCount e)
    else
      let n := if segType e = 0 then segs else segs + 1
      if 1024 < n then .limit else chainEnts n t

/-- Bytes of entries as they lie in host memory. -/
def entBytes (es : List (BitVec 128)) : Bytes := es.flatMap fun e => leBytes 16 e.toNat

/-! ## Completions (R211, R212, R216) -/

/-- Send a queue pair's MSI-X message (R216). -/
def State.signal (s : State) (port fn qp : Nat) : State :=
  let r := s.qp port fn qp
  (s.setQp port fn qp { r with unsignalled := 0, firstUnsig := none }).sendMsix port fn (fld r.cfg 23 16)

/-- Write a completion entry at the CQ tail and count it toward an interrupt (R211, R212, R216). `fault` marks a
failed descriptor read (R207 step 1). -/
def State.complete (s : State) (e : WoEnt) (fault : Bool) : State :=
  let r := s.qp e.port e.fn e.qp
  let w2 := e.outLen.toNat + r.sqHead * 2 ^ 32 + e.qp * 2 ^ 48
  let w3 := (if fault then 0xFFFF else dCid e.desc) + e.status.toNat * 2 ^ 16 + b2n e.solo * 2 ^ 24
    + b2n e.dup * 2 ^ 25 + b2n e.sagResumed * 2 ^ 26 + b2n r.phase * 2 ^ 31 + e.orig.toNat * 2 ^ 32
  let s := s.hostWrite e.port (r.cqBase + BitVec.ofNat 64 (32 * r.cqTail))
    (leBytes 8 (if fault then 0 else e.desc.receipt.toNat) ++ leBytes 8 e.result.toNat ++ leBytes 8 w2 ++ leBytes 8 w3)
  let t := (r.cqTail + 1) % cqSize r
  let noint := !fault && e.desc.w0.getLsbD 10
  let n := if noint then r.unsignalled else r.unsignalled + 1
  let s := s.setQp e.port e.fn e.qp { r with
    cqTail := t, phase := if t = 0 then !r.phase else r.phase, unsignalled := n
    firstUnsig := if noint then r.firstUnsig else match r.firstUnsig with
      | some x => some x
      | none => some s.time }
  if !noint && max 1 (fld r.cfg 31 24) ≤ n then s.signal e.port e.fn e.qp else s

/-- A completion is prepared: POSTING, or HELD while the queue pair is FROZEN (R218). -/
def State.post (s : State) (i : Nat) (e : WoEnt) : State :=
  let r := s.qp e.port e.fn e.qp
  s.setWo i { e with state := if r.mode = .frozen then .held else .posting, rd := .none }

/-- Prepare a completion with a status and nothing else. -/
def State.postStatus (s : State) (i : Nat) (st : BitVec 8) : State :=
  s.post i { (s.wo i) with status := st, orig := 0, result := 0, outLen := 0, resp := [], outs := [] }

/-- The duplicates attached to an entry, oldest first. -/
def State.attachedWo : Nat → State → Nat → List Nat
  | 0, _, _ => []
  | f + 1, s, i => match (s.wo i).next with
    | some j => j :: State.attachedWo f s j
    | none => []

/-- Attach an entry behind the last one of a chain. -/
def State.attachWo : Nat → State → Nat → Nat → State
  | 0, s, _, _ => s
  | f + 1, s, i, j => match (s.wo i).next with
    | some k => State.attachWo f s k j
    | none => s.setWo i { (s.wo i) with next := some j }

/-- The duplicates of an entry complete with OK_REPLAYED and its status (R209, R218). -/
def State.releaseDups (s : State) (i : Nat) : State :=
  let e := s.wo i
  let ds := State.attachedWo 32768 s i
  let s := s.setWo i { e with next := none }
  ds.foldl (fun s j =>
    let d := s.wo j
    if d.state = .attached ∨ d.state = .held then
      s.post j { d with status := St.replayed, orig := e.status, result := e.result, solo := e.solo, dup := true
                        sagResumed := e.sagResumed, outLen := 0, next := none }
    else s) s

/-- Remove a pending Receipt from its window (R209). -/
def State.unwindow (s : State) (e : WoEnt) : State :=
  let src := rcptSource e.desc.receipt
  let w := s.win e.part src
  match w.outs.find (rcptSeq e.desc.receipt) with
  | some (.pending _) => s.setWin e.part src { w with outs := w.outs.del (rcptSeq e.desc.receipt) }
  | _ => s

/-- Remove the pending Receipt that entry i itself registered (R209, R218). -/
def State.unwindowOwn (s : State) (i : Nat) : State :=
  let e := s.wo i
  if (s.win e.part (rcptSource e.desc.receipt)).outs.find (rcptSeq e.desc.receipt) = some (.pending i) then s.unwindow e
  else s

/-- Record a Receipt's outcome (R209, R217); what a commit has marked stays marked. -/
def State.outcome (s : State) (e : WoEnt) : State :=
  let src := rcptSource e.desc.receipt
  let w := s.win e.part src
  let (c, j) := match w.outs.find (rcptSeq e.desc.receipt) with
    | some (.done _ _ _ _ c j) => (c, j)
    | _ => (false, (0 : Word))
  s.setWin e.part src (rwinSet w (rcptSeq e.desc.receipt) (.done e.status e.result e.solo e.sagResumed c j))

/-! ## Steps 6 to 8 of R207 -/

/-- Issue the SEG_IN reads of an entry accepted as new (R207 step 9). -/
def State.readSegs (s : State) (i : Nat) (ents : List (BitVec 128)) : State :=
  let e := s.wo i
  let s := s.setWo i { e with state := .reading, rd := .segs }
  (segList 1 ents).foldl (fun s a => s.emit (.hostRead e.port a.1 a.2)) s

/-- Handle a Receipt by its window (R209): new, stale, replayed or attached; a duplicate that a LOSSY window does not
hold is not executed (R355). -/
def State.byWindow (s : State) (i : Nat) (ents : List (BitVec 128)) : State :=
  let e := s.wo i
  let src := rcptSource e.desc.receipt
  let seq := rcptSeq e.desc.receipt
  let w := s.win e.part src
  if staleSeq w.high seq then s.postStatus i St.staleReceipt
  else match w.outs.find seq with
    | some (.done st res solo sag _ _) =>
      s.post i { e with status := St.replayed, orig := st, result := res, solo := solo, dup := true
                        sagResumed := sag, outLen := 0 }
    | some (.pending o) =>
      if o = i then s.readSegs i ents
      else (s.setWo i { e with state := .attached, rd := .none }).attachWo 32768 o i
    | none =>
      if w.lossy && seq < w.high then s.postStatus i St.internalError
      else (s.setWin e.part src (rwinSet w seq (.pending i))).readSegs i ents

/-- Steps 6 to 8 once the chain, if any, has been read and checked. -/
def State.afterChain (s : State) (i : Nat) (ents : List (BitVec 128)) (crc : BitVec 32) : State :=
  let e := s.wo i
  let s := s.setWo i { e with chainCrc := crc, segIn := segTotal 1 ents, segOut := segTotal 2 ents
                              rd := .none }
  let r := e.desc.receipt
  if rcptPart r ≠ e.part ∨ 0x80 ≤ rcptSource r ∨ s.entrySize e.part < segTotal 1 ents then
    (s.unwindowOwn i).postStatus i St.invalidField
  else if s.partState e.part ≠ 1 ∧ s.partState e.part ≠ 2 then (s.unwindowOwn i).postStatus i St.partitionFrozen
  else s.byWindow i ents

/-! ## Host reads -/

/-- A host read of an entry fails (R196, R207, R217, R218). -/
def State.readFault (s : State) (i : Nat) : State :=
  let e := s.wo i
  let r := s.qp e.port e.fn e.qp
  match e.rd with
  | .desc slot =>
    if slot ≠ r.sqHead ∨ e.state ≠ .reserved then s
    else
      let s := (s.woOf e.port e.fn e.qp fun f => f.state == .reserved && f.rd != .none).foldl (fun s j =>
        match (s.wo j).rd with
        | .desc _ => if j = i then s else s.freeWo j
        | _ => s) s
      let s := s.setQp e.port e.fn e.qp { r with sqFetch := slot }
      let s := s.haltQp e.port e.fn e.qp 1
      let s := s.setWo i { e with status := St.hostReadFault }
      (s.complete { e with status := St.hostReadFault } true).freeWo i
  | .chain .. => ((s.unwindowOwn i).postStatus i St.hostReadFault).haltQp e.port e.fn e.qp 2
  | .segs =>
    let s := (s.unwindow e).postStatus i St.hostReadFault
    s.haltQp e.port e.fn e.qp 2
  | .reread .. =>
    let e := { e with status := St.hostReadFault, result := e.result, outLen := 0, resp := [], outs := [] }
    ((s.outcome e).post i e).haltQp e.port e.fn e.qp 2
  | .none => s

/-- A FORCE of CPL_TIMEOUT or CPL_ERROR applies to the next read that completes on the port (R399). -/
def State.forcedRead (s : State) (port : Nat) : Option State :=
  if s.forced (hifSrc port 3) 0 then some (s.inject (hifSrc port 3) 0)
  else if s.forced (hifSrc port 4) 0 then some (s.inject (hifSrc port 4) 0)
  else none

/-- A completion of a host read counts for an entry: its port is up and its queue pair is neither FROZEN nor in
reset. -/
def State.readable (s : State) (e : WoEnt) : Bool :=
  let r := s.qp e.port e.fn e.qp
  s.hostUp e.port && (r.mode == .active || r.mode == .halted)

/-- A descriptor read arrives in ring order (R202): the entry takes the descriptor, the SQ head passes its slot, and
`f` goes on with step 2 of R207. -/
def State.gotDesc (s : State) (i : Nat) (d : Desc) (f : State → State) : State :=
  let e := s.wo i
  let r := s.qp e.port e.fn e.qp
  match e.rd with
  | .desc slot =>
    if e.state ≠ .reserved ∨ slot ≠ r.sqHead ∨ !s.readable e then s
    else match s.forcedRead e.port with
      | some s => s.readFault i
      | none =>
        let s := s.setQp e.port e.fn e.qp { r with sqHead := (slot + 1) % sqSize r }
        f (s.setWo i { e with desc := d, rd := .none })
  | _ => s

/-- WORK (R206, R207 steps 2 to 8). -/
def State.opWork (i : Nat) (d : Desc) (s : State) : State :=
  if dOpcode d ≠ 1 then s
  else s.gotDesc i d fun s =>
    let e := s.wo i
    if e.fn = 0 then s.postStatus i St.invalidOpcode
    else if !descOk d then s.postStatus i St.invalidField
    else if segType d.e2 = 3 then
      (s.setWo i { e with rd := .chain (segAddr d.e2) (linkCount d.e2) 1 [] }).emit
        (.hostRead e.port (segAddr d.e2) (256 * linkCount d.e2))
    else s.afterChain i (inlineEnts d) 0

/-- NOP (R206): RECEIPT 0 and every entry UNUSED. -/
def State.opNopDesc (i : Nat) (d : Desc) (s : State) : State :=
  if dOpcode d ≠ 2 then s
  else s.gotDesc i d fun s =>
    if !descOk d ∨ d.receipt ≠ 0 ∨ d.e0 ≠ 0 ∨ d.e1 ≠ 0 ∨ d.e2 ≠ 0 then s.postStatus i St.invalidField
    else s.postStatus i St.ok

/-- OPCODE defined for no function, or not for this one (R206). -/
def opcodeDefined (fn op : Nat) : Bool := op == 2 || (op == 1 && fn != 0) || (fn == 0 && 0x40 ≤ op && op ≤ 0x46)

/-- HOST_INVALID_OPCODE (R206, R207 step 2). -/
def State.opHostInvalid (i : Nat) (d : Desc) (s : State) : State :=
  if opcodeDefined (s.wo i).fn (dOpcode d) then s
  else s.gotDesc i d fun s => s.postStatus i St.invalidOpcode

/-- CHAIN_READ_DONE: a run of the chain arrives (R205, R207 steps 4 and 5). -/
def State.opChainRead (i : Nat) (ents : List (BitVec 128)) (s : State) : State :=
  let e := s.wo i
  match e.rd with
  | .chain _ n hops got =>
    if e.state ≠ .reserved ∨ ents.length ≠ 16 * n ∨ !s.readable e then s
    else match s.forcedRead e.port with
      | some s => s.readFault i
      | none =>
        let segs := segCount (inlineEnts e.desc) + segCount got
        match chainEnts segs ents with
        | .bad => (s.unwindowOwn i).postStatus i St.invalidField
        | .limit => (s.unwindowOwn i).postStatus i St.chainLimit
        | .more a m =>
          if hops = 32 then (s.unwindowOwn i).postStatus i St.chainLimit
          else (s.setWo i { e with rd := .chain a m (hops + 1) (got ++ ents) }).emit (.hostRead e.port a (256 * m))
        | .done => s.afterChain i (inlineEnts e.desc ++ got ++ ents) (crc32c (entBytes (got ++ ents)))
  | _ => s

/-- SEGIN_READ_DONE: every SEG_IN read is done; the entry is made visible in the Work Inbox, or INVALID_FIELD when its
slot is not wholly mapped (R207 step 10, R218). The slot is the module's choice among free ones. -/
def State.opSeginRead (i : Nat) (data : Bytes) (slot : Nat) (s : State) : State :=
  let e := s.wo i
  if e.state ≠ .reading ∨ e.rd ≠ .segs ∨ data.length ≠ e.segIn ∨ !s.slotFree e.part slot ∨ !s.readable e then s
  else match s.forcedRead e.port with
    | some s => s.readFault i
    | none =>
      if !s.slotMapped e.part slot then (s.unwindow e).postStatus i St.invalidField
      else
        let s := s.fillSlot e.part slot (.work i)
          { receipt := e.desc.receipt, origin := e.port, index := i, opcode := dOpcode e.desc
            arg := BitVec.ofNat 64 (dArg e.desc), domain := s.rd (aPart e.part 0x50) } data
        s.setWo i { e with state := .delivered, rd := .none, slot := some slot
                           inbox := BitVec.ofNat 64 (s.slotHdr e.part slot) }

/-- A read of the entry can fail now: descriptor reads fail in ring order (R202). -/
def State.canFail (s : State) (e : WoEnt) : Bool :=
  s.readable e && (match e.rd with
    | .desc slot => slot == (s.qp e.port e.fn e.qp).sqHead && decide (e.state = .reserved)
    | .none => false
    | _ => true)

/-- COMPLETION_TIMEOUT of a read (R196, R223). -/
def State.opCompletionTimeout (i : Nat) (s : State) : State :=
  let e := s.wo i
  if s.canFail e then (s.raise (hifSrc e.port 3) 0).readFault i else s

/-- PCIE_ERROR_DETECTED: event k of R223; CPL_ERROR names the read that it ends. -/
def State.opPcieError (port k : Nat) (wo : Option (Fin 32768)) (s : State) : State :=
  if k = 1 ∨ k = 2 ∨ k = 5 then s.raise (hifSrc port k) 0
  else if k = 4 then
    match wo with
    | some i =>
      let e := s.wo i.val
      if e.port = port ∧ s.canFail e then (s.raise (hifSrc port 4) 0).readFault i.val else s
    | none => s.raise (hifSrc port 4) 0
  else s

/-! ## Fetch and doorbells -/

/-- DESCRIPTOR_FETCH (R213, R218, R231): a Work Order Table entry is reserved and the descriptor read issued, or the
wait counted. -/
def State.opFetch (port fn qp i : Nat) (s : State) : State :=
  let r := s.qp port fn qp
  let q := s.fnCtx port fn
  if r.mode ≠ .active ∨ !s.hostUp port ∨ !s.admits ∨ r.sqFetch = r.sqTail ∨ (s.wo i).state ≠ .free then s
  else if !s.admitWo q ∨ cqFree r ≤ s.outstanding port fn qp then
    if r.waitCounted then s else (s.setQp port fn qp { r with waitCounted := true }).countBp q 0
  else
    let s := s.setQp port fn qp { r with sqFetch := (r.sqFetch + 1) % sqSize r, waitCounted := false }
    let s := s.setWo i { state := .reserved, port := port, fn := fn, qp := qp, part := q, admitted := s.time
                         rd := .desc r.sqFetch }
    s.emit (.hostRead port (r.sqBase + BitVec.ofNat 64 (64 * r.sqFetch)) 64)

/-- SQ_DOORBELL (R214). -/
def State.opSqDoorbell (port fn qp : Nat) (v : Word) (s : State) : State :=
  let r := s.qp port fn qp
  let idx := fld v 15 0
  let bad := sqSize r ≤ idx ∨ fld v 63 16 ≠ 0
  if !s.hostUp port ∨ !s.fnHere port fn then s
  else match r.mode with
    | .active => if bad then s.haltQp port fn qp 3 else s.setQp port fn qp { r with sqTail := idx }
    | .halted => if bad then s else s.setQp port fn qp { r with sqTail := idx }
    | .frozen => if bad then s else s.setQp port fn qp { r with sqTail := idx }
    | _ => s

/-- CQ_DOORBELL (R215). -/
def State.opCqDoorbell (port fn qp : Nat) (v : Word) (s : State) : State :=
  let r := s.qp port fn qp
  let idx := fld v 15 0
  let bad := cqSize r ≤ idx ∨ fld v 63 16 ≠ 0
    ∨ ringDiff (cqSize r) r.cqTail r.cqHead < ringDiff (cqSize r) idx r.cqHead
  if !s.hostUp port ∨ !s.fnHere port fn then s
  else match r.mode with
    | .active => if bad then s.haltQp port fn qp 4 else s.setQp port fn qp { r with cqHead := idx }
    | .halted => if bad then s else s.setQp port fn qp { r with cqHead := idx }
    | .frozen => if bad then s else s.setQp port fn qp { r with cqHead := idx }
    | _ => s

/-- COALESCE_TIMER (R216). -/
def State.opCoalesce (port fn qp : Nat) (s : State) : State :=
  let r := s.qp port fn qp
  match r.firstUnsig with
  | some t =>
    let k := fld r.cfg 47 32
    if k ≠ 0 ∧ 0 < r.unsignalled ∧ k ≤ (s.time - t).toNat then s.signal port fn qp else s
  | none => s

/-! ## Responses (R217, R218) -/

/-- The status of a posted response after the checks that need only partition memory and the entry: tags, mapping,
length (R217). -/
def State.respCheck (s : State) (e : WoEnt) (slot n : Nat) (st : BitVec 8) : BitVec 8 × Bool :=
  let a := s.slotPay e.part slot
  if !s.mapped e.part a n then (St.invalidField, false)
  else if !s.noTags e.part a n [Tag.sealedW, Tag.poison] then (St.tagMismatch, false)
  else if e.segOut < n then (St.bufferTooSmall, false)
  else (st, true)

/-- A partition posts the response of a work order (R217, R218). -/
def State.hostPosted (s : State) (i slot n : Nat) (st : BitVec 8) (result : Word) : State :=
  let e := s.wo i
  let (st', good) := s.respCheck e slot n st
  let solo := match (s.win e.part (rcptSource e.desc.receipt)).outs.find (rcptSeq e.desc.receipt) with
    | some (.done _ _ so _ true _) => so
    | _ => false
  let data := if good then s.readBytes e.part (s.slotPay e.part slot) n else []
  let e := { e with status := st', result := result, solo := solo, slot := none, resp := data
                    outLen := if good ∨ st' = St.bufferTooSmall then BitVec.ofNat 32 n else 0
                    outs := segList 2 (inlineEnts e.desc) }
  let r := s.qp e.port e.fn e.qp
  if e.state = .orphan then
    let s := s.outcome e
    ((s.setWo i e).releaseDups i).freeWo i
  else if r.mode = .frozen then
    let s := s.outcome e
    (s.setWo i { e with state := .held, resp := [], outs := [] }).releaseDups i
  else if good ∧ segType e.desc.e2 = 3 then
    (s.setWo i { e with state := .posting, rd := .reread (segAddr e.desc.e2) (linkCount e.desc.e2) 1 [] }).emit
      (.hostRead e.port (segAddr e.desc.e2) (256 * linkCount e.desc.e2))
  else (s.outcome e).setWo i { e with state := .posting, rd := .none }

/-- CHAIN_REREAD_DONE (R217): the chain read again, compared with the CRC-32C of step 5. -/
def State.opChainReread (i : Nat) (ents : List (BitVec 128)) (s : State) : State :=
  let e := s.wo i
  match e.rd with
  | .reread _ n hops got =>
    if e.state ≠ .posting ∨ ents.length ≠ 16 * n ∨ !s.readable e then s
    else match s.forcedRead e.port with
      | some s => s.readFault i
      | none =>
        let bad := { e with status := St.invalidField, outLen := 0, resp := [], outs := [], rd := .none }
        match chainEnts 0 ents with
        | .more a m =>
          if hops = 32 then (s.outcome bad).setWo i bad
          else (s.setWo i { e with rd := .reread a m (hops + 1) (got ++ ents) }).emit (.hostRead e.port a (256 * m))
        | _ =>
          if crc32c (entBytes (got ++ ents)) = e.chainCrc then
            let e := { e with rd := .none, outs := segList 2 (inlineEnts e.desc ++ got ++ ents) }
            (s.outcome e).setWo i e
          else (s.outcome bad).setWo i bad
  | _ => s

/-- Write response data into SEG_OUT segments in order. -/
def State.writeOuts (s : State) (port : Nat) : List (Word × Nat) → Bytes → State
  | [], _ => s
  | (a, n) :: t, b =>
    if b.isEmpty then s
    else (s.hostWrite port a (b.take n)).writeOuts port t (b.drop n)

/-- RESPONSE_SEND: the response, then the completion entry, then the interrupt; the entry is freed and the attached
duplicates follow (R23, R217, R218). -/
def State.opResponseSend (i : Nat) (s : State) : State :=
  let e := s.wo i
  let r := s.qp e.port e.fn e.qp
  if e.state ≠ .posting ∨ e.rd ≠ .none ∨ !s.hostUp e.port ∨ !(r.mode = .active ∨ r.mode = .halted) then s
  else (((s.writeOuts e.port e.outs e.resp).complete e false).releaseDups i).freeWo i

/-! ## Queue pair states (R220–R222) -/

/-- QCTL.ENABLE (R220). -/
def State.opQctlEnable (port fn qp : Nat) (s : State) : State :=
  let r := s.qp port fn qp
  if !s.hostUp port ∨ !s.fnHere port fn ∨ r.mode ≠ .disabled then s
  else
    let sq := fld r.cfg 4 0
    let cq := fld r.cfg 12 8
    if (fn = 0 ∨ s.vfPart port fn ≠ 0) ∧ 6 ≤ sq ∧ sq ≤ 16 ∧ 6 ≤ cq ∧ cq ≤ 16
        ∧ fld r.cfg 23 16 < (if fn = 0 then 256 else 16) then
      s.setQp port fn qp { r with mode := .active, sqHead := 0, sqFetch := 0, sqTail := 0, cqHead := 0, cqTail := 0
                                  phase := true, unsignalled := 0, firstUnsig := none, waitCounted := false }
    else s.setQp port fn qp { r with cause := 5 }

/-- Handle a duplicate again after its original has been removed (R209): the first is accepted as new, later ones
attach. A chained one that is accepted reads its chain once more for the addresses of its buffers. -/
def State.rehandle (s : State) (j : Nat) : State :=
  let d := s.wo j
  let s := s.setWo j { d with state := .reserved, next := none }
  let r := s.qp d.port d.fn d.qp
  let src := rcptSource d.desc.receipt
  let seq := rcptSeq d.desc.receipt
  let w := s.win d.part src
  if r.mode = .frozen then s.setWo j { d with state := .held, next := none }
  else if segType d.desc.e2 = 3 ∧ w.outs.find seq = none ∧ !staleSeq w.high seq then
    let s := s.setWin d.part src (rwinSet w seq (.pending j))
    (s.setWo j { d with state := .reserved, next := none
                        rd := .chain (segAddr d.desc.e2) (linkCount d.desc.e2) 1 [] }).emit
      (.hostRead d.port (segAddr d.desc.e2) (256 * linkCount d.desc.e2))
  else s.byWindow j (inlineEnts d.desc)

/-- Take an entry out of the chain of duplicates that it stands in. -/
def State.unlinkWo (s : State) (i : Nat) : State :=
  let e := s.wo i
  let prev := (s.host.wo.filter fun t => t.2.next = some i).map (·.1)
  prev.foldl (fun s p => s.setWo p { (s.wo p) with next := e.next }) s

/-- Free one entry of a queue pair in reset (R218, R222). -/
def State.resetWo (s : State) (i : Nat) : State :=
  let e := s.wo i
  match e.state with
  | .delivered => s.setWo i { e with state := .orphan }
  | .posting =>
    let s := if e.rd = .none then s else s.outcome e
    (s.releaseDups i).freeWo i
  | .free => s
  | .orphan => s
  | .attached => (s.unlinkWo i).freeWo i
  | .held => (s.unlinkWo i).freeWo i
  | _ =>
    let ds := State.attachedWo 32768 s i
    let same (j : Nat) : Bool :=
      let d := s.wo j
      d.port == e.port && d.fn == e.fn && d.qp == e.qp
    let s := (s.unwindowOwn i).freeWo i
    let s := (ds.filter same).foldl (fun s j => s.freeWo j) s
    (ds.filter fun j => !same j).foldl (fun s j => s.rehandle j) s

/-- A queue pair enters RESETTING and its entries are freed (R220, R222). -/
def State.resetQp (s : State) (port fn qp : Nat) (fnReset : Bool) : State :=
  let r := s.qp port fn qp
  let s := s.setQp port fn qp { r with mode := .resetting, fnReset := fnReset || r.fnReset
                                       cause := if fnReset then 7 else r.cause }
  (s.woOf port fn qp fun e => e.state != .free).foldl (fun s i => s.resetWo i) s

/-- QCTL.RESET (R222). -/
def State.opQctlReset (port fn qp : Nat) (s : State) : State :=
  let r := s.qp port fn qp
  if s.hostUp port ∧ s.fnHere port fn ∧ (r.mode = .active ∨ r.mode = .halted ∨ r.mode = .frozen) then
    s.resetQp port fn qp false
  else s

/-- QUEUE_RESET_DONE: no host read of the queue pair is outstanding: DISABLED, indices 0; after a function reset the
set-up registers return to reset values (R220). -/
def State.opQueueResetDone (port fn qp : Nat) (s : State) : State :=
  let r := s.qp port fn qp
  if r.mode = .resetting then
    s.setQp port fn qp (if r.fnReset then { cause := r.cause } else { r with
      mode := .disabled, sqHead := 0, sqFetch := 0, sqTail := 0, cqHead := 0, cqTail := 0, unsignalled := 0
      firstUnsig := none, waitCounted := false })
  else s

/-- The queue pairs of a port that the table lists, as function and number. -/
def State.portQps (s : State) (port : Nat) : List (Nat × Nat) :=
  (s.host.qps.filter fun t => t.1 / 1024 == port).map fun t => (t.1 % 1024 / 16, t.1 % 16)

/-- A queue pair becomes FROZEN (R221): its work orders behave as R218 gives. -/
def State.freezeQp (s : State) (port fn qp : Nat) : State :=
  let r := s.qp port fn qp
  if r.mode = .active ∨ r.mode = .halted then
    let s := s.setQp port fn qp { r with mode := .frozen, cause := 6 }
    (s.woOf port fn qp fun e => e.state == .posting || e.state == .attached).foldl (fun s i =>
      let e := s.wo i
      let s := if e.state = .posting ∧ e.rd ≠ .none then s.outcome e else s
      let s := s.setWo i { e with state := .held, rd := .none, resp := [], outs := [] }
      if e.state = .posting then s.releaseDups i else s) s
  else s

/-- PCIE_LINK_DOWN: a surprise link-down (R221, R223). -/
def State.opLinkDown (port : Nat) (s : State) : State :=
  if !s.hostUp port then s
  else
    let s := ((s.wf (aHif port 0) 7 0 0).satField (aHif port 0) 31 16).raise (hifSrc port 0) 0
    (s.portQps port).foldl (fun s t => s.freezeQp port t.1 t.2) s

/-- PCIE_LINK_UP: trained within HIF_CFG.MAX_SPEED and MAX_WIDTH (R197); the PHY PLL has lock. -/
def State.opLinkUp (port speed width : Nat) (s : State) : State :=
  if s.hostUp port ∨ !s.pwr.powered ∨ speed = 0 ∨ s.rf (aHif port 8) 19 17 < speed
      ∨ !(width = 1 ∨ width = 2 ∨ width = 4 ∨ width = 8) ∨ s.rf (aHif port 8) 23 20 < width then s
  else (s.wb (aClk 0) (2 + port) true).wf (aHif port 0) 7 0 (1 + speed * 2 + width * 16)

/-- Reset one function (R220): every queue pair, its MSI-X state and, as the sender, its mailbox (R243). -/
def State.resetFn (s : State) (port fn : Nat) : State :=
  let s := (List.range 16).foldl (fun s n => s.resetQp port fn n true) s
  let s := { s with host := { s.host with msix := s.host.msix.del (fnKey port fn) } }
  s.mbClear (if fn = 0 then .pf (Fin.ofNat 2 port) else .vf (Fin.ofNat 2 port) (Fin.ofNat 64 fn))

/-- Reset every function of a port that is there. -/
def State.resetFns (s : State) (port : Nat) : State :=
  ((List.range 64).filter (s.fnHere port)).foldl (fun s f => s.resetFn port f) s

/-- FUNCTION_LEVEL_RESET; of PF0, it resets its VFs as well. -/
def State.opFlr (port fn : Nat) (s : State) : State :=
  if !s.hostUp port ∨ !s.fnHere port fn then s
  else if fn = 0 then
    let s := s.resetFns port
    { s with host := { s.host with vfEnable := s.host.vfEnable.put false port false
                                   numVfs := s.host.numVfs.put 0 port 0 } }
  else s.resetFn port fn

/-- PERST or Hot Reset of a port: every function is reset (R221), and the link leaves L0. -/
def State.opPortReset (port : Nat) (s : State) : State :=
  let s := s.resetFns port
  let s := { s with host := { s.host with vfEnable := s.host.vfEnable.put false port false
                                          numVfs := s.host.numVfs.put 0 port 0 } }
  s.wf (aHif port 0) 7 0 0

/-- HOT_RESET arrives over the link. -/
def State.opHotReset (port : Nat) (s : State) : State := if s.hostUp port then s.opPortReset port else s

/-- VF_ENABLE_CLEAR (R220). -/
def State.opVfClear (port : Nat) (s : State) : State :=
  if s.hostUp port ∧ s.host.vfEnable.get false port then
    let s := ((List.range 64).filter fun f => f != 0 && s.fnHere port f).foldl (fun s f => s.resetFn port f) s
    { s with host := { s.host with vfEnable := s.host.vfEnable.put false port false } }
  else s

/-- VF_ENABLE_SET (R194). -/
def State.opVfSet (port : Nat) (s : State) : State :=
  if s.hostUp port then { s with host := { s.host with vfEnable := s.host.vfEnable.put false port true } } else s

/-- NUMVFS_WRITE: ignored while VF Enable is set (R194). -/
def State.opNumVfs (port n : Nat) (s : State) : State :=
  if s.hostUp port ∧ !s.host.vfEnable.get false port ∧ n ≤ 63 then
    { s with host := { s.host with numVfs := s.host.numVfs.put 0 port n } }
  else s

/-! ## Management registers of the ports -/

/-- A queue pair of a VF is not DISABLED (R200). -/
def State.vfBusy (s : State) (port v : Nat) : Bool :=
  (List.range 16).any fun n => (s.qp port v n).mode != .disabled

/-- A write of HIF_VFBIND[v] (R200). -/
def State.vfBind (s : State) (port v : Nat) (d : Word) (be : Byte) : State :=
  let a := aHif port (0x100 + 8 * v)
  let new := fld (s.merged a d be) 5 0
  if new = s.vfPart port v then s
  else if s.vfBusy port v then s
  else if new ≠ 0 ∧ (s.boundVf port new).isSome then s
  else s.applyRw a d be

/-- HIF_VFBIND_WRITE. -/
def State.opVfBind (w : Writer) (port v : Nat) (d : Word) (be : Byte) (s : State) : State :=
  s.mgmt w (aHif port (0x100 + 8 * v)) d be fun s => s.vfBind port v d be

/-- A write of HIF_CFG (R196, R197, R448): fields with values outside their range keep theirs. -/
def State.hifCfg (s : State) (port : Nat) (v : Word) (be : Byte) : State :=
  let a := aHif port 8
  let old := s.rd a
  let locked := old.getLsbD 24
  let s := s.applyRw a v be locked
  let new := s.rd a
  let cto := fld new 15 0
  let sp := fld new 19 17
  let wd := fld new 23 20
  let new := if 50 ≤ cto ∧ cto ≤ 50000 then new else setFld new 15 0 (fld old 15 0)
  let new := if 1 ≤ sp ∧ sp ≤ 5 then new else setFld new 19 17 (fld old 19 17)
  let new := if wd = 1 ∨ wd = 2 ∨ wd = 4 ∨ wd = 8 then new else setFld new 23 20 (fld old 23 20)
  s.wr a (if wrote1 v be 24 then setBit new 24 true else new)

/-- HIF_CFG_LOCK. -/
def State.opHifCfg (w : Writer) (port : Nat) (v : Word) (be : Byte) (s : State) : State :=
  s.mgmt w (aHif port 8) v be fun s => s.hifCfg port v be

end Sys2Proof.Machine
end

