-- ==== Sys2Proof/Machine/CommitOps.lean ====
section
/-!
DEFINITION. The commands of the Journal unit, the Strongroom and the Ledger (15_journal_ledger.md): staging a commit,
a completed write, destaging a batch, EPOCH_SYNC, rebuilding Receipt windows and reading the Ledger anchors.
-/
namespace Sys2Proof.Machine

/-! ## Staging a commit (R344–R346) -/

/-- Word tags as R344 gives them. -/
def commitTags (ws : List TWord) : Bool :=
  let tg (i : Nat) : Tag := (ws.getD i {}).tag
  [0, 2, 3, 5].all (fun i => tg i == Tag.untyped) && (tg 1 == Tag.untyped || tg 1 == Tag.receipt)
    && (tg 4 == Tag.untyped || tg 4 == Tag.pointer)

/-- The checks of R345 after the first: the status of the one that fails, or none. -/
def State.commitCheck (s : State) (q : Nat) (ws : List TWord) : Option (BitVec 8) :=
  let w (i : Nat) : Word := (ws.getD i {}).val
  let win := fld (w 0) 1 0
  let a := (w 4).toNat
  let n := (w 5).toNat
  if !commitTags ws then some St.tagMismatch
  else if fld (w 0) 7 2 ≠ 0 ∨ fld (w 0) 15 9 ≠ 0 ∨ fld (w 0) 63 24 ≠ 0 ∨ win = 3
      ∨ !St.all.contains (BitVec.ofNat 8 (fld (w 0) 23 16)) ∨ (w 2 ≠ 0 ∧ win ≠ 2) ∨ 4032 < n ∨ !s.mapped q a n then
    some St.invalidField
  else if !s.noTags q a n [Tag.sealedW, Tag.poison] then some St.tagMismatch
  else if win = 1 ∧ (rcptPart (w 1) ≠ q ∨ 0x7F < rcptSource (w 1)) then some St.invalidField
  else if win = 2 ∧ (s.pwin q (w 2) (rcptSource (w 1))).isNone then some St.invalidField
  else none

/-- How the window answers a commit (R346): stale, already committed with a JSN, or not. -/
def State.commitWin (s : State) (q win : Nat) (dom receipt : Word) : Option (BitVec 8 × Nat) :=
  let seq := rcptSeq receipt
  if win = 1 then
    let w := s.win q (rcptSource receipt)
    match w.outs.find seq with
    | some (.done _ _ _ _ true j) => some (St.replayed, j.toNat)
    | _ => if staleSeq w.high seq then some (St.staleReceipt, 0) else none
  else if win = 2 then
    match s.pwin q dom (rcptSource receipt) with
    | some w => match w.outs.find seq with
      | some (.done _ _ _ _ true j) => some (St.replayed, j.toNat)
      | _ => if staleSeq w.high seq then some (St.staleReceipt, 0) else none
    | none => none
  else none

/-- JCOMMIT completes at its processor (R345). -/
def State.endCommit (s : State) (c : Nat) : State := s.setProc c { (s.proc c) with inCommit := false }

/-- The commit at the front leaves the wait. -/
def State.popCommit (s : State) (r : CommitReq) (t : List CommitReq) : State :=
  ({ s with jrn := { s.jrn with commits := t } }).endCommit r.to_.core

/-- Stage the commit at the front (R345, R346): nothing without room, when the wait is counted. -/
def State.stageCommit (s : State) (r : CommitReq) (t : List CommitReq) : State :=
  let q := r.to_.part
  let a := r.to_.addr
  if a % 8 ≠ 0 ∨ !s.mapped q a 64 then (s.popCommit r t).eventOne r.to_.core evCommit
  else
    let ws := s.rangeWords q a 64
    let w (i : Nat) : Word := (ws.getD i {}).val
    let to_ := { r.to_ with noEvent := (w 0).getLsbD 8 }
    match s.commitCheck q ws with
    | some st => (s.popCommit r t).writeAck to_ st false false 0
    | none =>
      let win := fld (w 0) 1 0
      match s.commitWin q win (w 2) (w 1) with
      | some (st, j) => (s.popCommit r t).writeAck to_ st false (st == St.replayed) j
      | none =>
        if !s.commitRoom (w 5).toNat then
          if r.counted then s
          else ({ s with jrn := { s.jrn with commits := { r with counted := true } :: t } }).raise 100 0
        else
          let rec_ : JRec :=
            { receipt := w 1, domain := if w 2 = 0 then s.rd (aPart q 0x50) else w 2, kind := 1
              window := BitVec.ofNat 8 win, status := BitVec.ofNat 8 (fld (w 0) 23 16)
              context := BitVec.ofNat 8 q, result := w 3, payload := s.readBytes q (w 4).toNat (w 5).toNat }
          let jsn := s.rd (aJrn 0x10)
          let s := (s.popCommit r t).stage { r := rec_, ack := some to_ }
          s.markCommitted q { rec_ with jsn := jsn }

/-- COMMIT_STAGE: stage the commit that has waited longest; with none waiting, an outcome record that found no room
(R331, R345). -/
def State.opCommitStage (s : State) : State :=
  if !s.mayStage then s
  else match s.jrn.commits with
    | r :: t => s.stageCommit r t
    | [] =>
      match (s.xtWhere fun e => e.state == .done && !e.inbound && e.xtype == 2 && e.ctx != 0
          && e.outcome.isNone).head? with
      | some x => if s.commitRoom 0 then s.stageOutcome x else s
      | none => s

/-! ## Strongroom (R352, R358, R365) -/

/-- STR_ERR: a block's offset, which the model does not track (log entry 1), and a cause. -/
def State.strErr (s : State) (cause : Nat) : State :=
  let (b, s) := s.draw
  s.wr 0x1200008 (BitVec.ofNat 64 (fld b 27 8 * 256 + cause * 2 ^ 28))

/-- STRONGROOM_WRITE_DONE: the local write of a record ends, after a rewrite to a spare block if `remap`; if that fails
too, the record stays unwritten (R352, R365). The Ledger hashes it, and what is durable now is acknowledged. -/
def State.opStrongroomWriteDone (jsn : Word) (remap fail : Bool) (s : State) : State :=
  match s.jrn.ring.find? fun e => e.r.jsn = jsn ∧ !e.written with
  | none => s
  | some _ =>
    let remap := remap || s.forced 98 0
    let fail := fail || s.forced 99 0
    let s := if remap || fail then
        let left := s.rf 0x1200000 12 0 - 1
        let s := ((s.strErr (if fail then 3 else 2)).wf 0x1200000 12 0 left).report 98 0
        if left = 1023 then s.raise 98 1 else s
      else s
    if fail then s.report 99 0
    else
      let ring := s.jrn.ring.map fun (e : JEnt) => if e.r.jsn = jsn then { e with written := true } else e
      ({ s with jrn := { s.jrn with ring := ring } }).ledger.ackAll.freeJournal

/-! ## Destaging (R354) -/

/-- A record padded to a multiple of 8 bytes. -/
def padRec (r : JRec) : Bytes :=
  let b := recBytes r
  b ++ List.replicate ((8 - b.length % 8) % 8) 0

/-- Records of a batch: from the front until the raw length reaches a limit. -/
def takeBatch (limit : Nat) : Nat → List JEnt → List JRec
  | _, [] => []
  | n, e :: t =>
    if limit ≤ n then [] else e.r :: takeBatch limit (n + (padRec e.r).length) t

/-- Contents of a batch header (R354). -/
def batchHead (comp : Bool) (b : Batch) : Bytes :=
  leBytes 4 0x46504A42 ++ leBytes 2 1 ++ leBytes 2 (b2n comp) ++ leBytes 8 b.firstJsn.toNat
    ++ leBytes 8 b.lastJsn.toNat ++ leBytes 4 b.rawLen ++ leBytes 4 b.count

/-- A compression engine is present and online. -/
def State.ceOnline (s : State) (e : Nat) : Bool := decide (e < if s.fuse.small then 4 else 8) && !s.rb (0xB00000 + 8 * e) 1

/-- The mirrored records that a takeover left to this module to destage and that no batch holds yet (R379). -/
def State.adopted (s : State) : List JEnt :=
  match s.dpx.adopt with
  | some j => (s.dpx.mirror.filter fun e => j.toNat ≤ e.r.jsn.toNat).map fun e => { r := e.r, written := true }
  | none => []

/-- The written records of this module from the batch under collection on. -/
def State.unbatched (s : State) : List JEnt :=
  let first := match s.jrn.batch with
    | some b => b.firstJsn.toNat
    | none => 0
  (s.jrn.ring.filter fun e => first ≤ e.r.jsn.toNat).takeWhile (·.written)

/-- BATCH_TIMER: the batch of written records closes at BATCH_KIB of raw bytes or 1 ms after its first record, and is
sent as a COMMIT exchange of context 0 in entry x, compressed on engine `ce`, or raw when no engine is online. After a
takeover the partner's mirrored records go first, in batches of their own (R379; log entry 46). -/
def State.opBatchTimer (x : Nat) (ce : Option Nat) (s : State) : State :=
  let partner := !s.adopted.isEmpty
  let limit := s.rf (aJrn 0) 28 16 * 1024
  let recs := takeBatch limit 0 (if partner then s.adopted else s.unbatched)
  let raw := recs.flatMap padRec
  let engineOk := match ce with
    | some e => s.ceOnline e
    | none => (List.range 8).all fun e => !s.ceOnline e
  match recs.head?, recs.getLast? with
  | some a, some z =>
    let due := decide (limit ≤ raw.length) || decide (a.stamp.toNat + 400000 ≤ s.time.toNat)
    let g := s.rf (aJrn 0) 9 1
    if !s.rb (aJrn 0) 0 || !due || !engineOk || !s.mayStage || (s.xt x).state != .free || !s.admitXt 0
        || s.pgOwner g != 0 || fld (s.pgCfg g) 7 0 == 0 then s
    else
      let b : Batch := { number := s.jrn.batchNo, firstJsn := a.jsn, lastJsn := z.jsn, rawLen := raw.length
                         count := recs.length, xent := some x, partner := partner }
      let (wlog, s) := if ce.isSome then s.draw else (0, s)
      let body := if ce.isSome then Config.compress 3 1 wlog.toNat true raw else raw
      let j := { s.jrn with sent := s.jrn.sent ++ [b], batchNo := s.jrn.batchNo + 1
                            batch := if partner then s.jrn.batch else some { firstJsn := z.jsn + 1 } }
      let d := { s.dpx with adopt := if partner then some (z.jsn + 1) else s.dpx.adopt }
      let receipt := BitVec.ofNat 64 (0x100 * 2 ^ 48 + b.number % 2 ^ 48)
      State.xStart0 { s with jrn := j, dpx := d } x 2 g receipt b.firstJsn (batchHead ce.isSome b ++ body) 0
  | _, _ => s

/-! ## EPOCH_SYNC (R359) -/

/-- The Ledger takes edges and decides boundaries. -/
def State.ledgerRuns (s : State) : Bool := s.jrn.running && !s.hibernating && s.flt.reset.isNone

/-- NOSYNC_RUN and SYNC_LOST cleared. -/
def State.syncFound (s : State) : State := s.wf (aJrn 0x108) 6 1 0

/-- EPOCH_SYNC_EDGE: an edge reaches the Ledger at tick t and names boundary t − 3. -/
def State.opEpochSyncEdge (s : State) : State :=
  if !s.ledgerRuns || !s.rb (aJrn 0x100) 29 then s
  else
    let b := s.time - 3
    let w := s.jrn.len.toNat / 8
    let n := s.jrn.nominal.toNat
    let again := match s.jrn.accepted with
      | some e => decide (b.toNat ≤ e.toNat)
      | none => false
    if again then (s.satField (aJrn 0x120) 63 32).raise 241 0
    else if n ≤ b.toNat + w ∧ b.toNat ≤ n + w then
      let close := BitVec.ofNat 64 (n + w)
      let s := s.endEpoch b close false true false
      ({ s with jrn := { s.jrn with accepted := some close } }).syncFound.ledger
    else (s.satField (aJrn 0x120) 31 0).raise 240 0

/-- SYNC_EN. -/
def State.syncEn (s : State) : Bool := s.rb (aJrn 0x100) 29

/-- The tick of the no-edge decision (R359): N + W + 3, and N itself while SYNC_EN is clear. -/
def State.decisionAt (s : State) : Nat :=
  s.jrn.nominal.toNat + if s.syncEn then s.jrn.len.toNat / 8 + 3 else 0

/-- The epoch ends at its N without an accepted edge (R359); R362's limit runs from its window's end while SYNC_EN is
set. -/
def State.nominalEnd (s : State) : State :=
  let n := s.jrn.nominal
  let due := if s.syncEn then n + BitVec.ofNat 64 (s.jrn.len.toNat / 8) else n
  let s := s.endEpoch n due false false false
  if s.syncEn then
    let run := satInc (s.rf (aJrn 0x108) 6 2) 31
    let s := s.wf (aJrn 0x108) 6 2 run
    if run = 16 then (s.wb (aJrn 0x108) 1 true).raise 242 0 else s
  else s.syncFound

/-- EPOCH_DECISION: without an accepted edge by tick N + W + 3 the epoch ends at N; so it does at N while SYNC_EN is
clear. -/
def State.opEpochDecision (s : State) : State :=
  if !s.ledgerRuns || decide (s.time.toNat < s.decisionAt) then s
  else s.nominalEnd.ledger

/-! ## Rebuilding Receipt windows (R355) -/

/-- Apply one record to the windows of partition q: committed, high-water raised; SAG_RESUMED for a Receipt whose work
order a Hibernate image restored. -/
def State.applyRec (s : State) (q : Nat) (r : JRec) : State :=
  let s := if r.window = 2 then
      match s.openPwin q r.domain (rcptSource r.receipt) with
      | some (_, s) => s
      | none => s
    else s
  let s := s.markCommitted q r
  if r.window = 1 ∧ s.host.wo.any (fun t => t.2.sagResumed && t.2.part == q && t.2.desc.receipt == r.receipt) then
    let w := s.win q (rcptSource r.receipt)
    match w.outs.find (rcptSeq r.receipt) with
    | some (.done st res so _ c j) =>
      s.setWin q (rcptSource r.receipt) { w with outs := w.outs.set (rcptSeq r.receipt) (.done st res so true c j) }
    | _ => s
  else s

/-- Apply the COMMIT records of partition q in a list, in its order. -/
def State.applyRecs (s : State) (q : Nat) (rs : List JRec) : State :=
  (rs.filter fun r => r.kind = 1 ∧ (r.window = 1 ∨ r.window = 2) ∧ r.context.toNat = q).foldl
    (fun s r => s.applyRec q r) s

/-- Mark LOSSY every window of partition q. -/
def State.markLossy (s : State) (q : Nat) : State :=
  let s := (List.range 128).foldl (fun s src => s.setWin q src { (s.win q src) with lossy := true }) s
  { s with xchg := { s.xchg with pwins := s.xchg.pwins.set q ((s.xchg.pwins.get [] q).map fun w =>
      { w with lossy := true }) } }

/-- First tick of the span of a rebuild (R355). -/
def State.rebuildFrom (s : State) : Nat := s.boot.ref.toNat - s.rf (aJrn 0) 47 32 * 400000000

/-- RECEIPT_WINDOW_REBUILD: before a restored partition restarts, its windows are built from the records of the span:
`recs` read back from destaged batches, then those of the ring. `gaps` blocks or batches could not be read. -/
def State.opRebuild (q : Nat) (recs : List JRec) (gaps : Nat) (s : State) : State :=
  if q = 0 ∨ 63 < q ∨ s.partState q = 2 ∨ !s.boot.booting then s
  else
    let own := s.jrn.ring.map (·.r)
    let first := match own.head? with
      | some r => r.jsn.toNat
      | none => 2 ^ 64
    let all := (recs.filter fun r => r.jsn.toNat < first) ++ own
    let s := s.applyRecs q (all.filter fun r => s.rebuildFrom ≤ r.stamp.toNat)
    let s := (List.range gaps).foldl (fun s _ => s.raise 245 0) s
    if gaps = 0 then s else s.markLossy q

/-- LOSSY_END: REBUILD_S seconds of operation have passed since admission opened after the rebuild. -/
def State.opLossyEnd (s : State) : State :=
  match s.jrn.lossyFrom with
  | some t =>
    if t.toNat + s.rf (aJrn 0) 47 32 * 400000000 ≤ s.time.toNat then
      { s with
        host := { s.host with wins := s.host.wins.vmap fun w => { w with lossy := false } }
        xchg := { s.xchg with pwins := s.xchg.pwins.vmap fun ws => ws.map fun w => { w with lossy := false } }
        jrn := { s.jrn with lossyFrom := none } }
    else s
  | none => s

/-- Some window is LOSSY. -/
def State.anyLossy (s : State) : Bool :=
  s.host.wins.any (fun t => t.2.lossy) || s.xchg.pwins.any (fun t => t.2.any (·.lossy))

/-! ## Reading the Ledger anchors (R364) -/

/-- Load the 256 bytes at an offset of the anchors into LDG_READ_DATA. The spec does not lay the region out, so its bytes
are an uninterpreted function of the seals and the change-stream ring (log entry 5). -/
def State.ldgLoad (s : State) (off : Nat) : State :=
  let b := Config.anchors ((s.jrn.seals ++ s.dpx.partnerSeals).map sealBytes) (s.jrn.changeRing.map recBytes) (off / 256 * 256)
  (List.range 32).foldl (fun s i => s.wr (aJrn (0x200 + 8 * i)) (BitVec.ofNat 64 (ofLe (slice b (8 * i) 8)))) s

/-- LDG_READ: a write of LDG_READ. -/
def State.opLdgRead (w : Writer) (v : Word) (be : Byte) (s : State) : State :=
  s.mgmt w (aJrn 0x180) v be fun s =>
    let s := s.applyRw (aJrn 0x180) v be
    s.ldgLoad (s.rf (aJrn 0x180) 24 0)

end Sys2Proof.Machine
end

