-- ==== Sys2Proof/Machine/CryOps.lean ====
section
/-!
DEFINITION. The crypto complex (11_crypto_complex.md): the Key Vault and its handles, the checks of a request, its
cost, what an engine computes, completions, engine errors, random numbers and the erasure of keys.
-/
namespace Sys2Proof.Machine

/-! ## Key Vault (R257–R261) -/

/-- Key of a vault record. -/
def vKey (dom idx : Nat) : Nat := dom * 16384 + idx

/-- A handle (R257). -/
def mkHandle (dom idx : Nat) (gen : BitVec 32) : Word := BitVec.ofNat 64 (idx + dom * 2 ^ 14 + gen.toNat * 2 ^ 24)

/-- The record that a handle value names in a domain (R259, reason 2). -/
def State.vFind (s : State) (dom : Nat) (h : Word) : Option VRec :=
  match s.cry.vault.find (vKey dom (fld h 13 0)) with
  | some r => if r.gen.toNat = fld h 55 24 ∧ !r.destroying ∧ fld h 23 20 = 0 ∧ fld h 63 56 = 0 then some r else none
  | none => none

/-- Records that a domain holds. -/
def State.vCount (s : State) (dom : Nat) : Nat := (s.cry.vault.filter fun t => t.1 / 16384 = dom).length

/-- Granules of the records that satisfy a test. -/
def State.vGranules (s : State) (f : Nat → Bool) : Nat :=
  ((s.cry.vault.filter fun t => f t.1).map fun t => Config.granules t.2.material.length).sum

/-- How many keys an opcode creates (R264). -/
def cryCreates (op : Nat) : Nat :=
  if op = 0x13 ∨ op = 0x16 ∨ op = 0x20 ∨ op = 0x24 then 2
  else if op = 0x12 ∨ op = 0x25 ∨ op = 0x26 ∨ op = 0x50 ∨ op = 0x51 ∨ op = 0x52 then 1
  else 0

/-- Records and granules that fetched requests of the partitions that satisfy a test will create (log entry 28). -/
def State.vReserved (s : State) (f : Nat → Bool) : Nat × Nat :=
  let rs := s.cry.reqs.filter fun t => f t.2.part && t.2.stage != .durable
  let op (r : Req) : Nat := fld (r.words.getD 0 {}).val 7 0
  ((rs.map fun t => cryCreates (op t.2)).sum,
   (rs.map fun t => if cryCreates (op t.2) = 0 then 0 else
      Config.needGranules (op t.2) (fld (t.2.words.getD 0 {}).val 15 8) (t.2.words.getD 5 {}).val.toNat).sum)

/-- Quota and room for `n` new records of `g` granules in a domain: reason 6 or 7 of R259. -/
def State.vRoom (s : State) (dom n g : Nat) : Option Nat :=
  let quota := s.rd (aCry (0x800 + 8 * dom))
  let (rn, rg) := s.vReserved (· == dom)
  let (an, ag) := s.vReserved fun _ => true
  if fld quota 14 0 < s.vCount dom + rn + n ∨ fld quota 49 32 < s.vGranules (fun k => k / 16384 == dom) + rg + g then
    some 6
  else if 65536 < s.cry.vault.length + an + n ∨ 16384 < s.vCount dom + rn + n
      ∨ 131072 < s.vGranules (fun _ => true) + ag + g then some 7
  else none

/-- An unused index of a domain: the module's choice among them (log entry 1). -/
def State.vIndex (s : State) (dom : Nat) : Nat × State :=
  let (w, s) := s.draw
  let i := fld w 13 0
  match (List.range 16384).find? fun k => (s.cry.vault.find (vKey dom ((i + k) % 16384))).isNone with
  | some k => ((i + k) % 16384, s)
  | none => (i, s)

/-- Key check value (R258). -/
def kcvOf (ty param : Nat) (mat : Bytes) : Word :=
  BitVec.ofNat 64 (ofLe (
    if ty = 1 then (Config.cmac mat (List.replicate 16 0)).take 5
    else if ty = 2 then (Config.cipher 2 1 true mat [] [] (List.replicate 8 0)).take 3
    else if ty = 0x10 ∨ ty = 0x12 ∨ ty = 0x14 ∨ ty = 0x20 ∨ ty = 0x22 then
      (Config.hash 1 32 (Config.publicOf ty param mat)).take 8
    else (Config.hash 1 32 mat).take 8))

/-- The VOLATILE bit of USAGE. -/
def isVolatile (r : VRec) : Bool := r.usage.getLsbD 13

/-- Attributes of a record as KEY_INFO returns them: 64 bytes, the material left out (R258). -/
def infoBytes (h : Word) (r : VRec) : Bytes :=
  [r.type_, r.param] ++ leBytes 2 r.usage.toNat ++ leBytes 4 r.material.length ++ leBytes 8 h.toNat
    ++ leBytes 8 r.label.toNat ++ leBytes 8 r.kcv.toNat ++ leBytes 8 r.created.toNat ++ List.replicate 24 0

/-- A change of a record on its way to durability (R260): the backup write begins and the partner is told. -/
def State.vChange (s : State) (dom idx : Nat) (r : Option VRec) (why : VFor) : State :=
  let (n, s) := s.mirror dom (.vault dom idx r)
  { s with cry := { s.cry with changes := s.cry.changes ++ [{ dom := dom, index := idx, rec_ := r, why := why, msn := n }] } }

/-- Create a key in a domain: index, generation, record, and the change that makes it durable unless it is VOLATILE
(R257, R260). Answers its handle. -/
def State.vCreate (s : State) (dom : Nat) (r : VRec) (why : VFor) : Word × State :=
  let (idx, s) := s.vIndex dom
  let k := vKey dom idx
  let gen := s.cry.gens.get 1 k
  let r := { r with gen := gen, created := s.time, kcv := kcvOf r.type_.toNat r.param.toNat r.material }
  let s := { s with cry := { s.cry with vault := s.cry.vault.set k r, gens := s.cry.gens.set k (gen + 1) } }
  (mkHandle dom idx gen, if isVolatile r then s else s.vChange dom idx (some r) why)

/-- Mark a record DESTROYING, and note what its erasure completes (R261). -/
def State.vDestroy (s : State) (dom idx : Nat) (why : VFor) : State :=
  match s.cry.vault.find (vKey dom idx) with
  | some r => { s with cry := { s.cry with
      vault := s.cry.vault.set (vKey dom idx) { r with destroying := true }
      erasing := s.cry.erasing.set (vKey dom idx) why } }
  | none => s

/-! ## Requests (R263, R264) -/

/-- A word of a request. -/
def rqWord (r : Req) (i : Nat) : Word := (r.words.getD i {}).val
/-- A tag of a request. -/
def rqTag (r : Req) (i : Nat) : Tag := (r.words.getD i {}).tag
/-- OPCODE. -/
def rqOp (r : Req) : Nat := fld (rqWord r 0) 7 0
/-- VARIANT. -/
def rqVar (r : Req) : Nat := fld (rqWord r 0) 15 8
/-- IN. -/
def rqIn (r : Req) : Nat × Nat := ((rqWord r 4).toNat, (rqWord r 5).toNat)
/-- OUT. -/
def rqOut (r : Req) : Nat × Nat := ((rqWord r 6).toNat, (rqWord r 7).toNat)
/-- AUX. -/
def rqAux (r : Req) : Nat × Nat := ((rqWord r 8).toNat, (rqWord r 9).toNat)
/-- PARAM[i]. -/
def rqParam (r : Req) (i : Nat) : Word := rqWord r (10 + i)

/-- Class of an opcode (R264): 0 public-key engine, 1 lattice engine, 2 lane, 3 vault, 4 hybrid, 9 no opcode. -/
def cryClass (op : Nat) : Nat :=
  if (0x10 ≤ op ∧ op ≤ 0x16) ∨ (0x18 ≤ op ∧ op ≤ 0x1B) then 0
  else if (0x20 ≤ op ∧ op ≤ 0x22) ∨ (0x24 ≤ op ∧ op ≤ 0x26) then 1
  else if op = 0x28 ∨ op = 0x29 then 4
  else if (0x30 ≤ op ∧ op ≤ 0x35) ∨ op = 0x38 ∨ (0x3A ≤ op ∧ op ≤ 0x40) ∨ (0x50 ≤ op ∧ op ≤ 0x53) ∨ op = 0x60 then 2
  else if 0x54 ≤ op ∧ op ≤ 0x57 then 3
  else 9

/-- The request takes a context string (R265). -/
def takesCtx (op : Nat) : Bool := op == 0x21 || op == 0x22 || op == 0x28 || op == 0x29

/-- Address and length of the context string. -/
def rqCtx (r : Req) : Nat × Nat :=
  if takesCtx (rqOp r) then ((rqParam r 2).toNat, (rqParam r 3).toNat) else (0, 0)

/-- Word tags as R263 and R265 give them, KEY0 and KEY1 apart, where only POISON counts here (R281). -/
def cryTags (r : Req) : Bool :=
  (List.range 16).all fun i =>
    ((i == 2 || i == 3) && rqTag r i != Tag.poison) || rqTag r i == Tag.untyped
      || ((i == 4 || i == 6 || i == 8 || (i == 12 && takesCtx (rqOp r))) && rqTag r i == Tag.pointer)

/-- VARIANT lies in the lists of R263, and the parameters that code a choice lie in range. -/
def cryVarOk (r : Req) : Bool :=
  let op := rqOp r
  let lo := rqVar r % 16
  let hi := rqVar r / 16
  if op = 0x10 ∨ op = 0x11 then 1 ≤ lo && lo ≤ 3 && hi ≤ 6
  else if op = 0x12 ∨ op = 0x13 then 1 ≤ lo && lo ≤ 3 && hi == 0
  else if 0x14 ≤ op ∧ op ≤ 0x16 then lo == 4 && hi == 0
  else if op = 0x18 ∨ op = 0x19 then 1 ≤ lo && lo ≤ 2 && hi ≤ 6
  else if op = 0x1A ∨ op = 0x1B then lo == 3 && 1 ≤ hi && hi ≤ 6
  else if 0x20 ≤ op ∧ op ≤ 0x26 then 1 ≤ lo && lo ≤ 3 && hi == 0
      && (!takesCtx op || decide ((rqParam r 3).toNat < 256))
  else if op = 0x28 ∨ op = 0x29 then rqVar r == 0 && decide ((rqParam r 3).toNat < 256)
  else if op = 0x30 ∨ op = 0x31 then 1 ≤ lo && lo ≤ 4 && hi == 0
  else if op = 0x32 ∨ op = 0x33 then
    rqVar r == 0 && decide (12 ≤ fld (rqParam r 2) 4 0) && decide (fld (rqParam r 2) 4 0 ≤ 16)
  else if op = 0x34 ∨ op = 0x35 then 1 ≤ lo && lo ≤ 2 && hi == 0
  else if op = 0x38 then 1 ≤ lo && lo ≤ 8 && hi == 0
  else if op = 0x3A ∨ op = 0x3B then 1 ≤ lo && lo ≤ 6 && hi == 0
  else if op = 0x3C ∨ op = 0x3D then
    rqVar r == 0 && decide (4 ≤ fld (rqParam r 2) 4 0) && decide (fld (rqParam r 2) 4 0 ≤ 16)
  else if op = 0x3E ∨ op = 0x3F then
    rqVar r == 0 && decide (1 ≤ fld (rqParam r 2) 1 0) && decide (fld (rqParam r 2) 1 0 ≤ 2)
  else if op = 0x40 then [0, 1, 3, 4].contains lo && [0, 1, 3, 4].contains hi
  else if op = 0x50 ∨ op = 0x51 then
    let ty := fld (rqParam r 1) 23 16
    1 ≤ ty && ty ≤ 3 && (Config.keyLen ty (rqVar r)).isSome
  else if op = 0x60 then rqVar r < 2
  else rqVar r == 0

/-- A key that an opcode uses: allowed TYPEs, PARAM, USAGE bits required, material lengths (none: any). -/
structure KReq where
  types : List Nat := []
  param : Option Nat := none
  usage : Option Nat := none
  lens : List Nat := []
deriving DecidableEq, Repr

/-- The key type that a PIN format needs (R271). -/
def pinType (f : Nat) : Nat := if f = 4 then 1 else 2

/-- KEY0 and KEY1 of an opcode (R264). -/
def cryKeys (op var : Nat) : Option KReq × Option KReq :=
  let p := some (var % 16)
  match op with
  | 0x10 => (some ⟨[0x10], p, some 0, []⟩, none)
  | 0x11 => (some ⟨[0x11], p, some 1, []⟩, none)
  | 0x12 => (some ⟨[0x10], p, some 11, []⟩, none)
  | 0x14 => (some ⟨[0x12], p, some 0, []⟩, none)
  | 0x15 => (some ⟨[0x13], p, some 1, []⟩, none)
  | 0x18 => (some ⟨[0x14], none, some 0, []⟩, none)
  | 0x19 => (some ⟨[0x15], none, some 1, []⟩, none)
  | 0x1A => (some ⟨[0x15], none, some 2, []⟩, none)
  | 0x1B => (some ⟨[0x14], none, some 3, []⟩, none)
  | 0x21 => (some ⟨[0x20], p, some 0, []⟩, none)
  | 0x22 => (some ⟨[0x21], p, some 1, []⟩, none)
  | 0x25 => (some ⟨[0x23], p, some 2, []⟩, none)
  | 0x26 => (some ⟨[0x22], p, some 3, []⟩, none)
  | 0x28 => (some ⟨[0x10], some 2, some 0, []⟩, some ⟨[0x20], some 2, some 0, []⟩)
  | 0x29 => (some ⟨[0x11], some 2, some 1, []⟩, some ⟨[0x21], some 2, some 1, []⟩)
  | 0x30 => (some ⟨[1], none, some 2, []⟩, if var % 16 = 4 then some ⟨[1], none, some 2, []⟩ else none)
  | 0x31 => (some ⟨[1], none, some 3, []⟩, if var % 16 = 4 then some ⟨[1], none, some 3, []⟩ else none)
  | 0x32 => (some ⟨[1], none, some 2, []⟩, none)
  | 0x33 => (some ⟨[1], none, some 3, []⟩, none)
  | 0x34 => (some ⟨[2], none, some 2, []⟩, none)
  | 0x35 => (some ⟨[2], none, some 3, []⟩, none)
  | 0x3A => (some ⟨[3], none, some 7, []⟩, none)
  | 0x3B => (some ⟨[3], none, some 8, []⟩, none)
  | 0x3C => (some ⟨[1], none, some 7, []⟩, none)
  | 0x3D => (some ⟨[1], none, some 8, []⟩, none)
  | 0x3E => (some ⟨[2], none, some 7, [16]⟩, none)
  | 0x3F => (some ⟨[2], none, some 8, [16]⟩, none)
  | 0x40 => (some ⟨[pinType (var % 16)], none, some 9, []⟩, some ⟨[pinType (var / 16)], none, some 10, []⟩)
  | 0x51 => (some ⟨[1, 3], none, some 6, []⟩, none)
  | 0x52 => (some ⟨[1, 2], none, some 5, []⟩, none)
  | 0x53 => (some ⟨[1], none, some 4, []⟩, some {})
  | 0x54 => (some {}, none)
  | 0x55 => (some {}, none)
  | 0x57 => (some ⟨[0x10, 0x11, 0x12, 0x13, 0x14, 0x15, 0x20, 0x21, 0x22, 0x23], none, none, []⟩, none)
  | _ => (none, none)

/-- The check of one key field (R259): the status and reason of the first failure, or none. -/
def State.keyCheck (s : State) (q : Nat) (w : TWord) (k : Option KReq) (export_ : Bool) : Option (BitVec 8 × Nat) :=
  match k with
  | none => if w.val = 0 ∧ w.tag = Tag.untyped then none else some (St.invalidField, 0)
  | some k =>
    if w.tag ≠ Tag.sealedW then some (St.tagMismatch, 0)
    else if fld w.val 19 14 ≠ q then some (St.keyDenied, 1)
    else match s.vFind q w.val with
      | none => some (St.keyDenied, 2)
      | some r =>
        let tyOk := (k.types.isEmpty || k.types.contains r.type_.toNat)
          && (match k.param with | some p => r.param.toNat == p | none => true)
          && (k.lens.isEmpty || k.lens.contains r.material.length)
          && !(k.types == [1, 3] && r.type_ == 1 && r.material.length != 32)
        if !tyOk then some (St.keyDenied, 3)
        else if (match k.usage with | some u => !r.usage.getLsbD u | none => false) then some (St.keyDenied, 4)
        else if export_ ∧ !r.usage.getLsbD 12 then some (St.keyDenied, 5)
        else none

/-- Material of the key that a field names. -/
def State.keyRec (s : State) (q : Nat) (w : Word) : VRec :=
  match s.cry.vault.find (vKey q (fld w 13 0)) with
  | some r => r
  | none => default

/-- Field length of a curve. -/
def curveLen (c : Nat) : Nat := if c = 1 then 32 else if c = 2 then 48 else 66
/-- Digest length of a hash code. -/
def hashLen (h : Nat) : Nat := if h = 1 ∨ h = 4 then 32 else if h = 2 ∨ h = 5 then 48 else 64
/-- ML-DSA signature length. -/
def mldsaLen (p : Nat) : Nat := if p = 1 then 2420 else if p = 2 then 3309 else 4627
/-- ML-KEM ciphertext length. -/
def mlkemLen (p : Nat) : Nat := if p = 1 then 768 else if p = 2 then 1088 else 1568
/-- PIN block length of a format. -/
def pinLen (f : Nat) : Nat := if f = 4 then 16 else 8

/-- Output length of a request, where it is known before it runs. -/
def State.cryOutLen (s : State) (r : Req) : Option Nat :=
  let op := rqOp r
  let v := rqVar r
  let n := (rqIn r).2
  if op = 0x10 then some (2 * curveLen (v % 16))
  else if op = 0x14 then some 64
  else if op = 0x13 ∨ op = 0x16 ∨ op = 0x20 ∨ op = 0x24 then some 16
  else if op = 0x12 ∨ op = 0x26 ∨ op = 0x50 ∨ op = 0x51 ∨ op = 0x52 ∨ op = 0x56 then some 8
  else if op = 0x18 ∨ op = 0x1A then some (Config.rsaLen (s.keyRec r.part (rqWord r 2)).material)
  else if op = 0x1B ∨ op = 0x53 ∨ op = 0x57 then none
  else if op = 0x21 then some (mldsaLen (v % 16))
  else if op = 0x25 then some (8 + mlkemLen (v % 16))
  else if op = 0x28 then some 3405
  else if op = 0x30 ∨ op = 0x31 ∨ op = 0x34 ∨ op = 0x35 then some n
  else if op = 0x32 then some (n + fld (rqParam r 2) 4 0)
  else if op = 0x33 then some (n - fld (rqParam r 2) 4 0)
  else if op = 0x38 then some (if 7 ≤ v % 16 then (rqOut r).2 else hashLen (v % 16))
  else if op = 0x3A then some (hashLen (v % 16))
  else if op = 0x3C then some (fld (rqParam r 2) 4 0)
  else if op = 0x3E ∨ op = 0x60 then some (rqOut r).2
  else if op = 0x40 then some (pinLen (v / 16))
  else if op = 0x55 then some 64
  else some 0

/-- Lengths and operand values that the opcode's own rules ask for (R264, R271, R273). -/
def cryShape (r : Req) : Bool :=
  let op := rqOp r
  let v := rqVar r
  let n := (rqIn r).2
  let o := (rqOut r).2
  let aligned := (cryCreates op == 0 && op != 0x56) || (rqOut r).1 % 8 == 0
  let usageOk := cryCreates op == 0 || fld (rqParam r 1) 15 14 == 0
  aligned && usageOk &&
    (if op = 0x12 then (rqAux r).2 == 1 + 2 * curveLen (v % 16)
     else if op = 0x26 then n == mlkemLen (v % 16)
     else if op = 0x30 ∨ op = 0x31 then
       if v % 16 = 1 ∨ v % 16 = 2 then n % 16 == 0 else if v % 16 = 4 then decide (16 ≤ n) else true
     else if op = 0x33 then decide (fld (rqParam r 2) 4 0 ≤ n)
     else if op = 0x34 ∨ op = 0x35 then n % 8 == 0
     else if op = 0x3E then decide (4 ≤ o) && decide (o ≤ 8)
     else if op = 0x40 then
       let fi := v % 16
       let fo := v / 16
       let bound := fi != 1 || fo != 1
       let pl := (rqParam r 3).toNat
       let pan := (leBytes 8 (rqParam r 0).toNat ++ leBytes 8 (rqParam r 1).toNat ++ leBytes 8 (rqParam r 2).toNat).take pl
       !(fi != 1 && fo == 1) && n == pinLen fi
         && (if bound then decide (12 ≤ pl) && decide (pl ≤ 19)
                && pan.all (fun b => decide (0x30 ≤ b.toNat) && decide (b.toNat ≤ 0x39)) else pl == 0)
     else if op = 0x52 then decide (n ≤ 16384)
     else if op = 0x60 then decide (1 ≤ o) && decide (o ≤ 4096)
     else true)

/-- Length of the second input that a verify request takes; a wrong one fails without an engine (R281). -/
def State.verifyLenOk (s : State) (r : Req) : Bool :=
  let op := rqOp r
  let v := rqVar r
  let a := (rqAux r).2
  if op = 0x11 then a == 2 * curveLen (v % 16)
  else if op = 0x15 then a == 64
  else if op = 0x19 then a == Config.rsaLen (s.keyRec r.part (rqWord r 2)).material
  else if op = 0x22 then a == mldsaLen (v % 16)
  else if op = 0x29 then a == 3405
  else if op = 0x3B then a == hashLen (v % 16)
  else if op = 0x3D then a == fld (rqParam r 2) 4 0
  else if op = 0x3F then decide (4 ≤ a) && decide (a ≤ 8)
  else true

/-- The request needs random input (R256). -/
def needsRandom (r : Req) : Bool :=
  let op := rqOp r
  op == 0x60 || op == 0x13 || op == 0x16 || op == 0x20 || op == 0x24 || op == 0x50 || op == 0x10 || op == 0x21
    || op == 0x28 || op == 0x1A || (op == 0x18 && rqVar r % 16 == 2) || op == 0x12 || op == 0x25
    || (op == 0x40 && rqVar r / 16 != 0)

/-- Entropy source passing and DRBG instances running (CRY_RNG_STATUS.HEALTHY). -/
def State.rngOk (s : State) : Bool := s.rb (aCry 0x408) 0

/-- The whole of a request's checks (R259, R263, R264, R269, R278): the status and RESULT of the first that fails,
with OUT_LEN, or none. -/
def State.cryCheck (s : State) (r : Req) : Option (BitVec 8 × Nat × Nat) :=
  let op := rqOp r
  let q := r.part
  let ctl := rqWord r 0
  let ks := cryKeys op (rqVar r)
  let k0 := s.keyCheck q (r.words.getD 2 {}) ks.1 false
  let k1 := s.keyCheck q (r.words.getD 3 {}) ks.2 (op == 0x53)
  let (ia, il) := rqIn r
  let (oa, ol) := rqOut r
  let (xa, xl) := rqAux r
  let (ca, cl) := rqCtx r
  let bad := [Tag.sealedW, Tag.poison]
  let n := s.cryOutLen r
  if !cryTags r then some (St.tagMismatch, 0, 0)
  else if cryClass op = 9 then some (St.invalidOpcode, 0, 0)
  else if s.fuse.small ∧ 0x20 ≤ op ∧ op ≤ 0x29 then some (St.unsupported, 0, 0)
  else if !cryVarOk r ∨ fld ctl 23 19 ≠ 0 ∨ fld ctl 63 24 ≠ 0 ∨ rqWord r 15 ≠ 0
      ∨ 2 ^ 24 ≤ il ∨ 2 ^ 24 ≤ ol ∨ 2 ^ 24 ≤ xl then some (St.invalidField, 0, 0)
  else match k0 with
    | some (st, rs) => some (st, rs, 0)
    | none => match k1 with
      | some (st, rs) => some (st, rs, 0)
      | none =>
        match (if cryCreates op = 0 then none
               else s.vRoom q (cryCreates op) (Config.needGranules op (rqVar r) il)) with
        | some rs => some (St.keyDenied, rs, 0)
        | none =>
          if needsRandom r ∧ !s.rngOk then some (St.internalError, 0, 0)
          else if !cryShape r then some (St.invalidField, 0, 0)
          else if !s.noTags q ia il bad ∨ !s.noTags q xa xl bad ∨ !s.noTags q ca cl bad
              ∨ !s.noTags q oa (min (n.getD ol) ol) [Tag.sealedW, Tag.code, Tag.poison] then some (St.tagMismatch, 0, 0)
          else if !s.mapped q ia il ∨ !s.mapped q oa ol ∨ !s.mapped q xa xl ∨ !s.mapped q ca cl then
            some (St.invalidField, 0, 0)
          else if (match n with | some m => decide (ol < m) | none => false) then
            some (St.bufferTooSmall, 0, n.getD 0)
          else if (!disjoint oa ol ia il ∧ !(oa = ia ∧ ol = il)) ∨ !disjoint oa ol xa xl ∨ !disjoint oa ol ca cl then
            some (St.invalidField, 0, 0)
          else if !s.verifyLenOk r then some (St.verifyFailed, 0, 0)
          else none

/-! ## Cost (R253–R255) -/

/-- Blocks of `b` bytes that `n` bytes take, a partial one counting whole. -/
def blocksOf (n b : Nat) : Nat := (n + b - 1) / b

/-- A figure by parameter set 1, 2 or 3. -/
def pick3 (p a b c : Nat) : Nat := if p = 1 then a else if p = 2 then b else c

/-- ECLK per block and block length of a hash code. -/
def hashBlk (h : Nat) : Nat × Nat :=
  if h = 1 then (64, 64) else if h = 2 ∨ h = 3 then (80, 128)
  else (24, if h = 4 ∨ h = 8 then 136 else if h = 5 then 104 else if h = 6 then 72 else 168)

/-- Engine time of a request: fixed figures; `sign` stands for an ML-DSA signature's own time, `other` for the
operations that R255 gives no figure for. -/
def State.cryCost (s : State) (r : Req) (sign other : Nat) : Nat :=
  let op := rqOp r
  let v := rqVar r
  let lo := v % 16
  let n := (rqIn r).2
  let key := (s.keyRec r.part (rqWord r 2)).material
  let rsa (a b c : Nat) : Nat := let m := Config.rsaLen key; if m ≤ 256 then a else if m ≤ 384 then b else c
  let plusL := if v / 16 = 0 then 0 else n - 1024
  if op = 0x10 then pick3 lo 4000 13500 30000 + plusL
  else if op = 0x11 then pick3 lo 8000 27000 60000 + plusL
  else if op = 0x12 ∨ op = 0x13 then pick3 lo 6000 20000 45000
  else if op = 0x14 then 3600
  else if op = 0x15 then 7200
  else if op = 0x16 then 3000
  else if op = 0x18 ∨ op = 0x1B then rsa 64000 200000 450000
  else if op = 0x19 ∨ op = 0x1A then rsa 1600 3400 5800
  else if op = 0x20 then pick3 lo 10000 15000 22000
  else if op = 0x21 then sign
  else if op = 0x22 then pick3 lo 11000 17700 27000
  else if op = 0x24 then pick3 lo 4000 6000 8500
  else if op = 0x25 then pick3 lo 5000 7000 9500
  else if op = 0x26 then pick3 lo 6000 8000 11000
  else if op = 0x28 then 13500 + (n - 1024) + sign
  else if op = 0x29 then 27000 + (n - 1024) + 17700
  else if op = 0x30 then
    40 + blocksOf n 16 * (if lo = 2 then (if key.length = 16 then 10 else 14) else 4)
  else if op = 0x31 then 40 + blocksOf n 16 * 4
  else if op = 0x32 ∨ op = 0x33 then
    60 + 4 * (blocksOf (if op = 0x32 then n else n - fld (rqParam r 2) 4 0) 16 + blocksOf (rqAux r).2 16)
  else if op = 0x34 then 40 + blocksOf n 8 * (if lo = 2 then 48 else 16)
  else if op = 0x35 then 40 + blocksOf n 8 * 16
  else if op = 0x38 then 20 + (hashBlk lo).1 * blocksOf n (hashBlk lo).2
  else if op = 0x3A ∨ op = 0x3B then 20 + 2 * (hashBlk lo).1 + (hashBlk lo).1 * blocksOf n (hashBlk lo).2
  else if op = 0x3C ∨ op = 0x3D then 40 + (if key.length = 16 then 10 else 14) * blocksOf n 16
  else if op = 0x3E ∨ op = 0x3F then 72 + 16 * blocksOf n 8
  else if op = 0x40 then 400
  else if op = 0x60 then 20 + 4 * blocksOf (rqOut r).2 16
  else other

/-! ## What an engine computes -/

/-- Result of a run: STATUS, RESULT, keys to create (their handles head the output), further output bytes. -/
structure CryRes where
  status : BitVec 8 := St.ok
  result : Word := 0
  keys : List VRec := []
  data : Bytes := []
  /-- A failed GCM_OPEN leaves zeros where its plaintext stood (R269). -/
  zero : Nat := 0

/-- A new key's record from the request's LABEL, USAGE and VOLATILE flag (R264, R265). -/
def newKey (r : Req) (ty param : BitVec 8) (mat : Bytes) (shared : Bool) : VRec :=
  let u := fld (rqParam r 1) 13 0
  let u := if shared then u % 2 ^ 12 + u / 2 ^ 13 * 2 ^ 13 else u
  let u := u % 2 ^ 13 + b2n ((rqWord r 0).getLsbD 18) * 2 ^ 13
  { type_ := ty, param := param, usage := BitVec.ofNat 16 u, material := mat, label := rqParam r 0 }

/-- A status that the spec does not state: a free value (log entry 1). -/
def freeStatus (w : Word) : BitVec 8 := w.truncate 8

/-- The result of a verification. -/
def verified (b : Bool) : CryRes := { status := if b then St.ok else St.verifyFailed }

/-- The message digest, computed by the engine unless IN holds it (R263). -/
def digestOf (h : Nat) (m : Bytes) : Bytes := if h = 0 then m else Config.hash h (hashLen h) m

/-- Run a request (R264, R271–R274): inputs read from partition memory, `rnd` random bytes, `w` a free value. -/
def State.cryRun (s : State) (r : Req) (rnd : Bytes) (w : Word) : CryRes :=
  let op := rqOp r
  let v := rqVar r
  let lo := v % 16
  let hi := v / 16
  let q := r.part
  let inb := s.readBytes q (rqIn r).1 (rqIn r).2
  let aux := s.readBytes q (rqAux r).1 (rqAux r).2
  let ctx := s.readBytes q (rqCtx r).1 (rqCtx r).2
  let k0 := s.keyRec q (rqWord r 2)
  let k1 := s.keyRec q (rqWord r 3)
  let iv := leBytes 8 (rqParam r 0).toNat ++ leBytes 8 (rqParam r 1).toNat
  let tl := fld (rqParam r 2) 4 0
  let pairOf (priv pub : BitVec 8) (p : Nat) : CryRes :=
    let m := Config.keyGen priv.toNat p rnd
    let pm := Config.publicOf priv.toNat p m
    let pb := BitVec.ofNat 8 p
    { result := kcvOf priv.toNat p m, keys := [newKey r priv pb m false, newKey r pub pb pm false] }
  let one (ty param : BitVec 8) (m : Bytes) (shared : Bool) : CryRes :=
    { result := if shared then 0 else kcvOf ty.toNat param.toNat m, keys := [newKey r ty param m shared] }
  if op = 0x10 then { data := fit (2 * curveLen lo) (Config.ecdsaSign lo k0.material (digestOf hi inb) rnd) }
  else if op = 0x11 then verified (Config.ecdsaVerify lo k0.material (digestOf hi inb) aux)
  else if op = 0x12 then
    if Config.ecPointOk lo aux then
      one 1 Config.aes256 (fit 32 (Config.ecdh lo k0.material aux
        (leBytes 8 (rqParam r 2).toNat ++ leBytes 8 (rqParam r 3).toNat))) true
    else { status := freeStatus w }
  else if op = 0x13 then pairOf 0x10 0x11 lo
  else if op = 0x14 then { data := fit 64 (Config.edSign k0.material inb) }
  else if op = 0x15 then verified (Config.edVerify k0.material inb aux)
  else if op = 0x16 then pairOf 0x12 0x13 4
  else if op = 0x18 then
    { data := fit (Config.rsaLen k0.material)
        (Config.rsaSign lo hi k0.material inb (fit (rqParam r 2).toNat rnd)) }
  else if op = 0x19 then verified (Config.rsaVerify lo hi (rqParam r 2).toNat k0.material inb aux)
  else if op = 0x1A then { data := fit (Config.rsaLen k0.material) (Config.rsaEncrypt hi k0.material inb aux rnd) }
  else if op = 0x1B then
    match Config.rsaDecrypt hi k0.material inb aux with
    | some m => { data := m }
    | none => { status := freeStatus w }
  else if op = 0x20 then pairOf 0x20 0x21 lo
  else if op = 0x21 then { data := fit (mldsaLen lo) (Config.mldsaSign lo k0.material ctx inb rnd) }
  else if op = 0x22 then verified (Config.mldsaVerify lo k0.material ctx inb aux)
  else if op = 0x24 then pairOf 0x22 0x23 lo
  else if op = 0x25 then
    let (ss, ct) := Config.mlkemEncaps lo k0.material rnd
    { one 1 Config.aes256 (fit 32 ss) true with data := fit (mlkemLen lo) ct }
  else if op = 0x26 then one 1 Config.aes256 (fit 32 (Config.mlkemDecaps lo k0.material inb)) true
  else if op = 0x28 then
    { data := fit 96 (Config.ecdsaSign 2 k0.material (sha384 inb) rnd)
        ++ fit 3309 (Config.mldsaSign 2 k1.material ctx inb rnd) }
  else if op = 0x29 then
    let a := Config.ecdsaVerify 2 k0.material (sha384 inb) (aux.take 96)
    let b := Config.mldsaVerify 2 k1.material ctx inb (aux.drop 96)
    { status := if a && b then St.ok else St.verifyFailed, result := BitVec.ofNat 64 (b2n (!a) + 2 * b2n (!b)) }
  else if op = 0x30 then { data := fit inb.length (Config.cipher 1 lo true k0.material k1.material iv inb) }
  else if op = 0x31 then { data := fit inb.length (Config.cipher 1 lo false k0.material k1.material iv inb) }
  else if op = 0x32 then
    let (c, t) := Config.gcm true k0.material (iv.take 12) aux inb
    { data := fit inb.length c ++ fit tl t }
  else if op = 0x33 then
    let body := inb.take (inb.length - tl)
    let (m, t) := Config.gcm false k0.material (iv.take 12) aux body
    if fit tl t = inb.drop (inb.length - tl) then { data := fit body.length m }
    else { status := St.verifyFailed, zero := body.length }
  else if op = 0x34 then { data := fit inb.length (Config.cipher 2 lo true k0.material [] (iv.take 8) inb) }
  else if op = 0x35 then { data := fit inb.length (Config.cipher 2 lo false k0.material [] (iv.take 8) inb) }
  else if op = 0x38 then
    let n := if 7 ≤ lo then (rqOut r).2 else hashLen lo
    { data := fit n (Config.hash lo n inb) }
  else if op = 0x3A then { data := fit (hashLen lo) (Config.hmac lo k0.material inb) }
  else if op = 0x3B then verified (decide (fit (hashLen lo) (Config.hmac lo k0.material inb) = aux))
  else if op = 0x3C then { data := fit tl (Config.cmac k0.material inb) }
  else if op = 0x3D then verified (decide (fit tl (Config.cmac k0.material inb) = aux))
  else if op = 0x3E then { data := fit (rqOut r).2 (Config.mac3 (fld (rqParam r 2) 1 0) k0.material inb) }
  else if op = 0x3F then
    verified (decide (fit aux.length (Config.mac3 (fld (rqParam r 2) 1 0) k0.material inb) = aux))
  else if op = 0x40 then
    let pan := (iv ++ leBytes 8 (rqParam r 2).toNat).take (rqParam r 3).toNat
    match Config.pinOpen lo k0.material pan inb with
    | some p => { data := fit (pinLen hi) (Config.pinSeal hi k1.material pan p rnd) }
    | none => { status := St.verifyFailed }
  else if op = 0x50 then
    let ty := fld (rqParam r 1) 23 16
    let m := fit ((Config.keyLen ty v).getD 0) rnd
    one (BitVec.ofNat 8 ty) (BitVec.ofNat 8 v) (if ty = 2 then Config.tdeaParity m else m) false
  else if op = 0x51 then
    let ty := fld (rqParam r 1) 23 16
    let n := (Config.keyLen ty v).getD 0
    let m := fit n (Config.kdf k0.type_.toNat k0.material aux n)
    one (BitVec.ofNat 8 ty) (BitVec.ofNat 8 v) (if ty = 2 then Config.tdeaParity m else m) false
  else if op = 0x52 then
    let ver := Config.blockVersion inb
    if ver ≠ 0x42 ∧ ver ≠ 0x44 then { status := St.invalidField }
    else if (ver = 0x42) ≠ (k0.type_ = 2) then { status := St.keyDenied, result := 3 }
    else match Config.unwrap k0.material inb with
      | none => { status := St.verifyFailed }
      | some (usageOk, rec_) =>
        if !usageOk then { status := St.invalidField }
        else if s.fuse.small ∧ 0x20 ≤ rec_.type_.toNat then { status := St.unsupported }
        else
          let u := rec_.usage.toNat % 2 ^ 13 + b2n ((rqWord r 0).getLsbD 18) * 2 ^ 13
          { result := kcvOf rec_.type_.toNat rec_.param.toNat rec_.material
            keys := [{ rec_ with usage := BitVec.ofNat 16 u, label := rqParam r 0, destroying := false }] }
  else if op = 0x53 then { result := k1.kcv, data := Config.wrap k0.material k1 }
  else if op = 0x60 then { data := fit (rqOut r).2 rnd }
  else {}

/-! ## Engines -/

/-- An engine is present (R251). -/
def State.cePresent (s : State) (e : Nat) : Bool := e < 112 && !(s.fuse.small && 16 ≤ e && e < 48)

/-- Class of an engine. -/
def engineClass (e : Nat) : Nat := if e < 32 then 0 else if e < 48 then 1 else 2

/-- Fault source of an engine's group (R280). -/
def engineSrc (e : Nat) : Nat :=
  if e < 32 then 112 + e / 4 else if e < 48 then 120 + (e - 32) / 4 else 124 + (e - 48) / 8

/-- An engine that may take a request. -/
def State.engineFree (s : State) (e : Nat) : Bool :=
  s.cePresent e && !s.rb (aCry (8 * e)) 1 && !s.rb (aCry (8 * e)) 2

/-- The engines that a class of request needs: `e`, and for a hybrid request also `e2`. -/
def State.enginesOk (s : State) (cls e : Nat) (e2 : Option Nat) : Bool :=
  s.engineFree e && (if cls = 4 then engineClass e == 0 && (match e2 with
      | some f => engineClass f == 1 && s.engineFree f
      | none => false)
    else engineClass e == cls)

/-- The lowest free engine of a class, beginning the search at `e`. -/
def State.freeEngine (s : State) (cls e : Nat) : Option Nat :=
  if engineClass e = cls ∧ s.engineFree e then some e
  else (List.range 112).find? fun f => engineClass f == cls && s.engineFree f

/-- The engines that a request of a class starts on: those that the command names where they are free, others of their
class where they are not, none while the class has no free engine (R252). -/
def State.pickEngines (s : State) (cls e : Nat) (e2 : Option Nat) : Option (Nat × Option Nat) :=
  if s.enginesOk cls e e2 then some (e, e2)
  else if cls = 4 then match s.freeEngine 0 e, s.freeEngine 1 (e2.getD 32) with
    | some a, some b => some (a, some b)
    | _, _ => none
  else (s.freeEngine cls e).map fun a => (a, none)

/-- BUSY and PARTITION of an engine. -/
def State.engineBusy (s : State) (e q : Nat) (b : Bool) : State :=
  (s.wb (aCry (8 * e)) 2 b).wf (aCry (8 * e)) 13 8 (if b then q else 0)

/-- A request in its slot. -/
def State.req (s : State) (k : Nat) : Req := s.cry.reqs.get {} k

/-- The state with a request replaced. -/
def State.setReq (s : State) (k : Nat) (r : Req) : State :=
  { s with cry := { s.cry with reqs := s.cry.reqs.set k r } }

/-- A request starts on its engines; later requests of its queue may now be fetched (R267). -/
def State.startReq (s : State) (k e : Nat) (e2 : Option Nat) : State :=
  let r := s.req k
  let s := s.setReq k { r with stage := .running, engine := e, engine2 := e2 }
  let s := s.setPq .cry r.part r.queue { s.pq .cry r.part r.queue with fenced := false }
  let s := s.engineBusy e r.part true
  match e2 with
  | some f => s.engineBusy f r.part true
  | none => s

/-- Usage over weight is lower for partition a than for b, or equal with a the lower number (R232). -/
def shareBefore (use wt : Nat → Nat) (a b : Nat) : Bool :=
  use a * wt b < use b * wt a || (use a * wt b == use b * wt a && a < b)

/-- Crypto engine time and weight of a partition in the current period. -/
def State.cryUse (s : State) (q : Nat) : Nat := s.parts.eclk.get 0 q
/-- CRYPTO_W. -/
def State.cryWeight (s : State) (q : Nat) : Nat := s.rf (aPart q 0x28) 9 0

/-- The waiting request that a freed engine takes: lowest usage over weight, then partition, then order of fetching. -/
def State.nextReq (s : State) (e : Nat) : Option Nat :=
  let fits (r : Req) : Bool :=
    r.stage == .waiting && (cryClass (rqOp r) == engineClass e
      || (cryClass (rqOp r) == 4 && engineClass e < 2
          && (List.range 112).any fun f => engineClass f == 1 - engineClass e && s.engineFree f))
  let better (a b : Req) : Bool :=
    shareBefore s.cryUse s.cryWeight a.part b.part || (a.part == b.part && a.order < b.order)
  (s.cry.reqs.foldl (fun (b : Option (Nat × Req)) t =>
    if fits t.2 then match b with
      | none => some t
      | some u => if better t.2 u.2 then some t else some u
    else b) none).map (·.1)

/-- A free engine takes the next waiting request (R232, R252). -/
def State.giveEngine (s : State) (e : Nat) : State :=
  if !s.engineFree e then s
  else match s.nextReq e with
    | some k =>
      if cryClass (rqOp (s.req k)) = 4 then
        match (List.range 112).find? fun f => engineClass f == 1 - engineClass e && s.engineFree f with
        | some f => if engineClass e = 0 then s.startReq k e (some f) else s.startReq k f (some e)
        | none => s
      else s.startReq k e none
    | none => s

/-- The engines of a request fall free. -/
def State.endEngines (s : State) (r : Req) : State :=
  let s := if r.engine < 112 then s.engineBusy r.engine 0 false else s
  match r.engine2 with
  | some f => s.engineBusy f 0 false
  | none => s

/-- The engines that a request has left take waiting requests. -/
def State.giveBoth (s : State) (r : Req) : State :=
  let s := s.giveEngine r.engine
  match r.engine2 with
  | some f => s.giveEngine f
  | none => s

/-! ## Completion (R266, R267) -/

/-- Write a request's completion entry, set EVPEND.CRYPTO, and free its slot. -/
def State.cryFinish (s : State) (k : Nat) : State :=
  let r := s.req k
  let ctl := rqWord r 0
  let live := s.pqLive .cry r.part r.queue
  let s := if r.dropped then s
    else
      let s := s.pqWrite .cry r.part r.queue
        [rqWord r 1, r.result, BitVec.ofNat 64 (r.outLen + r.slot * 2 ^ 32 + r.engine * 2 ^ 48),
         BitVec.ofNat 64 (r.status.toNat + min r.eclk (2 ^ 32 - 1) * 2 ^ 32)]
      if live && !ctl.getLsbD 17 then s.eventOne r.starter evCrypto else s
  let s := { s with cry := { s.cry with reqs := s.cry.reqs.del k } }
  s.pqDone .cry r.part r.queue

/-- Complete a request with a status. -/
def State.cryEnd (s : State) (k : Nat) (status : BitVec 8) (result : Word) (outLen : Nat) : State :=
  (s.setReq k { s.req k with status := status, result := result, outLen := outLen }).cryFinish k

/-- Changes of the vault that wait for a request's completion. -/
def State.changesFor (s : State) (why : VFor) : Bool := s.cry.changes.any fun c => c.why == why

/-- Create the keys of a result in order; their handles. -/
def State.createKeys (s : State) (dom : Nat) (why : VFor) : List VRec → List Word × State
  | [] => ([], s)
  | r :: t =>
    let (h, s) := s.vCreate dom r why
    let (hs, s) := s.createKeys dom why t
    (h :: hs, s)

/-- An output whose length is known only now exceeds OUT_LEN (R269). -/
def overflows (r : Req) (res : CryRes) : Bool := (rqOut r).2 < 8 * res.keys.length + res.data.length

/-- The engine's result reaches partition memory: handles SEALED, then data; the completion follows once key changes are
durable (R260, R267, R269). -/
def State.cryResult (s : State) (k : Nat) (res : CryRes) (eclk : Nat) : State :=
  let r := s.req k
  let q := r.part
  let s := { s with parts := { s.parts with eclk := s.parts.eclk.upd 0 q (· + eclk) } }
  let s := s.setReq k { r with eclk := eclk }
  if res.status ≠ St.ok then
    (s.writeBytes q (rqOut r).1 (List.replicate res.zero 0)).cryEnd k res.status res.result 0
  else if overflows r res then s.cryEnd k St.bufferTooSmall 0 (8 * res.keys.length + res.data.length)
  else
    let (hs, s) := s.createKeys q (.request k) res.keys
    let s := s.writeTagged q (rqOut r).1 (hs.map fun h => ⟨h, Tag.sealedW⟩)
    let s := s.writeBytes q ((rqOut r).1 + 8 * hs.length) res.data
    let n := 8 * hs.length + res.data.length
    let s := s.setReq k { s.req k with stage := .durable, status := St.ok, result := res.result, outLen := n }
    if s.changesFor (.request k) then s else s.cryFinish k

/-! ## The fetch unit (R252, R262, R267) -/

/-- The lowest free request slot. -/
def State.freeReq (s : State) : Nat :=
  ((List.range (s.cry.reqs.length + 1)).find? fun k => (s.cry.reqs.find k).isNone).getD 0

/-- No other partition with fetchable work of the class comes before q (R232). -/
def State.cryTurn (s : State) (q cls : Nat) : Bool :=
  s.cry.queues.all fun t =>
    let p := t.1 / 32
    let n := t.1 % 32
    p == q || !s.pqFetchOk .cry p n || cryClass (fld ((s.pqWords .cry p n).getD 0 {}).val 7 0) != cls
      || !shareBefore s.cryUse s.cryWeight p q

/-- Fetch the next request of queue n of partition q into a request slot, if its opcode satisfies `ok`: `go` runs on
it once its checks pass, which otherwise complete it. -/
def State.cryFetch (s : State) (q n : Nat) (ok : Nat → Bool) (ready : State → Nat → Bool) (go : State → Nat → State) :
    State :=
  let ws := s.pqWords .cry q n
  let ctl := (ws.getD 0 {}).val
  let p := s.pq .cry q n
  if 32 ≤ n ∨ !s.pqFetchOk .cry q n ∨ !ok (fld ctl 7 0) ∨ (ctl.getLsbD 16 ∧ p.outstanding ≠ 0)
      ∨ !ready s (fld ctl 7 0) then s
  else if !s.admitCry q then s.pqWait .cry q n 2
  else
    let k := s.freeReq
    let r : Req := { part := q, queue := n, slot := p.head, words := ws, starter := p.ringers.get 0 p.head
                     order := s.cry.fetched }
    let check := s.cryCheck r
    let s := s.pqTake .cry q n (ctl.getLsbD 16)
    let s := (s.setReq k r)
    let s := { s with cry := { s.cry with fetched := s.cry.fetched + 1 } }
    match check with
    | some (st, res, len) =>
      let s := if st = St.keyDenied then s.raise 135 1 else s
      s.cryEnd k st (BitVec.ofNat 64 res) len
    | none => go s k

/-- A request for an engine: it starts on engine e (with e2) or another free engine of the class, and waits while there is
none (R252). -/
def State.opCrypto (op q n e : Nat) (e2 : Option Nat) (s : State) : State :=
  let cls := cryClass op
  let classOk := if cls = 4 then engineClass e == 0 else engineClass e == cls
  if !classOk then s
  else s.cryFetch q n (· == op) (fun s _ => (s.pickEngines cls e e2).isNone || s.cryTurn q cls)
    (fun s k => match s.pickEngines cls e e2 with
      | some (a, b) => s.startReq k a b
      | none => s)

/-- CRYPTO_INVALID_OPCODE (R264). -/
def State.opCryptoInvalid (q n : Nat) (s : State) : State :=
  s.cryFetch q n (fun op => cryClass op == 9) (fun _ _ => true) (fun s _ => s)

/-- KEY_DESTROY: the record is DESTROYING; the completion follows its erasure (R261). -/
def State.opKeyDestroy (q n : Nat) (s : State) : State :=
  s.cryFetch q n (· == 0x54) (fun _ _ => true) fun s k =>
    (s.setReq k { s.req k with stage := .durable }).vDestroy q (fld (rqWord (s.req k) 2) 13 0) (.request k)

/-- KEY_INFO: the record without its material, the creation time tagged TIME (R258). -/
def State.opKeyInfo (q n : Nat) (s : State) : State :=
  s.cryFetch q n (· == 0x55) (fun _ _ => true) fun s k =>
    let r := s.req k
    let v := s.keyRec q (rqWord r 2)
    let a := (rqOut r).1
    let s := s.writeBytes q a (infoBytes (rqWord r 2) v)
    let s := if a % 8 = 0 then s.writePra q (a + 0x20) ⟨v.created, Tag.time⟩ else s
    s.cryEnd k St.ok v.kcv 64

/-- The newest key of a domain with a LABEL (R274). -/
def State.vLookup (s : State) (dom : Nat) (label : Word) : Option (Nat × VRec) :=
  s.cry.vault.foldl (fun (b : Option (Nat × VRec)) t =>
    if t.1 / 16384 = dom ∧ t.2.label = label ∧ !t.2.destroying then match b with
      | none => some t
      | some u => if u.2.created.toNat ≤ t.2.created.toNat then some t else some u
    else b) none

/-- KEY_LOOKUP (R274). -/
def State.opKeyLookup (q n : Nat) (s : State) : State :=
  s.cryFetch q n (· == 0x56) (fun _ _ => true) fun s k =>
    let r := s.req k
    match s.vLookup q (rqParam r 0) with
    | some (key, v) =>
      (s.writePra q (rqOut r).1 ⟨mkHandle q (key % 16384) v.gen, Tag.sealedW⟩).cryEnd k St.ok 0 8
    | none => (s.raise 135 1).cryEnd k St.keyDenied 2 0

/-- KEY_PUBLIC: the public key encoding. -/
def State.opKeyPublic (q n : Nat) (s : State) : State :=
  s.cryFetch q n (· == 0x57) (fun _ _ => true) fun s k =>
    let r := s.req k
    let v := s.keyRec q (rqWord r 2)
    let ty := v.type_.toNat
    let b := if ty = 0x10 ∨ ty = 0x12 ∨ ty = 0x14 ∨ ty = 0x20 ∨ ty = 0x22 then
        Config.publicOf ty v.param.toNat v.material else v.material
    if (rqOut r).2 < b.length then s.cryEnd k St.bufferTooSmall 0 b.length
    else (s.writeBytes q (rqOut r).1 b).cryEnd k St.ok v.kcv b.length

/-! ## The engine's end, its errors, random numbers -/

/-- The slot of the request that runs on an engine. -/
def State.runningOn (s : State) (e : Nat) : Option Nat :=
  (s.cry.reqs.find? fun t => t.2.stage = .running ∧ (t.2.engine = e ∨ t.2.engine2 = some e)).map (·.1)

/-- A detected error on an engine (R279): it goes OFFLINE, and its request restarts on another engine or, the second
time, completes with INTERNAL_ERROR. -/
def State.engineError (s : State) (e : Nat) : State :=
  let s := (s.wb (aCry (8 * e)) 1 true).raise (engineSrc e) 1
  match s.runningOn e with
  | none => s
  | some k =>
    let r := s.req k
    let s := s.endEngines r
    let s := if r.errors = 0 then
        s.setReq k { r with stage := .waiting, errors := 1, engine := 0xFF, engine2 := none }
      else (s.setReq k { r with stage := .durable }).cryEnd k St.internalError 0 0
    let s := (List.range 112).foldl (fun s f => if s.cry.reqs.any (fun t => t.2.stage == .waiting) then s.giveEngine f
                                               else s) s
    s

/-- Count a reseed (R256, CRY_RNG_STATUS). -/
def State.reseed (s : State) (i : Nat) : State :=
  let s := (s.satField (aCry 0x408) 63 32).raise 132 1
  { s with cry := { s.cry with calls := s.cry.calls.set i 0, reseeded := s.cry.reseeded.set i s.time } }

/-- Count a generate call on one of the four instances, the module's choice, after a reseed of it where prediction
resistance is asked for (R256). -/
def State.generate (s : State) (fresh : Bool) : State :=
  let (w, s) := s.draw
  let i := fld w 1 0
  let s := if fresh then s.reseed i else s
  { s with cry := { s.cry with calls := s.cry.calls.upd 0 i (· + 1) } }

/-- The records that a request's key fields name are still there: a VOLATILE one may have been erased (R279). -/
def State.keysHere (s : State) (r : Req) : Bool :=
  let here (w : Word) : Bool := match s.cry.vault.find (vKey r.part (fld w 13 0)) with
    | some v => v.gen.toNat == fld w 55 24
    | none => false
  let ks := cryKeys (rqOp r) (rqVar r)
  (ks.1.isNone || here (rqWord r 2)) && (ks.2.isNone || here (rqWord r 3))

/-- CRYPTO_ENGINE_DONE: an engine finishes the request that it runs. -/
def State.opEngineDone (e : Nat) (s : State) : State :=
  match s.runningOn e with
  | none => s
  | some k =>
    let r := s.req k
    let (f0, s) := s.takeForce (engineSrc e) 0
    if f0 then s.engineError e
    else
      let (f1, s) := s.takeForce (engineSrc e) 1
      if f1 then s.engineError e
      else if !s.keysHere r then
        (((s.raise 135 1).endEngines r).cryEnd k St.keyDenied 2 0).giveBoth r
      else if needsRandom r && !s.rngOk then
        ((s.endEngines r).cryEnd k St.internalError 0 0).giveBoth r
      else
        let s := if needsRandom r then s.generate (rqOp r == 0x60 && (rqWord r 0).getLsbD 8) else s
        let (rnd, s) := s.drawBytes (max 4096 (rqOut r).2)
        let (w, s) := s.draw
        let res := s.cryRun r rnd w
        let k0 := s.keyRec r.part (rqWord r (if rqOp r = 0x28 then 3 else 2))
        let sign := Config.mldsaCost (if rqOp r = 0x28 then 2 else rqVar r % 16) k0.material
          (s.readBytes r.part (rqIn r).1 (rqIn r).2) rnd
        let cost := s.cryCost r sign (fld w 31 0)
        let count (s : State) (f : Nat) : State := s.satField (aCry (8 * f)) 63 32
        let s := count (s.endEngines r) r.engine
        let s := match r.engine2 with
          | some f => count s f
          | none => s
        (s.cryResult k res cost).giveBoth r

/-- CRYPTO_ENGINE_ERROR (R279). -/
def State.opEngineError (e : Nat) (s : State) : State :=
  if (s.runningOn e).isSome then (s.raise (engineSrc e) 0).engineError e else s

/-- CQ_RESET_DONE: every fetched request of a RESETTING queue has finished (R270). -/
def State.opCqResetDone (q n : Nat) (s : State) : State := if n < 32 then s.pqSettle .cry q n else s

/-- DRBG_RESEED: after 2^20 generate calls or 1 s (R256). -/
def State.opDrbgReseed (i : Nat) (s : State) : State :=
  if s.rngOk && (decide (2 ^ 20 ≤ s.cry.calls.get 0 i)
      || decide ((s.cry.reseeded.get 0 i).toNat + 400000000 ≤ s.time.toNat)) then s.reseed i
  else s

/-- ENTROPY_FAIL: a health test fails; all four instances stop (R256). -/
def State.opEntropyFail (s : State) : State :=
  if !s.pwr.powered then s else ((s.wb (aCry 0x408) 0 false).satField (aCry 0x408) 31 16).raise 132 0

/-- ENTROPY_RESTART: the source has passed its start-up tests again. -/
def State.opEntropyRestart (s : State) : State := if s.pwr.powered then s.wb (aCry 0x408) 0 true else s

/-! ## Erasure and durability -/

/-- A fetched request, other than `self`, holds a key. -/
def State.keyHeld (s : State) (dom idx : Nat) (why : VFor) : Bool :=
  s.cry.reqs.any fun t => t.2.part == dom && VFor.request t.1 != why
    && ((rqTag t.2 2 == Tag.sealedW && fld (rqWord t.2 2) 13 0 == idx)
        || (rqTag t.2 3 == Tag.sealedW && fld (rqWord t.2 3) 13 0 == idx))

/-- No change of a request or command is left: it completes. `cmd` ends a command of R275. -/
def State.vaultDone (s : State) (why : VFor) (cmd : State → Nat → State) : State :=
  if s.changesFor why then s
  else match why with
    | .request k =>
      if (s.cry.reqs.find k).isSome && (s.req k).stage == .durable then
        let r := s.req k
        if rqOp r = 0x54 then s.cryEnd k St.ok 0 0 else s.cryFinish k
      else s
    | .command i => cmd s i
    | .domain _ => s

/-- KEY_ERASE: the material of a DESTROYING record goes once no fetched request holds the key; the erasure is then made
durable, unless the record is VOLATILE (R260, R261). -/
def State.keyErase (s : State) (dom idx : Nat) (cmd : State → Nat → State) : State :=
  match s.cry.vault.find (vKey dom idx) with
  | some r =>
    let why := s.cry.erasing.get (.domain dom) (vKey dom idx)
    if !r.destroying || s.keyHeld dom idx why then s
    else
      let s := { s with cry := { s.cry with
        vault := s.cry.vault.del (vKey dom idx), erasing := s.cry.erasing.del (vKey dom idx) } }
      if isVolatile r then s.vaultDone why cmd else s.vChange dom idx none why
  | none => s

/-- VAULT_CHANGE_DURABLE: the backup write of a change ends; with the partner's acknowledgement, where one is awaited,
what waited for it completes (R260). A failed backup write is counted and repeated; a change that stops waiting for a
silent partner counts MIRROR_TIMEOUT. -/
def State.vaultDurable (s : State) (dom idx : Nat) (backupOk : Bool) (cmd : State → Nat → State) : State :=
  match s.cry.changes.find? fun c => c.dom = dom ∧ c.index = idx with
  | none => s
  | some c =>
    if !backupOk || s.forced 134 0 then s.report 134 0
    else
      let waits := match c.msn with
        | some n => s.dpx.held.any fun i => i.msn == n
        | none => false
      if waits && s.healthy then s
      else
        let s := if waits then s.raise 134 1 else s
        let s := { s with cry := { s.cry with changes := s.cry.changes.erase c } }
        s.vaultDone c.why cmd

/-- KV_UNCORRECTED: a vault word is restored from its backup; a VOLATILE record, which has none, is erased (R279). -/
def State.opKvUncorrected (dom idx : Nat) (s : State) : State :=
  match s.cry.vault.find (vKey dom idx) with
  | some r =>
    let s := s.raise 133 1
    if isVolatile r && !r.destroying then { s with cry := { s.cry with vault := s.cry.vault.del (vKey dom idx) } } else s
  | none => s

/-! ## Management commands on PF0 (R275–R277) -/

/-- A command ends: its CHANGE record is staged and its completion posted (R217, R277). -/
def State.keyCmdRec (s : State) (i : Nat) (st : BitVec 8) (note : Word) : State :=
  let e := s.wo i
  let arg := BitVec.ofNat 64 (dArg e.desc)
  let op := dOpcode e.desc
  s.changeRec (leBytes 8 arg.toNat ++ leBytes 8 (if op = 0x40 then fld arg 11 8 + fld arg 15 12 * 16 else 0)
    ++ leBytes 8 note.toNat ++ leBytes 8 e.desc.receipt.toNat
    ++ [BitVec.ofNat 8 (e.port + 1), 4, BitVec.ofNat 8 op, st] ++ leBytes 4 0)

/-- End a command that its Receipt's window has not taken. -/
def State.keyCmdFail (s : State) (i : Nat) (st : BitVec 8) : State := (s.keyCmdRec i st 0).postStatus i st

/-- End a command with a status, RESULT, and SEG_OUT data; the outcome enters the Receipt's window. -/
def State.keyCmdEnd (s : State) (i : Nat) (st : BitVec 8) (result note : Word) (out : Bytes) : State :=
  let e := s.wo i
  let excess := st = St.ok ∧ e.segOut < out.length
  let st := if excess then St.bufferTooSmall else st
  let s := s.keyCmdRec i st note
  let e := { e with status := st, result := result, resp := if excess then [] else out
                    outLen := BitVec.ofNat 32 out.length }
  (s.outcome e).post i e

/-- What waits for durability is done: the command ends with what was kept for it. -/
def State.keyCmdDone (s : State) (i : Nat) : State :=
  let e := s.wo i
  if e.state = .reading ∧ e.rd = .none then
    let s := if dOpcode e.desc = 0x45 then s.raise 136 3 else s
    s.keyCmdEnd i St.ok e.result e.result e.resp
  else s

/-- Keep a command's RESULT and SEG_OUT data until its change is durable; a VOLATILE key asks for none. -/
def State.keyCmdWait (s : State) (i : Nat) (result : Word) (out : Bytes) : State :=
  let s := s.setWo i { s.wo i with result := result, resp := out }
  if s.changesFor (.command i) then s else s.keyCmdDone i

/-- A handle given as a plain number: a key of the domain with a type among `types` and usage bit `u`, or the reason. -/
def State.plainKey (s : State) (dom : Nat) (h : Word) (k : KReq) (export_ : Bool) : Option (BitVec 8 × Nat) :=
  s.keyCheck dom ⟨h, Tag.sealedW⟩ (some k) export_

/-- The domain exists: 0, or that of a partition that is not NONE (R225, R275). -/
def State.domainOk (s : State) (dom : Nat) : Bool := dom == 0 || s.partState dom != 0

/-- XOR of byte strings of one length. -/
def xorBytes (a b : Bytes) : Bytes := (List.range a.length).map fun i => a.getD i 0 ^^^ b.getD i 0

/-- COMPONENT_EXPIRY: 900 s after the first component a pending combination is discarded (R276). -/
def State.opComponentExpiry (dom : Nat) (s : State) : State :=
  match s.cry.combos.find dom with
  | some c =>
    if c.first.toNat + 360000000000 ≤ s.time.toNat then
      { s with cry := { s.cry with combos := s.cry.combos.del dom } }
    else s
  | none => s

/-- KEY_COMPONENT (R275, R276). -/
def State.cmdComponent (s : State) (i : Nat) (arg : Word) (data : Bytes) : State :=
  let dom := fld arg 5 0
  let s := s.opComponentExpiry dom
  let no := fld arg 11 8
  let n := fld arg 15 12
  let ty := fld arg 23 16
  let lenOk := (ty == 2 && (data.length == 16 || data.length == 24))
    || (ty == 1 && (data.length == 16 || data.length == 32))
  let bad := !s.domainOk dom || fld arg 7 6 != 0 || no < 1 || 9 < no || n < 2 || 9 < n || n < no || !lenOk
  let c := match s.cry.combos.find dom with
    | some c => c
    | none => { count := n, type_ := BitVec.ofNat 8 ty, param := BitVec.ofNat 8 (fld arg 31 24), first := s.time }
  let clash := c.count != n || c.type_.toNat != ty || c.param.toNat != fld arg 31 24 || (c.parts.find no).isSome
    || c.parts.any (fun p => p.2 == data || p.2.length != data.length)
  if bad || clash then s.keyCmdEnd i St.invalidField 0 0 []
  else
    let k := kcvOf ty (fld arg 31 24) data
    let s := { s with cry := { s.cry with combos := s.cry.combos.set dom { c with parts := c.parts.set no data } } }
    (s.raise 136 0).keyCmdEnd i St.ok k k []

/-- KEY_COMBINE (R275, R276). -/
def State.cmdCombine (s : State) (i : Nat) (arg : Word) (data : Bytes) : State :=
  let dom := fld arg 5 0
  let s := s.opComponentExpiry dom
  let usage := ofLe (slice data 2 2)
  match s.cry.combos.find dom with
  | none => s.keyCmdEnd i St.invalidField 0 0 []
  | some c =>
    if !s.domainOk dom || data.length != 64 || c.parts.length != c.count || 2 ^ 14 ≤ usage then
      s.keyCmdEnd i St.invalidField 0 0 []
    else match c.parts with
      | [] => s.keyCmdEnd i St.invalidField 0 0 []
      | p :: t =>
        let mat := t.foldl (fun a b => xorBytes a b.2) p.2
        match s.vRoom dom 1 (Config.granules mat.length) with
        | some rs => s.keyCmdEnd i St.keyDenied (BitVec.ofNat 64 rs) 0 []
        | none =>
          if (s.wo i).segOut < 8 then s.keyCmdEnd i St.ok 0 0 (List.replicate 8 0)
          else
            let r : VRec := { type_ := c.type_, param := c.param, usage := BitVec.ofNat 16 usage, material := mat
                              label := BitVec.ofNat 64 (ofLe (slice data 16 8)) }
            let s := { s with cry := { s.cry with combos := s.cry.combos.del dom } }
            let (h, s) := s.vCreate dom r (.command i)
            (s.raise 136 1).keyCmdWait i h (leBytes 8 (kcvOf c.type_.toNat c.param.toNat mat).toNat)

/-- KEY_COMPONENT_CLEAR (R275). -/
def State.cmdClear (s : State) (i : Nat) (arg : Word) : State :=
  if !s.domainOk (fld arg 5 0) then s.keyCmdEnd i St.invalidField 0 0 []
  else ({ s with cry := { s.cry with combos := s.cry.combos.del (fld arg 5 0) } }).keyCmdEnd i St.ok 0 0 []

/-- KEY_LOAD_BLOCK (R273, R275). -/
def State.cmdLoad (s : State) (i : Nat) (arg : Word) (data : Bytes) : State :=
  let dom := fld arg 5 0
  let h := BitVec.ofNat 64 (ofLe (data.take 8))
  let blk := data.drop 8
  let key := s.keyRec dom h
  let ver := Config.blockVersion blk
  if !s.domainOk dom || data.length < 8 || 16384 < blk.length then s.keyCmdEnd i St.invalidField 0 0 []
  else match s.plainKey dom h ⟨[1, 2], none, some 5, []⟩ false with
    | some (st, rs) => s.keyCmdEnd i st (BitVec.ofNat 64 rs) 0 []
    | none =>
      match s.vRoom dom 1 (Config.needGranules 0x52 0 blk.length) with
      | some rs => s.keyCmdEnd i St.keyDenied (BitVec.ofNat 64 rs) 0 []
      | none =>
        if ver ≠ 0x42 ∧ ver ≠ 0x44 then s.keyCmdEnd i St.invalidField 0 0 []
        else if (ver = 0x42) ≠ (key.type_ = 2) then s.keyCmdEnd i St.keyDenied 3 0 []
        else match Config.unwrap key.material blk with
          | none => s.keyCmdEnd i St.verifyFailed 0 0 []
          | some (usageOk, r) =>
            if !usageOk then s.keyCmdEnd i St.invalidField 0 0 []
            else if s.fuse.small ∧ 0x20 ≤ r.type_.toNat then s.keyCmdEnd i St.unsupported 0 0 []
            else
              let (h, s) := s.vCreate dom { r with destroying := false } (.command i)
              (s.raise 136 2).keyCmdWait i h []

/-- KEY_UNLOAD_BLOCK (R273, R275). -/
def State.cmdUnload (s : State) (i : Nat) (arg : Word) (data : Bytes) : State :=
  let dom := fld arg 5 0
  let h0 := BitVec.ofNat 64 (ofLe (data.take 8))
  let h1 := BitVec.ofNat 64 (ofLe (slice data 8 8))
  if !s.domainOk dom || data.length != 16 then s.keyCmdEnd i St.invalidField 0 0 []
  else match s.plainKey dom h0 ⟨[1], none, some 4, []⟩ false with
    | some (st, rs) => s.keyCmdEnd i st (BitVec.ofNat 64 rs) 0 []
    | none => match s.plainKey dom h1 {} true with
      | some (st, rs) => s.keyCmdEnd i st (BitVec.ofNat 64 rs) 0 []
      | none =>
        let k := s.keyRec dom h1
        s.keyCmdEnd i St.ok k.kcv k.kcv (Config.wrap (s.keyRec dom h0).material k)

/-- KEY_DELETE (R261, R275). -/
def State.cmdDelete (s : State) (i : Nat) (arg : Word) (data : Bytes) : State :=
  let dom := fld arg 5 0
  let h := BitVec.ofNat 64 (ofLe (data.take 8))
  if !s.domainOk dom || data.length != 8 then s.keyCmdEnd i St.invalidField 0 0 []
  else match s.plainKey dom h {} false with
    | some (st, rs) => s.keyCmdEnd i st (BitVec.ofNat 64 rs) h []
    | none => s.vDestroy dom (fld h 13 0) (.command i)

/-- KEY_QUERY (R275). -/
def State.cmdQuery (s : State) (i : Nat) (arg : Word) (data : Bytes) : State :=
  let dom := fld arg 5 0
  if !s.domainOk dom || data.length != 8 then s.keyCmdEnd i St.invalidField 0 0 []
  else match s.vLookup dom (BitVec.ofNat 64 (ofLe data)) with
    | some (k, r) => s.keyCmdEnd i St.ok r.kcv r.kcv (infoBytes (mkHandle dom (k % 16384) r.gen) r)
    | none => s.keyCmdEnd i St.keyDenied 2 0 []

/-- A key management command of PF0: steps 2 to 9 of R207, then the command itself. `rd` is what the host reads of its
chain and SEG_IN buffers return. -/
def State.opKeyCmd (op i : Nat) (d : Desc) (rd : HostRd) (cmd : State → Word → Bytes → State) (s : State) : State :=
  if dOpcode d ≠ op then s
  else s.gotDesc i d fun s =>
    let e := s.wo i
    let link := segType d.e2 == 3
    if e.fn ≠ 0 then s.postStatus i St.invalidOpcode
    else if !descOk d then s.keyCmdFail i St.invalidField
    else match rd with
      | .fault => ((s.keyCmdFail i St.hostReadFault).haltQp e.port e.fn e.qp 2)
      | .ok ents data =>
        let ents := if link then ents else []
        let all := inlineEnts d ++ ents
        let r := d.receipt
        let seq := rcptSeq r
        let w := s.win 0 (rcptSource r)
        let e := { e with segIn := segTotal 1 all, segOut := segTotal 2 all
                          outs := segList 2 all, state := .reading }
        let s := s.setWo i e
        if !ents.all (segOk true) then s.keyCmdFail i St.invalidField
        else if 1024 < segCount all then s.keyCmdFail i St.chainLimit
        else if rcptPart r ≠ 0 ∨ 0x80 ≤ rcptSource r then s.keyCmdFail i St.invalidField
        else if staleSeq w.high seq then s.keyCmdFail i St.staleReceipt
        else match w.outs.find seq with
          | some (.done st res solo sag _ _) =>
            (s.keyCmdRec i St.replayed 0).post i { e with
              status := St.replayed, orig := st, result := res, solo := solo, dup := true, sagResumed := sag }
          | some (.pending o) => (s.setWo i { e with state := .attached }).attachWo 32768 o i
          | none =>
            cmd (s.setWin 0 (rcptSource r) (rwinSet w seq (.pending i))) (BitVec.ofNat 64 (dArg d)) (fit e.segIn data)

/-- KEY_ERASE. -/
def State.opKeyErase (dom idx : Nat) (s : State) : State := s.keyErase dom idx State.keyCmdDone

/-- VAULT_CHANGE_DURABLE. -/
def State.opVaultDurable (dom idx : Nat) (ok : Bool) (s : State) : State := s.vaultDurable dom idx ok State.keyCmdDone

end Sys2Proof.Machine
end

