-- ==== Sys2Proof/Machine/CmpOps.lean ====
section
/-!
DEFINITION. Compression requests and engines, and the Block Mover (12_compression_mover.md).
-/
namespace Sys2Proof.Machine

/-! ## Compression (R282–R289) -/

/-- A compression request in its place. -/
def State.creq (s : State) (k : Nat) : Req := s.cmp.reqs.get {} k

/-- The state with a compression request replaced. -/
def State.setCreq (s : State) (k : Nat) (r : Req) : State :=
  { s with cmp := { s.cmp with reqs := s.cmp.reqs.set k r } }

/-- FORMAT. -/
def zqFormat (r : Req) : Nat := fld (rqWord r 0) 11 8
/-- LEVEL. -/
def zqLevel (r : Req) : Nat := fld (rqWord r 0) 15 12
/-- IN of a compression request. -/
def zqIn (r : Req) : Nat × Nat := ((rqWord r 2).toNat, (rqWord r 3).toNat)
/-- OUT of a compression request. -/
def zqOut (r : Req) : Nat × Nat := ((rqWord r 4).toNat, (rqWord r 5).toNat)

/-- The checks of a request before its engine starts (R285, R287): the status of the first that fails. -/
def State.zqCheck (s : State) (r : Req) : Option (BitVec 8) :=
  let q := r.part
  let ctl := rqWord r 0
  let op := fld ctl 7 0
  let tagsOk := (List.range 8).all fun i =>
    rqTag r i == Tag.untyped || ((i == 2 || i == 4) && rqTag r i == Tag.pointer)
  let (ia, il) := zqIn r
  let (oa, ol) := zqOut r
  let win := (rqWord r 6).toNat
  let winOk := if op = 1 ∧ zqFormat r = 3 then 10 ≤ win && win ≤ 23 else win == 0
  if !tagsOk then some St.tagMismatch
  else if op ≠ 1 ∧ op ≠ 2 then some St.invalidOpcode
  else if 3 < zqFormat r ∨ (op = 1 ∧ 2 < zqLevel r) ∨ fld ctl 63 19 ≠ 0 ∨ !winOk ∨ rqWord r 7 ≠ 0
      ∨ 2 ^ 24 ≤ il ∨ 2 ^ 24 ≤ ol then some St.invalidField
  else if !s.noTags q ia il [Tag.sealedW, Tag.poison] ∨ !s.noTags q oa ol [Tag.sealedW, Tag.code, Tag.poison] then
    some St.tagMismatch
  else if !s.mapped q ia il ∨ !s.mapped q oa ol ∨ (!disjoint oa ol ia il ∧ !(oa = ia ∧ ol = il)) ∨ (op = 2 ∧ il = 0) then
    some St.invalidField
  else none

/-- The bound B of R283 on the output of a compression. -/
def zqBound (fmt n : Nat) : Nat :=
  let b0 := n + 5 * ((n + 65534) / 65535) + 5
  if fmt = 0 then b0 else if fmt = 1 then b0 + 6 else if fmt = 2 then b0 + 18
  else n + 3 * ((n + 131071) / 131072) + 22

/-- Write a request's completion entry, set EVPEND.COMPRESS, and free its place (R284, R286). -/
def State.zqFinish (s : State) (k : Nat) (status : BitVec 8) (result : Word) (outLen eclk : Nat) : State :=
  let r := s.creq k
  let live := s.pqLive .cmp r.part r.queue
  let s := if r.dropped then s
    else
      let s := s.pqWrite .cmp r.part r.queue
        [rqWord r 1, result, BitVec.ofNat 64 (outLen + r.slot * 2 ^ 32 + r.engine * 2 ^ 48),
         BitVec.ofNat 64 (status.toNat + min eclk (2 ^ 32 - 1) * 2 ^ 32)]
      if live && !(rqWord r 0).getLsbD 17 then s.eventOne r.starter evCompress else s
  let s := { s with cmp := { s.cmp with reqs := s.cmp.reqs.del k } }
  s.pqDone .cmp r.part r.queue

/-- Requests that an engine holds: the running one first. -/
def State.heldBy (s : State) (e : Nat) : List (Nat × Req) :=
  s.cmp.reqs.filter (fun t => t.2.engine == e && t.2.stage == .running)
    ++ s.cmp.reqs.filter (fun t => t.2.engine == e && t.2.stage != .running)

/-- BUSY and PARTITION of a compression engine. -/
def State.ceBusy (s : State) (e q : Nat) (b : Bool) : State :=
  (s.wb (0xB00000 + 8 * e) 2 b).wf (0xB00000 + 8 * e) 13 8 (if b then q else 0)

/-- A request starts on its engine. -/
def State.zqStart (s : State) (k e : Nat) : State :=
  let r := s.creq k
  let s := s.setCreq k { r with stage := .running, engine := e }
  (s.setPq .cmp r.part r.queue { s.pq .cmp r.part r.queue with fenced := false }).ceBusy e r.part true

/-- An engine that has fallen idle starts its staged request, or one that lost its engine (R289). -/
def State.zqNext (s : State) (e : Nat) : State :=
  if !s.ceOnline e || s.cmp.reqs.any (fun t => t.2.engine == e && t.2.stage == .running) then s
  else match (s.heldBy e ++ s.cmp.reqs.filter fun t => t.2.engine == 0xFF).head? with
    | some (k, _) => s.zqStart k e
    | none => s

/-- No other partition with fetchable compression work comes before q (R232, R288). -/
def State.zqTurn (s : State) (q : Nat) : Bool :=
  s.cmp.queues.all fun t =>
    let p := t.1 / 32
    p == q || !s.pqFetchOk .cmp p (t.1 % 32) || !shareBefore s.cryUse s.cryWeight p q

/-- Fetch the next request of queue n of partition q for engine e, which holds at most one running and one staged
request, if its opcode satisfies `ok` (R284). -/
def State.zqFetch (s : State) (q n e : Nat) (ok : Nat → Bool) (invalid : Bool) : State :=
  let ws := s.pqWords .cmp q n
  let ctl := (ws.getD 0 {}).val
  let p := s.pq .cmp q n
  if 32 ≤ n ∨ !s.pqFetchOk .cmp q n ∨ !ok (fld ctl 7 0) ∨ (ctl.getLsbD 16 ∧ p.outstanding ≠ 0)
      ∨ (!invalid ∧ (!s.ceOnline e ∨ 2 ≤ (s.heldBy e).length ∨ !s.zqTurn q)) then s
  else
    let k := ((List.range (s.cmp.reqs.length + 1)).find? fun k => (s.cmp.reqs.find k).isNone).getD 0
    let r : Req := { part := q, queue := n, slot := p.head, words := ws, starter := p.ringers.get 0 p.head }
    let s := (s.pqTake .cmp q n (ctl.getLsbD 16)).setCreq k r
    match s.zqCheck r with
    | some st => s.zqFinish k st 0 0 0
    | none => (s.setCreq k { r with engine := e }).zqNext e

/-- COMPRESS and DECOMPRESS are fetched. -/
def State.opCompress (op q n e : Nat) (s : State) : State := s.zqFetch q n e (· == op) false

/-- COMPRESS_INVALID_OPCODE (R285). -/
def State.opCompressInvalid (q n : Nat) (s : State) : State := s.zqFetch q n 0 (fun op => op != 1 && op != 2) true

/-- The request that an engine runs. -/
def State.zqRunning (s : State) (e : Nat) : Option Nat :=
  (s.cmp.reqs.find? fun t => t.2.engine = e ∧ t.2.stage = .running).map (·.1)

/-- A detected error (R289): the engine goes OFFLINE; its request restarts on another engine or, the second time,
completes with INTERNAL_ERROR. -/
def State.zqError (s : State) (e : Nat) : State :=
  let s := ((s.wb (0xB00000 + 8 * e) 1 true).ceBusy e 0 false).raise (144 + e) 1
  let held := s.heldBy e
  let s := held.foldl (fun s t =>
    let r := s.creq t.1
    if r.stage = .running ∧ r.errors ≠ 0 then s.zqFinish t.1 St.internalError 0 0 0
    else s.setCreq t.1 { r with stage := .waiting, engine := 0xFF
                                errors := if r.stage = .running then 1 else r.errors }) s
  (List.range 8).foldl (fun s f => s.zqNext f) s

/-- What an engine's run gives: STATUS, check value, OUT_LEN reported, bytes for OUT; `free` bytes stand for what the
spec leaves unspecified in OUT (R287). -/
def zqRun (r : Req) (input free : Bytes) (w : Word) : BitVec 8 × Word × Nat × Bytes :=
  let fmt := zqFormat r
  let cap := (zqOut r).2
  if fld (rqWord r 0) 7 0 = 1 then
    let out := (Config.compress fmt (zqLevel r) (rqWord r 6).toNat ((rqWord r 0).getLsbD 18) input).take
      (zqBound fmt input.length)
    if cap < out.length then (St.bufferTooSmall, 0, out.length, fit cap free)
    else (St.ok, (Config.checkValue fmt input).zeroExtend 64, out.length, out)
  else
    let (st, out) := Config.decompress fmt input
    if st = St.ok then
      if cap < out.length then (St.bufferTooSmall, 0, 0, fit cap free)
      else (St.ok, (Config.checkValue fmt out).zeroExtend 64, out.length, out)
    else if st = St.unsupported then (st, 0, 0, [])
    else (if st = St.verifyFailed then st else St.invalidField, 0, w.toNat % (cap + 1), fit cap free)

/-- COMPRESS_ENGINE_DONE: an engine finishes the request that it runs. -/
def State.opCompressDone (e : Nat) (s : State) : State :=
  match s.zqRunning e with
  | none => s
  | some k =>
    let r := s.creq k
    let (f0, s) := s.takeForce (144 + e) 0
    if f0 then s.zqError e
    else
      let (f1, s) := s.takeForce (144 + e) 1
      if f1 then s.zqError e
      else
        let input := s.readBytes r.part (zqIn r).1 (zqIn r).2
        let (free, s) := s.drawBytes (zqOut r).2
        let (w, s) := s.draw
        let (st, res, len, out) := zqRun r input free w
        let cost := Config.compressCost (fld (rqWord r 0) 7 0) (zqFormat r) (zqLevel r) input
        let s := { s with parts := { s.parts with eclk := s.parts.eclk.upd 0 r.part (· + cost) } }
        let s := (s.writeBytes r.part (zqOut r).1 out).satField (0xB00000 + 8 * e) 63 32
        ((s.ceBusy e 0 false).zqFinish k st res len cost).zqNext e

/-- COMPRESS_ENGINE_ERROR (R289). -/
def State.opCompressError (e : Nat) (s : State) : State :=
  if (s.zqRunning e).isSome then (s.raise (144 + e) 0).zqError e else s

/-! ## Block Mover (R290–R294) -/

/-- Fault source of a channel. -/
def movSrc (c : Nat) : Nat := 152 + c / 8

/-- Owner of a channel (R227): the partition whose valid slot names it, or context 0. -/
def State.movOwner (s : State) (c : Nat) : Nat := fld (s.peek (aMov c 0x38)) 5 0

/-- Addresses of a range exist for an owner: MAPPED slots, or valid PAs for context 0 (R290). -/
def State.movValid (s : State) (q a n : Nat) : Bool :=
  if q = 0 then n == 0 || (rangeProbes a n).all fun x => s.paValid x
  else s.mapped q a n

/-- The word at an owner's address. -/
def State.movRd (s : State) (q a : Nat) : TWord := if q = 0 then s.readPa (a / 8 * 8) else s.readPra q (a / 8 * 8)

/-- Write a word at an owner's address. -/
def State.movWr (s : State) (q a : Nat) (w : TWord) : State :=
  if q = 0 then s.writePa (a / 8 * 8) w else s.writePra q (a / 8 * 8) w

/-- Addresses of the words that a range touches. -/
def wordAddrs (a n : Nat) : List Nat :=
  if n = 0 then [] else (List.range ((a + n - 1) / 8 + 1 - a / 8)).map fun i => (a / 8 + i) * 8

/-- The bytes of a range. -/
def State.movBytes (s : State) (q a n : Nat) : Bytes :=
  ((wordBytes ((wordAddrs a n).map (s.movRd q))).drop (a % 8)).take n

/-- Write bytes of a range, every word keeping its tag (R77, R291). -/
def State.movPut (s : State) (q : Nat) : Nat → Nat → Bytes → State
  | 0, _, _ => s
  | _ + 1, _, [] => s
  | f + 1, a, b =>
    let w := s.movRd q a
    let s := s.movWr q a { w with val := splice w.val (a % 8) (b.take (8 - a % 8)) }
    s.movPut q f (a / 8 * 8 + 8) (b.drop (8 - a % 8))

/-- Copy whole words with their tags. -/
def State.movCopy (s : State) (q src : Nat) : List Nat → State
  | [] => s
  | d :: t => (s.movWr q d (s.movRd q src)).movCopy q (src + 8) t

/-- CRC register at the start of a run (R292): the code's initial value, or CHK with CONT. -/
def movCrc0 (sel : Nat) (cont : Bool) (chk : Word) : Word :=
  if sel = 1 then (if cont then (~~~ chk) &&& 0xFFFFFFFF else 0xFFFFFFFF)
  else if cont then chk else 0

/-- CRC register over further bytes. -/
def movCrc (sel : Nat) (c : Word) (b : Bytes) : Word :=
  if sel = 1 then (crc32cRaw (c.truncate 32) b).zeroExtend 64 else if sel = 2 then crc64 c b else c

/-- The CRC that CHK takes. -/
def movChk (sel : Nat) (c : Word) : Word := if sel = 1 then (~~~ c) &&& 0xFFFFFFFF else c

/-- Length of the appended CRC (R290). -/
def movApp (sel : Nat) (append : Bool) : Nat :=
  if append then (if sel = 1 then 4 else if sel = 2 then 8 else 0) else 0

/-- A run ends (R293): CHK, STATUS, PROGRESS, BUSY, DONE and RUNS, then the event; a slot write that waited for DONE is
applied (R227). -/
def State.movEnd (s : State) (c : Nat) (r : MovRun) (status : BitVec 8) : State :=
  let s := if r.crcSel = 1 ∨ r.crcSel = 2 then s.wr (aMov c 0x20) (movChk r.crcSel r.crc) else s
  let s := (s.wf (aMov c 0x18) 15 8 status.toNat).wf (aMov c 0x18) 2 1 1
  let s := s.wf (aMov c 0x30) 39 0 r.done
  let runs := (s.rf (aMov c 0x28) 31 0 + 1) % 2 ^ 32
  let s := s.wr (aMov c 0x28) (BitVec.ofNat 64 (runs + status.toNat * 2 ^ 32))
  let s := if status ≠ St.ok ∧ status ≠ St.cancelled then s.raise (movSrc c) 2 else s
  let s := { s with cmp := { s.cmp with
    runs := s.cmp.runs.del c
    unsettled := if s.cmp.unsettled.contains c then s.cmp.unsettled else s.cmp.unsettled ++ [c] } }
  let s := match r.leave with
    | some (a, v) => s.wr a v
    | none => s
  if r.noEvent || r.owner == 0 || decide (96 ≤ r.starter) then s else s.eventOne r.starter evMover

/-- GO on channel c by core `starter` (R290): the checks, and the run or its immediate end. -/
def State.movGo (s : State) (c starter : Nat) : State :=
  if (s.cmp.runs.find c).isSome then s.raise (movSrc c) 0
  else
    let ctl := s.rd (aMov c 0x18)
    let q := s.movOwner c
    let src := s.rf (aMov c 0) 45 0
    let dst := s.rf (aMov c 8) 45 0
    let n := s.rf (aMov c 0x10) 39 0
    let sel := fld ctl 4 3
    let app := movApp sel (ctl.getLsbD 5)
    let r : MovRun := { src := src, dst := dst, count := n, owner := q, crcSel := sel, append := ctl.getLsbD 5
                        noEvent := ctl.getLsbD 7, starter := starter
                        crc := movCrc0 sel (ctl.getLsbD 6) (s.rd (aMov c 0x20)) }
    let s := (s.wb (aMov c 0x18) 1 false).wf (aMov c 0x30) 39 0 0
    if sel = 3 ∨ !s.movValid q src n ∨ !s.movValid q dst (n + app) ∨ !disjoint src n dst (n + app) then
      s.movEnd c r St.invalidField
    else if n = 0 then s.movEnd c r St.ok
    else
      let s := (s.wb (aMov c 0x18) 2 true).wb (aMov c 0x28) 63 true
      { s with cmp := { s.cmp with runs := s.cmp.runs.set c r } }

/-- A write to a register of channel c, by its owner through a Partition Control Page or by the management space
(R290, R294). -/
def State.movWrite (s : State) (c o : Nat) (v : Word) (be : Byte) (starter : Nat) : State :=
  let busy := (s.cmp.runs.find c).isSome
  if o = 0 ∨ o = 8 ∨ o = 0x10 ∨ o = 0x20 then if busy then s else s.applyRw (aMov c o) v be
  else if o = 0x18 then
    let s := s.applyRw (aMov c 0x18) v be
    let s := if wrote1 v be 16 then
        match s.cmp.runs.find c with
        | some r => { s with cmp := { s.cmp with runs := s.cmp.runs.set c { r with abort := true } } }
        | none => s
      else s
    if wrote1 v be 0 then s.movGo c starter else s
  else s

/-- Tags that the byte-data rule admits (R77). -/
def byteTags : List Tag := [Tag.untyped, Tag.binfp, Tag.decimal, Tag.text, Tag.user]

/-- The tags that a chunk finds let it be moved (R291). -/
def State.movTagsOk (s : State) (q src n dst m : Nat) : Bool :=
  if src % 8 = dst % 8 then
    ((wordAddrs src n).all fun a => !([Tag.sealedW, Tag.poison].contains (s.movRd q a).tag))
      && (wordAddrs dst m).all fun a => !([Tag.code, Tag.sealedW, Tag.poison].contains (s.movRd q a).tag)
  else (wordAddrs src n).all (fun a => byteTags.contains (s.movRd q a).tag)
    && (wordAddrs dst m).all fun a => byteTags.contains (s.movRd q a).tag

/-- Move one chunk's bytes: whole words with their tags where the offsets agree, bytes elsewhere (R291). -/
def State.movMove (s : State) (q src dst n : Nat) : State :=
  if src % 8 = dst % 8 then
    let head := min n ((8 - src % 8) % 8)
    let words := (n - head) / 8
    let tail := n - head - 8 * words
    let hb := s.movBytes q src head
    let tb := s.movBytes q (src + head + 8 * words) tail
    let s := s.movPut q 2 dst hb
    let s := s.movCopy q (src + head) ((List.range words).map fun i => dst + head + 8 * i)
    s.movPut q 2 (dst + head + 8 * words) tb
  else s.movPut q (n / 8 + 2) dst (s.movBytes q src n)

/-- MOVER_CHUNK: the next chunk of a run, which ends at each 4 KiB boundary of the source or the destination; the
appended CRC is the last one (R291, R292). -/
def State.opMoverChunk (c : Nat) (s : State) : State :=
  match s.cmp.runs.find c with
  | none => s
  | some r =>
    let q := r.owner
    let (f, s) := s.takeForce (movSrc c) 1
    if r.abort then s.movEnd c r St.cancelled
    else if r.fail || f then s.movEnd c r St.internalError
    else if r.done < r.count then
      let src := r.src + r.done
      let dst := r.dst + r.done
      let n := min (r.count - r.done) (min (4096 - src % 4096) (4096 - dst % 4096))
      if !s.movValid q src n ∨ !s.movValid q dst n then s.movEnd c r St.invalidField
      else if !s.movTagsOk q src n dst n then s.movEnd c r St.tagMismatch
      else
        let r := { r with crc := movCrc r.crcSel r.crc (s.movBytes q src n), done := r.done + n }
        let s := (s.movMove q src dst n).wf (aMov c 0x30) 39 0 r.done
        if r.done = r.count ∧ movApp r.crcSel r.append = 0 then s.movEnd c r St.ok
        else { s with cmp := { s.cmp with runs := s.cmp.runs.set c r } }
    else
      let m := movApp r.crcSel r.append
      let dst := r.dst + r.count
      if !s.movValid q dst m then s.movEnd c r St.invalidField
      else if !s.movTagsOk q (dst + 1) 0 dst m then s.movEnd c r St.tagMismatch
      else (s.movPut q 3 dst (leBytes m (movChk r.crcSel r.crc).toNat)).movEnd c r St.ok

/-- MOVER_ABORT: an aborted run stops before its next chunk (R294). -/
def State.opMoverAbort (c : Nat) (s : State) : State :=
  match s.cmp.runs.find c with
  | some r => if r.abort then s.movEnd c r St.cancelled else s
  | none => s

end Sys2Proof.Machine
end

