-- ==== Sys2Proof/Machine/PartOps.lean ====
section
/-!
DEFINITION. The life of a partition (10_partitions.md), its Extent Map (R189–R191), dirty tracking, migration between
modules (R244–R249), service entries (R237) and the Partition Control Page (R452).
-/
namespace Sys2Proof.Machine

/-! ## Pairs of a partition -/

/-- Pairs that serve partition q with role ACTIVE and are present. -/
def State.pairsOf (s : State) (q : Nat) : List Nat := (List.range 48).filter fun p => s.pairPresent p && s.activePair q p

/-- LOGICAL of a pair. -/
def State.logical (s : State) (p : Nat) : Nat := s.rf (aPair p 0) 21 16

/-- SPARE pairs on the die of pair p. -/
def State.sparesOf (s : State) (p : Nat) : Nat :=
  ((List.range 24).filter fun k => s.rf (aPair (p / 24 * 24 + k) 0) 1 0 == 2).length

/-- Key of a lost processor's image. -/
def lostKey (q l : Nat) : Nat := q * 64 + l

/-- Discard every lost-processor image of a partition (R240). -/
def State.dropLost (s : State) (q : Nat) : State :=
  { s with parts := { s.parts with
      lost := s.parts.lost.filter (fun t => t.1 / 64 ≠ q), lostSel := s.parts.lostSel.del q } }

/-! ## The Extent Map (R189–R191) -/

/-- Address of the Extent Map register of slot i. -/
def aExt (q : Nat) (cas : Bool) (i : Nat) : Nat := aPart q ((if cas then 0xC00 else 0x800) + 8 * i)

/-- A register address is an Extent Map entry of the kind. -/
def isExt (cas : Bool) (a : Nat) : Bool :=
  0x300000 ≤ a && a < 0x33F000
    && (if cas then 0xC00 ≤ a % 0x1000 && a % 0x1000 < 0xF00 else 0x800 ≤ a % 0x1000 && a % 0x1000 < 0xC00)

/-- Another entry of any partition maps the extent, MAPPED or UNMAPPING. -/
def State.extentTaken (s : State) (cas : Bool) (a ext : Nat) : Bool :=
  s.regs.any fun t => t.1 != a && isExt cas t.1 && fld t.2 1 0 != 0 && fld t.2 14 8 == ext

/-- The extent exists (R166, R174). -/
def State.extentExists (s : State) (cas : Bool) (ext : Nat) : Bool :=
  if cas then !s.fuse.small && ext < 96 && 2 * (ext % 4 + 1) ≤ s.rf (aCoh (ext / 4) 0) 35 32
  else decide (ext < s.hbmExtents)

/-- First PA and size of an extent. -/
def extentPa (cas : Bool) (ext : Nat) : Nat × Nat :=
  if cas then (0x3F0000000000 + ext * 0x100000, 0x100000) else (ext * 0x40000000, 0x40000000)

/-- First partition-real address and size of a slot. -/
def slotPra (cas : Bool) (i : Nat) : Nat × Nat :=
  if cas then (0x3F0000000000 + i * 0x100000, 0x100000) else (i * 0x40000000, 0x40000000)

/-- A line lies in a range of PAs. -/
def lineIn (r : Nat × Nat) (line : Nat) : Bool := r.1 ≤ line * 128 && line * 128 < r.1 + r.2

/-- Start unmapping an entry (R191 steps 1 and 2): UNMAPPING, and every TLB entry derived from it goes; queues whose
rings it held halt (R270). -/
def State.unmapStart (s : State) (q : Nat) (cas : Bool) (i : Nat) : State :=
  let s := s.wf (aExt q cas i) 1 0 2
  let (b, n) := slotPra cas i
  let tlb := s.core.tlb.vmap fun es => es.filter fun e => !(e.part == q && b ≤ e.ppage * 4096 && e.ppage * 4096 < b + n)
  ({ s with core := { s.core with tlb := tlb }
            mem := { s.mem with unmapping := s.mem.unmapping ++ [(q, cas, i)] } }).pqUnmapped q

/-- Apply a write to an Extent Map entry (R190). -/
def State.extentWrite (s : State) (q : Nat) (cas : Bool) (i : Nat) (v : Word) (be : Byte) : State :=
  let a := aExt q cas i
  let old := s.rd a
  let new := s.merged a v be
  let st := fld new 1 0
  let ext := fld new 14 8
  if fld old 1 0 = 2 ∨ 2 ≤ st then s
  else if fld old 1 0 = 1 then
    if ext ≠ fld old 14 8 then s
    else if st = 0 then s.unmapStart q cas i else s
  else if st = 0 then s.applyRw a v be
  else if s.partState q = 7 ∨ !s.extentExists cas ext ∨ s.extentTaken cas a ext then s
  else s.applyRw a v be

/-- EXTENT_MAP_WRITE. -/
def State.opExtentWrite (w : Writer) (q : Nat) (cas : Bool) (i : Nat) (v : Word) (be : Byte) (s : State) : State :=
  if q = 0 ∨ 63 < q then s else s.mgmt w (aExt q cas i) v be fun s => s.extentWrite q cas i v be

/-- Lines of a range that any cache or buffer holds. -/
def State.cachedIn (s : State) (r : Nat × Nat) : List Nat :=
  ((s.coh.l2.flatMap fun t => t.2.lines.map (·.1) ++ t.2.wb.map (·.line)) ++ s.coh.l3.map (·.1)
    ++ s.coh.evb.map (·.1)).filter (lineIn r)

/-- An access already translated into a range is still under way: in a gate, a miss, a message or a transaction. -/
def State.accessing (s : State) (r : Nat × Nat) : Bool :=
  (s.core.procs.any fun t => t.2.gate.any fun e => lineIn r (e.pa / 128))
    || (s.coh.l2.any fun t => t.2.miss.any fun m => lineIn r m.1)
    || s.coh.txn.any (fun t => lineIn r t.1) || s.coh.blocked.any (lineIn r)
    || s.coh.msgs.any fun m => match m with
      | .request _ l _ _ => lineIn r l
      | .snpShared _ l => lineIn r l
      | .snpClean _ l => lineIn r l
      | .snpInv _ l => lineIn r l
      | .answer _ l _ _ => lineIn r l
      | .grant _ l _ _ => lineIn r l
      | .ready _ l => lineIn r l
      | .wback _ l => lineIn r l
      | .nack _ l => lineIn r l
      | .atomicDone _ l _ => lineIn r l

/-- UNMAP_DONE: no access through the entry is left; every line of the extent is written back and dropped, and the
entry becomes INVALID (R191 steps 3 to 5). -/
def State.opUnmapDone (q : Nat) (cas : Bool) (i : Nat) (s : State) : State :=
  let a := aExt q cas i
  if q = 0 ∨ 63 < q ∨ (cas ∧ 96 ≤ i) ∨ s.rf a 1 0 ≠ 2 then s
  else
    let r := extentPa cas (s.rf a 14 8)
    if s.accessing r then s
    else
      let s := (s.cachedIn r).foldl (fun s l => s.recall l) s
      let s := s.wf a 1 0 0
      ({ s with mem := { s.mem with unmapping := s.mem.unmapping.filter (· ≠ (q, cas, i)) } }).pqUnmapped q

/-- The MAPPED and UNMAPPING entries of a partition: kind and slot. -/
def State.extentsOf (s : State) (q : Nat) : List (Bool × Nat) :=
  s.regs.filterMap fun t =>
    if (t.1 - 0x300000) / 0x1000 + 1 = q ∧ fld t.2 1 0 ≠ 0 then
      if isExt false t.1 then some (false, (t.1 % 0x1000 - 0x800) / 8)
      else if isExt true t.1 then some (true, (t.1 % 0x1000 - 0xC00) / 8)
      else none
    else none

/-! ## Quotas and partition registers (R226, R230) -/

/-- The quota rules of R230 hold for a register value: `o` is the offset written (WINBOX 0x10, WOQ 0x18, XTQ 0x20). -/
def State.quotaOk (s : State) (q o : Nat) (v : Word) : Bool :=
  let woq := if o = 0x18 then v else s.rd (aPart q 0x18)
  let xtq := if o = 0x20 then v else s.rd (aPart q 0x20)
  let log2 := if o = 0x10 then fld v 52 48 else s.rf (aPart q 0x10) 52 48
  let room := fld woq 48 32 + fld xtq 48 32 ≤ 2 ^ log2
  if o = 0x10 then 6 ≤ log2 && log2 ≤ 17 && 9 ≤ fld v 59 56 && fld v 59 56 ≤ 16 && room
  else
    let mn := fld v 16 0
    let mx := fld v 48 32
    let other (r : Nat) : Nat := if r = q then mn else if o = 0x18 then s.woMin r else s.xtMin r
    let sum := ((List.range 64).map other).sum
    let size := if o = 0x18 then 32768 else 65536
    decide (mn ≤ mx) && decide (mx ≤ size) && decide (sum ≤ size) && room

/-- Apply a write to PART_WINBOX, PART_WOQ or PART_XTQ (R226, R230). -/
def State.quotaWrite (s : State) (q o : Nat) (v : Word) (be : Byte) : State :=
  let a := aPart q o
  let new := s.merged a v be
  if o = 0x10 ∧ s.partState q ≠ 0 ∧ s.partState q ≠ 1 ∧ s.partState q ≠ 4 then s
  else if s.quotaOk q o new then s.applyRw a v be else s

/-- Apply a write to PART_SHARE: a field with a value outside its range keeps its own (10_partitions.md). -/
def State.shareWrite (s : State) (q : Nat) (v : Word) (be : Byte) : State :=
  let a := aPart q 0x28
  let old := s.rd a
  let s := s.applyRw a v be
  let new := s.rd a
  let c := fld new 9 0
  let h := fld new 25 16
  let new := if 1 ≤ c ∧ c ≤ 1000 then new else setFld new 9 0 (fld old 9 0)
  let new := if 1 ≤ h ∧ h ≤ 1000 then new else setFld new 25 16 (fld old 25 16)
  s.wr a (if fld new 33 32 = 3 then setFld new 33 32 (fld old 33 32) else new)

/-- Apply a write to PART_MVSLOT (R227, R294): a channel held by another partition's slot is refused; a slot whose
channel runs keeps it until CTRL.DONE. -/
def State.mvslotWrite (s : State) (q d : Nat) (v : Word) (be : Byte) : State :=
  let a := aPart q (0x100 + 8 * d)
  let old := s.rd a
  let new := s.merged a v be
  let ch := fld new 5 0
  let owner := movOwner s ch
  if new.getLsbD 6 ∧ owner ≠ 0 ∧ owner ≠ q then s
  else if old.getLsbD 6 ∧ (!new.getLsbD 6 ∨ fld old 5 0 ≠ ch) then
    match s.cmp.runs.find (fld old 5 0) with
    | some r => { s with cmp := { s.cmp with runs := s.cmp.runs.set (fld old 5 0) { r with leave := some (a, new) } } }
    | none => s.applyRw a v be
  else s.applyRw a v be

/-! ## Dirty tracking (R244, R245) -/

/-- Apply a write to PART_MIG: setting TRACK, or SNAP while no scan runs, starts a scan; SNAP swaps CUR first. -/
def State.migWrite (s : State) (q : Nat) (v : Word) (be : Byte) : State :=
  let a := aPart q 0x40
  let track := s.rb a 0
  let busy := s.rb a 3
  let s := s.applyRw a v be
  let snap := wrote1 v be 1 && !busy
  let s := if snap then s.wb a 2 (!s.rb a 2) else s
  if snap || (!track && s.rb a 0) then s.wb a 3 true else s

/-- DIRTY_TRACK_START and SNAP: a management write of PART_MIG. -/
def State.opMigWrite (w : Writer) (q : Nat) (v : Word) (be : Byte) (s : State) : State :=
  if q = 0 ∨ 63 < q then s else s.mgmt w (aPart q 0x40) v be fun s => s.migWrite q v be

/-! ## Life of a partition (R225) -/

/-- Set PART_STATUS.STATE. -/
def State.partGo (s : State) (q st : Nat) : State := s.wf (aPart q 8) 3 0 st

/-- The state that the saved configuration restores (R440). -/
def State.keepPart (s : State) (q st : Nat) : State :=
  { s with boot := { s.boot with savedParts := if st = 0 then s.boot.savedParts.del q else s.boot.savedParts.set q st } }

/-- Receipt windows of a partition, host and peer, are cleared. -/
def State.clearWindows (s : State) (q : Nat) : State :=
  { s with host := { s.host with wins := s.host.wins.filter fun t => t.1 / 512 ≠ q }
           xchg := { s.xchg with pwins := s.xchg.pwins.del q } }

/-- The command CREATE is allowed (R225, R226, R450). -/
def State.createOk (s : State) (q : Nat) : Bool :=
  s.partState q == 0 && s.inboxMapped q && s.rd (aPart q 0x50) != 0
    && s.rd (aPart q 0x50) != s.fuse.ident.truncate 64

/-- CREATE. -/
def State.create (s : State) (q : Nat) : State :=
  let s := (((s.partGo q 1).wf (aPart q 8) 7 4 0).clearWindows q).keepPart q 1
  s.setInbox q {}

/-- Start the pairs of a partition (R45, R225). A pair under reset starts when its reset ends. -/
def State.startPart (s : State) (q : Nat) : State :=
  let s := (s.partGo q 2).keepPart q 2
  (s.pairsOf q).foldl (fun s p => if s.core.resetting.contains p then s else s.startPair p) s

/-- Resume one processor at THAW: an imported image, where it stopped, or from the state of R45. -/
def State.thawCore (s : State) (q c : Nat) : State :=
  let p := c / 2
  let l := s.logical p
  let res := s.parts.resume.get [] q
  match res.find? (fun t => t.1 == l + 64 * (if s.split then c % 2 else 0)) with
  | some t => s.startImage c t.2
  | none =>
    let x := s.proc c
    if x.running then
      (s.setProc c { x with frozen := false }).wf (aPair p 8) 2 0 (if x.parked then 1 else 0)
    else
      let a := s.startArch p
      (s.setProc c { running := true, a := a, ckpt := a, seq := x.seq }).wf (aPair p 8) 2 0 0

/-- THAW: processors resume and admission resumes. -/
def State.thaw (s : State) (q : Nat) : State :=
  let s := (s.partGo q 2).keepPart q 2
  let s := (s.procsOf q).foldl (fun s c =>
    if s.core.resetting.contains (c / 2) || s.fencedProc c then s else s.thawCore q c) s
  { s with parts := { s.parts with resume := s.parts.resume.del q } }

/-- Enter DESTROYING: keys begin their erasure and entries their unmapping; the mailboxes of the partition are cleared
(R225, R243); a Migration Key is erased (R247). -/
def State.destroy (s : State) (q : Nat) : State :=
  let s := (s.partGo q 7).keepPart q 0
  let s := (s.pairsOf q).foldl (fun s p => s.stopPair p) s
  let s := ((MbId.part (Fin.ofNat 64 q)) :: s.mbIncoming q).foldl (fun s m => s.mbClear m) s
  let s := (s.cry.vault.filter fun t => t.1 / 16384 = q).foldl (fun s t => s.vDestroy q (t.1 % 16384) (.domain q)) s
  let s := (s.extentsOf q).foldl (fun s e =>
    if s.rf (aExt q e.1 e.2) 1 0 = 1 then s.unmapStart q e.1 e.2 else s) s
  { s with parts := { s.parts with
      migKey := s.parts.migKey.filter (· ≠ q), migImage := s.parts.migImage.del q, migBytes := s.parts.migBytes.del q
      migRecs := s.parts.migRecs.del q, resume := s.parts.resume.del q } }

/-- Every request, run and commit of a partition has finished (R225, R234 step 3). -/
def State.drained (s : State) (q : Nat) : Bool :=
  s.cry.reqs.all (fun t => t.2.part != q) && s.cmp.reqs.all (fun t => t.2.part != q)
    && s.cmp.runs.all (fun t => t.2.owner != q) && s.jrn.commits.all (fun r => r.to_.part != q)
    && s.jrn.ring.all fun e => match e.ack with
      | some t => t.part != q || e.acked || e.never
      | none => true

/-- FREEZE_DONE (R225, R234). -/
def State.opFreezeDone (q : Nat) (s : State) : State :=
  if 1 ≤ q ∧ q ≤ 63 ∧ s.partState q = 3 ∧ s.allStopped q ∧ s.drained q then s.partGo q 4 else s

/-- Release a pair of a partition that ends (R225): FENCED stays, others become SPARE, or OFF where SPARE would be the
seventh of its die; a pair in LOADING drops its image. -/
def State.releasePair (s : State) (p : Nat) : State :=
  let old := s.rd (aPair p 0)
  let role := if fld old 1 0 = 3 then 3
    else if 6 ≤ (s.wf (aPair p 0) 1 0 0).sparesOf p then 0 else 2
  let s := if s.rf (aPair p 8) 2 0 = 6 then
      { (s.wf (aPair p 8) 2 0 5) with core := { s.core with images := s.core.images.del p } }
    else s
  s.wr (aPair p 0) (BitVec.ofNat 64 role)

/-- A register that the module returns to its reset value, with its CHANGE record (R469). -/
def State.resetReg (s : State) (a : Nat) (f : Word → Word) : State :=
  let before := s.rd a
  let after := f before
  if before = after then s
  else (s.wr a after).changeRec (changeBytes a before after after .steward false false 0xFF)

/-- DESTROY_DONE (R225, R469): the key domain is erased and every entry unmapped; pairs, quotas and every entry that the
partition still holds are released, and it is NONE. -/
def State.opDestroyDone (q : Nat) (s : State) : State :=
  if q = 0 ∨ 63 < q ∨ s.partState q ≠ 7 ∨ s.cry.vault.any (fun t => t.1 / 16384 == q) ∨ s.extentsOf q ≠ [] then s
  else
    let s := ((List.range 48).filter fun p => s.rf (aPair p 0) 13 8 == q).foldl (fun s p => s.releasePair p) s
    let s := s.dropLost q
    let s := (s.host.wo.filter fun t => t.2.part == q).foldl (fun s t => s.freeWo t.1) s
    let s := (s.xchg.table.filter fun t => t.2.ctx == q).foldl (fun s t => s.freeXt t.1) s
    let mine (t : Nat × Req) : Bool := t.2.part != q
    let s := { s with
      cry := { s.cry with reqs := s.cry.reqs.filter mine, queues := s.cry.queues.filter fun t => t.1 / 32 ≠ q
                          combos := s.cry.combos.del q }
      cmp := { s.cmp with reqs := s.cmp.reqs.filter mine, queues := s.cmp.queues.filter fun t => t.1 / 32 ≠ q }
      xchg := { s.xchg with queues := s.xchg.queues.filter fun t => t.1 / 32 ≠ q }
      parts := { s.parts with inbox := s.parts.inbox.del q, froze := s.parts.froze.del q } }
    let s := s.clearWindows q
    let s := [0x18, 0x20, 0x28, 0x30].foldl (fun s o =>
      s.resetReg (aPart q o) fun _ => regReset s.fuse.small (aPart q o)) s
    let s := s.resetReg (aCry (0x800 + 8 * q)) fun _ => regReset s.fuse.small (aCry (0x800 + 8 * q))
    let s := (List.range 32).foldl (fun s d => s.resetReg (aPart q (0x100 + 8 * d)) fun v => setBit v 6 false) s
    s.partGo q 0

/-! ## Service entries (R237, R372, R378, R437) -/

/-- The 32 bytes of the final completion of a restored exchange, SAG_RESUMED as its entry says (R329). -/
def State.xServiceBytes (s : State) (x : Nat) : Bytes :=
  let e := s.xt x
  (xComplWords x e e.status.toNat e.orig.toNat (xWritten e) false false).flatMap fun w => leBytes 8 w.toNat

/-- SERVICE_ENTRY_DELIVER: the oldest waiting service entry of partition q goes into a free slot. -/
def State.opServiceDeliver (q slot : Nat) (s : State) : State :=
  let b := s.inbox q
  if q = 0 ∨ 63 < q ∨ !s.slotFree q slot then s
  else match b.waiting with
    | [] => s
    | (k, _) :: t =>
      let s := s.setInbox q { b with waiting := t }
      match k with
      | .feed jsn =>
        match s.dpx.mirror.find? fun e => e.r.jsn = jsn with
        | some e => s.fillSlot q slot k
            { receipt := e.r.receipt, origin := 3, index := 0x1FFFF, service := 1, arg := jsn, domain := e.r.domain }
            (recBytes e.r)
        | none => s
      | .xcomplete x =>
        let e := s.xt x
        (s.fillSlot q slot k
          { receipt := e.receipt, origin := 3, index := x, service := 2, arg := e.user, domain := e.domain }
          (s.xServiceBytes x)).freeXt x
      | .xrestore x =>
        let e := s.xt x
        s.fillSlot q slot k
          { receipt := e.receipt, origin := 3, index := x, service := 3, arg := e.user, domain := e.domain } (xtBytes e)
      | _ => s

/-- The lowest free number of a sorted table from `n` on. -/
def lowestFree {α : Type} : Tbl α → Nat → Nat
  | [], n => n
  | (k, _) :: t, n => if k = n then lowestFree t (n + 1) else n

/-- Start a CANCEL of the module's own for a restored exchange (R336, R437). The spec gives it no Receipt, so the
Receipt is a free value (log entry 1). -/
def State.cancelRestored (s : State) (x : Nat) : State :=
  let e := s.xt x
  let (r, s) := s.draw
  let c := lowestFree s.xchg.table 0
  let s := s.setXt x { e with state := .cancelling, wait := false, deadline := none, cancelOf := some c }
  (s.setXt c { state := .issued, xtype := 4, cls := e.cls, ctx := e.ctx, group := e.group, receipt := r
               domain := e.domain, address := e.receipt, admitted := s.time, cancelOf := some x, own := true }).xIssue c

/-- A post of an XRESTORE entry (R437): OK re-drives, CANCELLED cancels; the slot is then free. Any other status leaves
the exchange open until the next post. -/
def State.postRestore (s : State) (q slot x : Nat) (st : BitVec 8) : State :=
  let e := s.xt x
  if !e.wait then s.freeSlot q slot
  else if st = St.ok then ((s.freeSlot q slot).setXt x { e with wait := false }).xRedrive x
  else if st = St.cancelled then (s.freeSlot q slot).cancelRestored x
  else s

/-! ## The Partition Control Page (R236, R238, R240, R452, R453) -/

/-- The response bytes of a MESSAGE that its partition posts, checked as R55, R56 and R189 give. -/
def State.postMessage (s : State) (q slot x n : Nat) (st : BitVec 8) (result : Word) : State :=
  let a := s.slotPay q slot
  if !s.mapped q a n then s.inPosted x St.invalidField result []
  else if !s.noTags q a n [Tag.sealedW, Tag.poison] then s.inPosted x St.tagMismatch result []
  else s.inPosted x st result (s.readBytes q a n)

/-- A write of WI_POST (R236). -/
def State.wiPost (s : State) (q i : Nat) : State :=
  let h := s.slotHdr q i
  let n := ((s.readPra q (h + 0x38)).val.toNat) % 2 ^ 32
  let st : BitVec 8 := ((s.readPra q (h + 0x38)).val >>> 32).truncate 8
  let res := (s.readPra q (h + 0x30)).val
  match (s.inbox q).slots.find i with
  | some x =>
    if !x.claimed ∨ s.entrySize q < n then s.wb (aPart q 8) 10 true
    else match x.kind with
      | .work e => (s.hostPosted e i n st res).freeSlot q i
      | .message e => (s.postMessage q i e n st res).freeSlot q i
      | .feed jsn =>
        let s := s.freeSlot q i
        let m := s.dpx.mirror.map fun (e : MEnt) => if e.r.jsn = jsn then { e with fed := true } else e
        ({ s with dpx := { s.dpx with mirror := m } }).freeMirror
      | .xrestore e => s.postRestore q i e st
      | _ => s.freeSlot q i
  | none => s.wb (aPart q 8) 10 true

/-- A write of the IPI register (R238, R453): bit i for logical processor i of the partition. -/
def State.ipi (s : State) (q : Nat) (mask : Word) : State :=
  (s.procsOf q).foldl (fun s c => if mask.getLsbD (s.logical (c / 2)) then s.eventOne c evIpi else s) s

/-- A write of the JCOMMIT register by core c (R344, R345, R372). -/
def State.jcommit (s : State) (q c addr : Nat) : State :=
  if s.dpxState = 3 then
    if addr % 8 ≠ 0 ∨ !s.mapped q addr 64 then s.eventOne c evCommit
    else s.writeAck { core := c, part := q, addr := addr, noEvent := (s.readPra q addr).val.getLsbD 8 }
      St.unsupported false false 0
  else
    let r : CommitReq := { to_ := { core := c, part := q, addr := addr } }
    let s := { s with jrn := { s.jrn with commits := s.jrn.commits ++ [r] } }
    s.setProc c { (s.proc c) with inCommit := true }

/-- The word of a lost processor's image that LOST_IMAGE shows (R240): a SEALED G register reads 0. -/
def lostWord (m : ProcImg) (o : Nat) : Word :=
  if 0x100 ≤ o ∧ o < 0x200 ∧ (m.a.g.get {} ((o - 0x100) / 8)).tag = Tag.sealedW then 0 else ckptWord m o

/-- Which queue register a page offset names: kind, number and offset within its group. -/
def pageQueue (off : Nat) : Option (QK × Nat × Nat) :=
  if off < 0x800 then some (.cry, off / 0x40, off % 0x40)
  else if off < 0x1000 then some (.cmp, (off - 0x800) / 0x40, off % 0x40)
  else if off < 0x1200 then some (.xch, (off - 0x1000) / 0x40, off % 0x40)
  else none

/-- The Mover channel behind a slot, if it is held. -/
def State.slotChannel (s : State) (q d : Nat) : Option Nat :=
  let v := s.rd (aPart q (0x100 + 8 * d))
  if v.getLsbD 6 then some (fld v 5 0) else none

/-- Mailbox view of a page offset: the mailbox, whether the page is the sender's, and the offset (R452, R453). -/
def State.pageMbox (s : State) (q off : Nat) : Option (MbId × Bool × Nat) :=
  if 0x3000 ≤ off ∧ off < 0x3080 then (s.boundVf 0 q).map fun v => (.vf 0 (Fin.ofNat 64 v), false, off - 0x3000)
  else if 0x3080 ≤ off ∧ off < 0x3100 then (s.boundVf 1 q).map fun v => (.vf 1 (Fin.ofNat 64 v), false, off - 0x3080)
  else if 0x3100 ≤ off ∧ off < 0x3180 then some (.part (Fin.ofNat 64 q), true, off - 0x3100)
  else none

/-- A read of partition q's page at an offset, in supervisor state or not (R236, R240, R452, R453): the word, and the
state after a read that acts. -/
def State.pageRead (s : State) (q off : Nat) (super : Bool) : Word × State :=
  if off % 8 ≠ 0 ∨ 0x10000 ≤ off then (0, s)
  else match pageQueue off with
    | some (k, n, o) => (s.pqRead k q n o, s)
    | none =>
      if 0x2000 ≤ off ∧ off < 0x2800 then
        match s.slotChannel q ((off - 0x2000) / 0x40) with
        | some c => (if off % 0x40 < 0x38 then s.peek (aMov c (off % 0x40)) else 0, s)
        | none => (0, s)
      else match s.pageMbox q off with
        | some (m, _, o) => (mboxWord (s.mb m) o, s)
        | none =>
          if off = 0x4000 then
            match s.claim q with
            | (some i, s) => (BitVec.ofNat 64 i, s)
            | (none, s) => (0x8000000000000000, s)
          else if off = 0x4010 then (s.rd (aPart q 0x10), s)
          else if !super then (0, s)
          else if off = 0x4028 then (BitVec.ofNat 64 (s.parts.lostSel.get 0 q), s)
          else if off = 0x4030 then
            (BitVec.ofNat 64 ((s.parts.lost.filter fun t => t.1 / 64 = q).map fun t => 2 ^ (t.1 % 64)).sum, s)
          else if 0x5000 ≤ off ∧ off < 0x5420 then
            match s.parts.lost.find (lostKey q (s.parts.lostSel.get 0 q)) with
            | some m => (lostWord m (off - 0x5000 + 0x100), s)
            | none => (0, s)
          else (0, s)

/-- A write of partition q's page by core c (R236, R238, R240, R452, R453). -/
def State.pageWrite (s : State) (q off : Nat) (v : Word) (c : Nat) (super : Bool) : State :=
  if off % 8 ≠ 0 ∨ 0x10000 ≤ off then s
  else match pageQueue off with
    | some (k, n, o) =>
      let s := s.pqWriteReg k q n o v c
      if k = .xch ∧ o = 0x20 then
        (s.xtWhere fun e => e.ctx == q && e.queue == n && e.interim).foldl (fun s x => s.xInterim x) s
      else s
    | none =>
      if 0x2000 ≤ off ∧ off < 0x2800 then
        match s.slotChannel q ((off - 0x2000) / 0x40) with
        | some ch => if off % 0x40 < 0x38 then s.movWrite ch (off % 0x40) v 0xFF c else s
        | none => s
      else match s.pageMbox q off with
        | some (m, sender, o) =>
          if o < 0x40 then s.mbMsg m sender (o / 8) v 0xFF
          else if o = 0x40 ∧ sender then s.mbPost m v 0xFF
          else if o = 0x48 ∧ !sender then s.mbAck m v 0xFF
          else s
        | none =>
          if off = 0x4008 then s.wiPost q (fld v 16 0)
          else if off = 0x4018 then s.ipi q v
          else if off = 0x4020 then s.jcommit q c (fld v 45 0)
          else if off = 0x4028 ∧ super then
            let l := fld v 5 0
            let s := { s with parts := { s.parts with lostSel := s.parts.lostSel.set q l } }
            if v.getLsbD 8 then { s with parts := { s.parts with lost := s.parts.lost.del (lostKey q l) } } else s
          else s

/-! ## Mailbox commands (R241–R243, R451) -/

/-- MBOX_DB_WRITE: a function page write of a host, a page write of a partition, or a management write of this module's
Steward firmware for the mailbox to the partner. -/
def State.opMboxDb (w : Writer) (m : MbId) (v : Word) (be : Byte) (s : State) : State :=
  match m with
  | .pf port => if s.hostUp port.val then s.mbPost m v be else s
  | .vf port f => if f ≠ 0 ∧ s.hostUp port.val ∧ s.fnHere port.val f.val then s.mbPost m v be else s
  | .part q => if q = 0 then s else s.mbPost m v be
  | .partnerIn => s
  | .partnerOut => s.mgmt w 0x6001C0 v be fun s => s.mbPost m v be

/-- MBOX_ACK_WRITE: a management write of a receiver view in MBX, or a page write of the bound partition. -/
def State.opMboxAck (w : Writer) (m : MbId) (v : Word) (be : Byte) (s : State) : State :=
  match m with
  | .vf port f => if f ≠ 0 ∧ s.vfPart port.val f.val ≠ 0 then s.mbAck m v be else s
  | .part q => if q = 0 then s else s.mgmt w (0x600048 + 0x80 * mbKey m) v be fun s => s.mbAck m v be
  | .partnerOut => s
  | _ => s.mgmt w (0x600048 + 0x80 * mbKey m) v be fun s => s.mbAck m v be

/-! ## Shares (R232) -/

/-- SHARE_PERIOD: the period of the current tick begins and usage counts from 0. -/
def State.opSharePeriod (s : State) : State :=
  let k := s.time.toNat / 40000
  if k = s.parts.period then s
  else { s with parts := { s.parts with period := k, eclk := [], bytes := [] } }

end Sys2Proof.Machine
end

