-- ==== Sys2Proof/Machine/Flags.lean ====
section
/-!
DEFINITION. The condition-code forms of R94 and R110, and the conditions that BC and CB test (R95).
-/
namespace Sys2Proof.Machine

/-- A condition code from its two bits. -/
def ccBits (hi lo : Bool) : BitVec 2 := BitVec.ofNat 2 ((if hi then 2 else 0) + (if lo then 1 else 0))

/-- Carry form (R94): CC[1] the carry out or borrow, CC[0] the result is not zero. -/
def ccCarry (carry : Bool) (r : Word) : BitVec 2 := ccBits carry (r != 0)

/-- Carry out of Ga + Gb + c (R110). -/
def carryOut (a b : Word) (c : Nat) : Bool := decide (2 ^ 64 ≤ a.toNat + b.toNat + c)

/-- Borrow of Ga − Gb − c (R110). -/
def borrowOut (a b : Word) (c : Nat) : Bool := decide (a.toNat < b.toNat + c)

/-- The carry-in CC[1]. -/
def carryIn (cc : BitVec 2) : Nat := cc.toNat / 2

/-- Compare form (R94), signed. -/
def ccSigned (a b : Word) : BitVec 2 := if a = b then 0 else if a.toInt < b.toInt then 1 else 2

/-- Compare form (R94), unsigned. -/
def ccUnsigned (a b : Word) : BitVec 2 := if a = b then 0 else if a.toNat < b.toNat then 1 else 2

/-- Compare form over integers: 0 equal, 1 low, 2 high. -/
def ccInt (a b : Int) : BitVec 2 := if a = b then 0 else if a < b then 1 else 2

/-- Decimal form (R94, R128): 0 zero, 1 negative, 2 positive, 3 overflow. -/
def ccDecimal (neg : Bool) (mag : Nat) (overflow : Bool) : BitVec 2 :=
  if overflow then 3 else if mag = 0 then 0 else if neg then 1 else 2

/-- Swap form (R94): 0 stored, 1 not stored. -/
def ccSwap (stored : Bool) : BitVec 2 := if stored then 0 else 1

/-- BC branches (R95). -/
def bcTaken (cond : BitVec 3) (cc : BitVec 2) : Bool :=
  match cond.toNat with
  | 0 => cc == 0
  | 1 => cc == 1
  | 2 => cc == 2
  | 3 => cc == 3
  | 4 => cc != 0
  | 5 => cc != 3
  | 6 => cc == 1 || cc == 2
  | _ => true

/-- CB branches (R95); none for a reserved condition. -/
def cbTaken (cond : BitVec 3) (a b : Word) : Option Bool :=
  match cond.toNat with
  | 0 => some (a == b)
  | 1 => some (a != b)
  | 2 => some (decide (a.toInt < b.toInt))
  | 3 => some (decide (b.toInt ≤ a.toInt))
  | 4 => some (decide (a.toNat < b.toNat))
  | 5 => some (decide (b.toNat ≤ a.toNat))
  | _ => none

end Sys2Proof.Machine
end

