-- ==== Sys2Proof/Machine/Operands.lean ====
section
/-!
DEFINITION. An instruction word under execution: the working state that an operation of it changes, the exceptions that
suppress it (R70), register operands (R47), the tag classes of R49 and R50, and what an operation folds into the MISR
(R28).
-/
namespace Sys2Proof.Machine

/-- A suppressing or completing exception (R70) with the fields of ECAUSE that it sets (R72), C4, and the number of free
values drawn up to it. -/
structure Exc where
  code : Nat := 0
  slot : Bool := false
  operand : Nat := 0
  tag : Tag := 0
  mem : Bool := false
  addr : Word := 0
  detail : Nat := 0
  free : Nat := 0
deriving DecidableEq, Repr

/-- An instruction word under execution. -/
structure X where
  /-- Architectural state as the word's operations leave it; its PC is the word's own. -/
  a : Arch := {}
  /-- Free values drawn. -/
  free : Nat := 0
  /-- Pair Store Gate entries that the word makes, oldest first. -/
  ents : List GateEnt := []
  /-- Translations that its walks install (R187). -/
  fills : List TlbEnt := []
  /-- Contributions to the MISR, oldest first (R28). -/
  folds : List Word := []
  /-- Units that it counts (R29). -/
  units : Nat := 0
  /-- Target of a taken branch. -/
  next : Option Word := none
  /-- The word starts a hardware loop: R65 is not applied to it. -/
  starts : Bool := false
  /-- The window closes after the word (R29). -/
  close : Bool := false
  /-- The next word waits for the word's stores to be released (R92). -/
  ser : Bool := false
  /-- Completing exceptions (R70), slot A's first. -/
  late : List Exc := []
  /-- WAIT: the processor waits for these events (R69). -/
  wait : Option Word := none
  /-- FENCE.IO: the engines' writes for the partition are visible (R83). -/
  fio : Bool := false
  /-- Line that PREF prefetches (R169). -/
  pref : Option Nat := none
  /-- An external operation's result, kept until its window passes (R32). -/
  kept : Option (ExtOp × TWord) := none
deriving DecidableEq, Repr

/-- What an instruction word does, for a core, from the state before it: a suppressing exception, or the word done. -/
abbrev Insn := State → Nat → X → Except Exc X

/-! ## Registers -/

/-- G register n (R47). -/
def gr (a : Arch) (n : Nat) : TWord := if n = 0 then {} else a.g.get {} n

/-- Write G register n; G0 discards it (R47). -/
def setG (a : Arch) (n : Nat) (w : TWord) : Arch := if n = 0 then a else { a with g := a.g.put {} n w }

/-- F register n. -/
def fr (a : Arch) (n : Nat) : Word := a.f.get 0 n

/-- Write F register n. -/
def setF (a : Arch) (n : Nat) (w : Word) : Arch := { a with f := a.f.put 0 n w }

/-- Control register n as stored. -/
def cr (a : Arch) (n : Nat) : Word := a.c.get 0 n

/-- Store control register n. -/
def setC (a : Arch) (n : Nat) (w : Word) : Arch := { a with c := a.c.put 0 n w }

/-- Supervisor state (R58). -/
def super (a : Arch) : Bool := a.psw0.getLsbD 0
/-- Lenient tag checking (R50). -/
def lenient (a : Arch) : Bool := a.psw0.getLsbD 6
/-- CODE words may be written (R53). -/
def codeWrite (a : Arch) : Bool := a.psw0.getLsbD 0 && a.psw0.getLsbD 5

/-! ## Contributions to the MISR (R28) -/

/-- The contribution of an operation: result value V, effective address A, store data D, and the word K. -/
def contrib (v a d : Word) (k : Nat) : Word :=
  v ^^^ a.rotateLeft 13 ^^^ d.rotateLeft 29 ^^^ (BitVec.ofNat 64 (k % 2 ^ 16)).rotateLeft 47

/-- One step of the MISR. -/
def misrStep (m c : Word) : Word :=
  if m.getLsbD 63 then (m <<< 1) ^^^ 0xB000000000000001 ^^^ c else (m <<< 1) ^^^ c

/-- An operation of one unit retires with its contribution. -/
def X.done (x : X) (v a d : Word) (k : Nat) : X :=
  { x with folds := x.folds ++ [contrib v a d k], units := x.units + 1 }

/-- K of a result with a tag. -/
def kRes (t : Tag) : Nat := t.toNat
/-- K of a store of data with a tag. -/
def kStore (t : Tag) : Nat := 16 * t.toNat
/-- K of a branch. -/
def kBranch (taken : Bool) : Nat := 256 + (if taken then 512 else 0)

/-- The operation ends by writing G register d. -/
def X.retG (x : X) (d : Nat) (w : TWord) (ea : Word := 0) : X :=
  { x with a := setG x.a d w }.done w.val ea 0 (kRes w.tag)

/-- The operation ends by writing F register d. -/
def X.retF (x : X) (d : Nat) (w : Word) (ea : Word := 0) : X :=
  { x with a := setF x.a d w }.done w ea 0 (kRes Tag.binfp)

/-- The operation ends with a new CC and no other result. -/
def X.retCc (x : X) (cc : BitVec 2) : X := { x with a := { x.a with cc := cc } }.done 0 0 0 0

/-! ## Exceptions of operands -/

/-- A Tag exception of a register operand among `ts`. The spec numbers no operand positions, and does not say which of
several wrong operands is reported: both are free values (log entry 1). -/
def X.tagExc (x : X) (ts : List Tag) : Exc :=
  let w := (Config.freeWord x.free).toNat
  { code := 6, operand := w % 8, tag := ts.getD (w / 8 % ts.length) 0, free := x.free + 1 }

/-- A Tag exception of a memory operand. -/
def X.memTagExc (x : X) (t : Tag) : Exc :=
  { code := 6, operand := (Config.freeWord x.free).toNat % 8, tag := t, mem := true, free := x.free + 1 }

/-- An Alignment (7) or Data Integrity (10) exception; the operand position is a free value (log entry 1). -/
def X.memExc (x : X) (code : Nat) (addr : Word) : Exc :=
  { code := code, operand := (Config.freeWord x.free).toNat % 8, mem := true, addr := addr, free := x.free + 1 }

/-- Another exception. -/
def X.exc (x : X) (code : Nat) : Exc := { code := code, free := x.free }

/-- An address that is not canonical (R52, R108): Data Translation with the address in C4. R186 gives no REASON and no
level for it: those are a free value (log entry 1). -/
def X.addrExc (x : X) (code : Nat) (addr : Word) (store : Bool) : Exc :=
  { code := code, addr := addr, free := x.free + 1
    detail := (Config.freeWord x.free).toNat % 64 + (if store then 64 else 0) }

/-- Go on if a condition holds, otherwise raise. -/
def need (c : Bool) (e : Exc) (k : Except Exc X) : Except Exc X := if c then k else .error e

/-- Register operands whose tags are all accepted. -/
def needTags (x : X) (ok : Tag → Bool) (ws : List TWord) (k : Except Exc X) : Except Exc X :=
  match (ws.map TWord.tag).filter fun t => !ok t with
  | [] => k
  | ts => .error (x.tagExc ts)

/-! ## Tag classes (R46, R49, R50) -/

/-- A tag that R46 reserves. -/
def tagReserved (t : Tag) : Bool := decide (9 ≤ t.toNat ∧ t.toNat ≤ 13)
/-- UNTYPED only. -/
def isU (t : Tag) : Bool := t == Tag.untyped
/-- POINTER or UNTYPED: an address operand. -/
def isPU (t : Tag) : Bool := t == Tag.pointer || t == Tag.untyped
/-- Any tag but SEALED (R49); POISON never stands in a register (R56), reserved tags raise Tag (R46). -/
def isAny (t : Tag) : Bool := !(t == Tag.sealedW || t == Tag.poison || tagReserved t)
/-- BINFP, or UNTYPED in Lenient checking. -/
def isB (ln : Bool) (t : Tag) : Bool := t == Tag.binfp || (ln && t == Tag.untyped)
/-- DECIMAL, or UNTYPED in Lenient checking. -/
def isD (ln : Bool) (t : Tag) : Bool := t == Tag.decimal || (ln && t == Tag.untyped)
/-- TEXT, or UNTYPED in Lenient checking. -/
def isT (ln : Bool) (t : Tag) : Bool := t == Tag.text || (ln && t == Tag.untyped)
/-- Tags of byte data (R51, R77). -/
def isByte (t : Tag) : Bool :=
  t == Tag.untyped || t == Tag.binfp || t == Tag.decimal || t == Tag.text || t == Tag.user
/-- Tags of the logical class. -/
def isLogical (t : Tag) : Bool := t == Tag.untyped || t == Tag.text || t == Tag.user

/-- Result tag of an addition (R49), none where the operands are not accepted. -/
def addTag (a b : Tag) : Option Tag :=
  if a = Tag.untyped ∧ b = Tag.untyped then some Tag.untyped
  else if a = Tag.pointer ∧ b = Tag.untyped then some Tag.pointer
  else if a = Tag.time ∧ b = Tag.untyped then some Tag.time
  else none

/-- Result tag of a subtraction (R49). -/
def subTag (a b : Tag) : Option Tag :=
  if (a = Tag.pointer ∧ b = Tag.pointer) ∨ (a = Tag.time ∧ b = Tag.time) then some Tag.untyped else addTag a b

/-- Result tag of a logical operation (R49). -/
def logTag (a b : Tag) : Option Tag :=
  if !(isLogical a && isLogical b) then none
  else if a = b then some a
  else if a = Tag.untyped then some b
  else if b = Tag.untyped then some a
  else none

/-- Operand tags that a comparison accepts (R49). -/
def cmpTags (a b : Tag) : Bool := isAny a && isAny b && (a == b || a == Tag.untyped || b == Tag.untyped)

/-! ## Immediates (R88) -/

/-- sext() of a field. -/
def sx {n : Nat} (v : BitVec n) : Word := v.signExtend 64
/-- zext() of a field. -/
def zx {n : Nat} (v : BitVec n) : Word := v.zeroExtend 64

/-- The address of a branch target: the word's address plus 4 × disp (R88). -/
def X.target (x : X) (disp : Word) : Word := x.a.pc + 4 * disp

end Sys2Proof.Machine
end

