-- ==== Sys2Proof/Machine/IntOps.lean ====
section
/-!
DEFINITION. Integer, logical, compare, move and tag operations on registers (R97, R98, R101, R109–R112), as operations
of an instruction word.
-/
namespace Sys2Proof.Machine

/-! ## Shared shapes -/

/-- UNTYPED operands, UNTYPED result, no CC. -/
def opU2 (f : Word → Word → Word) (d a b : Nat) : Insn := fun _ _ x =>
  let u := gr x.a a
  let v := gr x.a b
  needTags x isU [u, v] (.ok (x.retG d ⟨f u.val v.val, Tag.untyped⟩))

/-- One UNTYPED operand; field b must be 0 (R88). -/
def opU1 (f : Word → Word) (d a b : Nat) : Insn := fun _ _ x =>
  let u := gr x.a a
  need (b == 0) (x.exc 3) (needTags x isU [u] (.ok (x.retG d ⟨f u.val, Tag.untyped⟩)))

/-- A result with the carry form of CC (R110). -/
def opCarry (f : Word → Word → Nat → Word) (c : Word → Word → Nat → Bool) (useIn : Bool) (d a b : Nat) : Insn :=
  fun _ _ x =>
  let u := gr x.a a
  let v := gr x.a b
  let i := if useIn then carryIn x.a.cc else 0
  let r := f u.val v.val i
  needTags x isU [u, v]
    (.ok ({ x with a := { x.a with cc := ccCarry (c u.val v.val i) r } }.retG d ⟨r, Tag.untyped⟩))

/-- An addition or subtraction of two words under R49 and R108; `chk` raises Data Translation for a POINTER result whose
bits [63:48] are not zero. -/
def X.sum (x : X) (t : Tag → Tag → Option Tag) (chk : Bool) (r : Word) (d : Nat) (u v : TWord) : Except Exc X :=
  match t u.tag v.tag with
  | none => .error (x.tagExc [u.tag, v.tag])
  | some k =>
    if chk && k == Tag.pointer && r >>> 48 != 0 then .error (x.addrExc 8 r false) else .ok (x.retG d ⟨r, k⟩)

/-- A logical operation (R49). -/
def X.logic (x : X) (f : Word → Word → Word) (d : Nat) (u v : TWord) : Except Exc X :=
  match logTag u.tag v.tag with
  | none => .error (x.tagExc [u.tag, v.tag])
  | some k => .ok (x.retG d ⟨f u.val v.val, k⟩)

/-- A comparison (R49). -/
def X.compare (x : X) (f : Word → Word → BitVec 2) (u v : TWord) : Except Exc X :=
  if cmpTags u.tag v.tag then .ok (x.retCc (f u.val v.val)) else .error (x.tagExc [u.tag, v.tag])

/-- An immediate operand: UNTYPED (R98). -/
def immU (v : Word) : TWord := ⟨v, Tag.untyped⟩

/-! ## Arithmetic -/

/-- ADD. -/
def iAdd (d a b : Nat) : Insn := fun _ _ x =>
  x.sum addTag true ((gr x.a a).val + (gr x.a b).val) d (gr x.a a) (gr x.a b)
/-- SUB. R97 and R108 name no exception for a POINTER result of SUB. -/
def iSub (d a b : Nat) : Insn := fun _ _ x =>
  x.sum subTag false ((gr x.a a).val - (gr x.a b).val) d (gr x.a a) (gr x.a b)
/-- ADDI. -/
def iAddi (d a : Nat) (imm : Word) : Insn := fun _ _ x =>
  x.sum addTag true ((gr x.a a).val + imm) d (gr x.a a) (immU imm)
/-- LA: a POINTER from a POINTER or UNTYPED base. -/
def iLa (d a : Nat) (imm : Word) : Insn := fun _ _ x =>
  let u := gr x.a a
  needTags x isPU [u]
    (if (u.val + imm) >>> 48 != 0 then .error (x.addrExc 8 (u.val + imm) false)
     else .ok (x.retG d ⟨u.val + imm, Tag.pointer⟩))
/-- ADDU. -/
def iAddu : Nat → Nat → Nat → Insn := opCarry (fun a b _ => a + b) carryOut false
/-- SUBU. -/
def iSubu : Nat → Nat → Nat → Insn := opCarry (fun a b _ => a - b) borrowOut false
/-- ADDC. -/
def iAddc : Nat → Nat → Nat → Insn := opCarry (fun a b c => a + b + BitVec.ofNat 64 c) carryOut true
/-- SUBB. -/
def iSubb : Nat → Nat → Nat → Insn := opCarry (fun a b c => a - b - BitVec.ofNat 64 c) borrowOut true

/-- The exact signed product, as 128 bits. -/
def prodS (a b : Word) : BitVec 128 := BitVec.ofInt 128 (a.toInt * b.toInt)
/-- The exact unsigned product, as 128 bits. -/
def prodU (a b : Word) : BitVec 128 := BitVec.ofNat 128 (a.toNat * b.toNat)
/-- Bits [127:64]. -/
def hi64 (p : BitVec 128) : Word := p.extractLsb' 64 64
/-- Bits [63:0]. -/
def lo64 (p : BitVec 128) : Word := p.extractLsb' 0 64

/-- MUL. -/
def iMul : Nat → Nat → Nat → Insn := opU2 (fun a b => a * b)
/-- MULH. -/
def iMulh : Nat → Nat → Nat → Insn := opU2 (fun a b => hi64 (prodS a b))
/-- MULHU. -/
def iMulhu : Nat → Nat → Nat → Insn := opU2 (fun a b => hi64 (prodU a b))
/-- MULW, MULWU (R111): Gd high, Gd+1 low; d even. The spec does not say how two results enter V of R28: a free value. -/
def iMulw (p : Word → Word → BitVec 128) (d a b : Nat) : Insn := fun _ _ x =>
  let u := gr x.a a
  let v := gr x.a b
  let r := p u.val v.val
  need (d % 2 == 0) (x.exc 3) (needTags x isU [u, v]
    (.ok ({ x with a := setG (setG x.a d ⟨hi64 r, Tag.untyped⟩) (d + 1) ⟨lo64 r, Tag.untyped⟩
                   free := x.free + 1 }.done (Config.freeWord x.free) 0 0 0)))

/-- The divisions (R97, R112): `bad` says when Divide is raised. -/
def iDivide (bad : Word → Word → Bool) (f : Word → Word → Word) (d a b : Nat) : Insn := fun _ _ x =>
  let u := gr x.a a
  let v := gr x.a b
  needTags x isU [u, v]
    (need (!bad u.val v.val) (x.exc 0x0C) (.ok (x.retG d ⟨f u.val v.val, Tag.untyped⟩)))
/-- DIV. -/
def iDiv : Nat → Nat → Nat → Insn :=
  iDivide (fun a b => b == 0 || (a == 0x8000000000000000 && b == 0xFFFFFFFFFFFFFFFF))
    (fun a b => BitVec.ofInt 64 (Int.tdiv a.toInt b.toInt))
/-- DIVU. -/
def iDivu : Nat → Nat → Nat → Insn := iDivide (fun _ b => b == 0) (fun a b => BitVec.ofNat 64 (a.toNat / b.toNat))
/-- REM: the sign of Ga. -/
def iRem : Nat → Nat → Nat → Insn :=
  iDivide (fun _ b => b == 0) (fun a b => BitVec.ofInt 64 (Int.tmod a.toInt b.toInt))
/-- REMU. -/
def iRemu : Nat → Nat → Nat → Insn := iDivide (fun _ b => b == 0) (fun a b => BitVec.ofNat 64 (a.toNat % b.toNat))

/-! ## Logical operations and shifts -/

/-- AND, OR, XOR, ANDN. -/
def iLogic (f : Word → Word → Word) (d a b : Nat) : Insn := fun _ _ x => x.logic f d (gr x.a a) (gr x.a b)
/-- ANDI, ORI, XORI. -/
def iLogicI (f : Word → Word → Word) (d a : Nat) (imm : Word) : Insn := fun _ _ x =>
  x.logic f d (gr x.a a) (immU imm)
/-- NOT. -/
def iNot (d a b : Nat) : Insn := fun _ _ x =>
  need (b == 0) (x.exc 3) (x.logic (fun u _ => ~~~ u) d (gr x.a a) (gr x.a a))

/-- Shift kinds of R97 and of SHI's imm15[7:6]. -/
inductive Shift where
  | shl | shr | sra | rotl
deriving DecidableEq, Repr

/-- A shift or rotate by an amount below 64. -/
def shiftBy (k : Shift) (v : Word) (n : Nat) : Word :=
  match k with
  | .shl => v <<< n
  | .shr => v >>> n
  | .sra => v.sshiftRight n
  | .rotl => v.rotateLeft n

/-- SHL, SHR, SRA, ROTL: the amount is Gb[5:0]. -/
def iShift (k : Shift) : Nat → Nat → Nat → Insn := opU2 (fun a b => shiftBy k a (b.toNat % 64))

/-- The shift kind that imm15[7:6] names. -/
def shiftKind (n : Nat) : Shift :=
  match n with
  | 0 => .shl
  | 1 => .shr
  | 2 => .sra
  | _ => .rotl

/-- SHI (R98). -/
def iShi (d a : Nat) (imm : BitVec 15) : Insn := fun s c x =>
  need (imm.toNat / 256 == 0) (x.exc 3)
    (opU1 (fun v => shiftBy (shiftKind (imm.toNat / 64 % 4)) v (imm.toNat % 64)) d a 0 s c x)

/-- SHLI and SHRI of a short operation (R90): amount 0–31. -/
def iShiftI (k : Shift) (d : Nat) (n : Nat) : Insn := opU1 (fun v => shiftBy k v n) d d 0

/-! ## Comparison, moves, counts -/

/-- CMP, CMPU; d must be 0. -/
def iCmp (f : Word → Word → BitVec 2) (d a b : Nat) : Insn := fun _ _ x =>
  need (d == 0) (x.exc 3) (x.compare f (gr x.a a) (gr x.a b))
/-- CMPI, CMPUI. -/
def iCmpI (f : Word → Word → BitVec 2) (d a : Nat) (imm : Word) : Insn := fun _ _ x =>
  need (d == 0) (x.exc 3) (x.compare f (gr x.a a) (immU imm))

/-- MOV: any tag but SEALED. -/
def iMov (d a b : Nat) : Insn := fun _ _ x =>
  need (b == 0) (x.exc 3) (needTags x isAny [gr x.a a] (.ok (x.retG d (gr x.a a))))
/-- MOVS: SEALED only (R54). -/
def iMovs (d a b : Nat) : Insn := fun _ _ x =>
  need (b == 0) (x.exc 3) (needTags x (· == Tag.sealedW) [gr x.a a] (.ok (x.retG d (gr x.a a))))

/-- Leading zeros. -/
def clz (v : Word) : Nat := ((List.range 64).takeWhile fun i => !v.getLsbD (63 - i)).length
/-- Trailing zeros. -/
def ctz (v : Word) : Nat := ((List.range 64).takeWhile fun i => !v.getLsbD i).length
/-- One bits. -/
def popc (v : Word) : Nat := ((List.range 64).filter fun i => v.getLsbD i).length

/-- MIN, MAX, MINU, MAXU: the second operand when `lt b a`, else the first. -/
def pick (lt : Word → Word → Bool) (a b : Word) : Word := if lt b a then b else a
/-- Signed below. -/
def ltS (a b : Word) : Bool := decide (a.toInt < b.toInt)
/-- Unsigned below. -/
def ltU (a b : Word) : Bool := decide (a.toNat < b.toNat)
/-- Signed above. -/
def gtS (a b : Word) : Bool := ltS b a
/-- Unsigned above. -/
def gtU (a b : Word) : Bool := ltU b a

/-- Each byte of a word mapped. -/
def mapBytes (f : Byte → Byte) (v : Word) : Word :=
  BitVec.ofNat 64 (ofLe ((leBytes 8 v.toNat).map f))
/-- TXUP of a byte. -/
def upByte (b : Byte) : Byte := if 0x61 ≤ b.toNat ∧ b.toNat ≤ 0x7A then b - 0x20 else b
/-- TXLOW of a byte. -/
def lowByte (b : Byte) : Byte := if 0x41 ≤ b.toNat ∧ b.toNat ≤ 0x5A then b + 0x20 else b
/-- TXUP, TXLOW: TEXT words. -/
def iText (f : Byte → Byte) (d a b : Nat) : Insn := fun _ _ x =>
  need (b == 0) (x.exc 3)
    (needTags x (isT (lenient x.a)) [gr x.a a] (.ok (x.retG d ⟨mapBytes f (gr x.a a).val, Tag.text⟩)))

/-! ## Constants -/

/-- INS16 (R98): the reserved field must be 0. -/
def iIns16 (d rsv k : Nat) (imm : BitVec 16) : Insn := fun _ _ x =>
  let u := gr x.a d
  need (rsv == 0) (x.exc 3)
    (needTags x isU [u] (.ok (x.retG d ⟨setFld u.val (16 * k + 15) (16 * k) imm.toNat, Tag.untyped⟩)))
/-- MOVI. -/
def iMovi (d : Nat) (imm : Word) : Insn := fun _ _ x => .ok (x.retG d ⟨imm, Tag.untyped⟩)

/-! ## Tags (R101) -/

/-- GETTAG. -/
def iGettag (d a b : Nat) : Insn := fun _ _ x =>
  need (b == 0) (x.exc 3) (.ok (x.retG d ⟨(gr x.a a).tag.zeroExtend 64, Tag.untyped⟩))
/-- SETTAG (R49, R61, R108): CODE only in supervisor state with CW; SEALED, POISON and reserved tags raise Tag. -/
def iSettag (d a b : Nat) : Insn := fun _ _ x =>
  let u := gr x.a a
  let v := gr x.a b
  let t : Tag := v.val.truncate 4
  need (t != Tag.code || super x.a) (x.exc 4)
    (needTags x isAny [u] (needTags x isU [v]
      (needTags x (fun t => isAny t && (t != Tag.code || codeWrite x.a)) [⟨0, t⟩] (.ok (x.retG d ⟨u.val, t⟩)))))
/-- RCPT: a Receipt of the processor's partition. -/
def iRcpt (d a b : Nat) : Insn := fun _ _ x =>
  let u := gr x.a a
  let v := gr x.a b
  needTags x isU [u, v]
    (.ok (x.retG d
      ⟨setFld (setFld (setFld 0 63 57 (fld (cr x.a 21) 5 0)) 56 48 (fld v.val 8 0)) 47 0 (fld u.val 47 0), Tag.receipt⟩))

end Sys2Proof.Machine
end

