-- ==== Sys2Proof/Machine/XlatOps.lean ====
section
/-!
DEFINITION. Address translation (R184–R189), words as a processor sees them through its Pair Store Gate (R31, R78), and
the checks of a load or store (R48, R51–R53, R56).
-/
namespace Sys2Proof.Machine

/-! ## Translation -/

/-- Kinds of access. -/
inductive Acc where
  | fetch | load | store
deriving DecidableEq, Repr

/-- Where a walk ended (R186): a leaf entry with its level, a fault with REASON and level, or a POISON entry. -/
inductive WalkRes where
  | leaf (level : Nat) (e : Word)
  | fault (reason level : Nat)
  | poison
deriving DecidableEq, Repr

/-- A table entry at a level is bad (R185, R186). -/
def badEntry (level : Nat) (w : TWord) : Bool :=
  let e := w.val
  let leaf := e.getLsbD 7
  w.tag != Tag.untyped || fld e 63 46 != 0 || (leaf && e.getLsbD 2 && !e.getLsbD 1)
    || (level == 0 && leaf) || (level == 3 && !leaf)
    || (leaf && level == 2 && fld e 20 12 != 0) || (leaf && level == 1 && fld e 29 12 != 0)

/-- The walk from a table on, level by level (R184, R186). -/
def State.walk (s : State) (q va : Nat) : List Nat → Nat → WalkRes
  | [], _ => .fault 2 3
  | l :: ls, base =>
    let a := base + 8 * (va / 2 ^ (39 - 9 * l) % 512)
    if (s.xlat q a).isNone then .fault 6 l
    else
      let w := s.readPra q a
      if w.tag == Tag.poison then .poison
      else if !w.val.getLsbD 0 then .fault 1 l
      else if badEntry l w then .fault 2 l
      else if w.val.getLsbD 7 then .leaf l w.val
      else s.walk q va ls (fld w.val 45 12 * 4096)

/-- Page size of a leaf, as a power of two. -/
def pageLog2 (level : Nat) : Nat := 39 - 9 * level

/-- Level of a page size. -/
def levelOf (log2 : Nat) : Nat := (39 - log2) / 9

/-- The REASON for which permission bits (V0 R1 W2 X3 U4 A5 D6) refuse an access, none where they permit it (R186). -/
def permFault (sup : Bool) (xctl e : Word) (k : Acc) : Option Nat :=
  let u := e.getLsbD 4
  let no := match k with
    | .fetch => !e.getLsbD 3 || (sup && u) || (!sup && !u)
    | .load => !e.getLsbD 1 || (!sup && !u) || (sup && u && !xctl.getLsbD 0)
    | .store => !e.getLsbD 2 || (!sup && !u) || (sup && u && !xctl.getLsbD 0)
  if no then some 3
  else if !e.getLsbD 5 && xctl.getLsbD 1 then some 4
  else if k == .store && !e.getLsbD 6 && xctl.getLsbD 2 then some 5
  else none

/-- A translation that the pair's TLBs hold for a VA (R187). -/
def State.tlbHit (s : State) (p q asid va : Nat) : Option TlbEnt :=
  (s.core.tlb.get [] p).find? fun t => t.part = q ∧ t.asid = asid ∧ va / 2 ^ t.log2 = t.vpage

/-- The exception of a translation (R186): Instruction or Data Translation with REASON, level and direction; C4 holds
the VA of a data access. -/
def X.xlatExc (x : X) (k : Acc) (va : Word) (reason level : Nat) : Exc :=
  { code := if k = .fetch then 1 else 8, addr := if k = .fetch then 0 else va, free := x.free
    detail := reason + 16 * level + (if k = .store then 64 else 0) }

/-- The final PA of a partition-real address, NO_EXTENT where it has none (R189). -/
def State.toPa (s : State) (q : Nat) (x : X) (k : Acc) (va : Word) (pra level : Nat) : Except Exc (Nat × X) :=
  match s.xlat q pra with
  | some pa => .ok (pa, x)
  | none => .error (x.xlatExc k va 6 level)

/-- Translate an address for an access (R52, R184–R189). With translation off the address is partition-real, and the
level of a NO_EXTENT is a free value (log entry 1). A translation held by a TLB is used or not (R187, R188). -/
def State.translate (s : State) (c : Nat) (x : X) (k : Acc) (va : Word) : Except Exc (Nat × X) :=
  let q := s.partOf c
  let code := if k = .fetch then 1 else 8
  if va >>> 48 != 0 then
    .error { x.addrExc code va (decide (k = .store)) with addr := if k = .fetch then 0 else va }
  else if super x.a && !x.a.psw0.getLsbD 4 then
    match s.xlat q va.toNat with
    | some pa => .ok (pa, x)
    | none => .error { x.xlatExc k va 6 ((Config.freeWord x.free).toNat % 4) with free := x.free + 1 }
  else
    let asid := fld (cr x.a 0) 11 0
    let walked : Except Exc (Nat × X) :=
      match s.walk q va.toNat [0, 1, 2, 3] (fld (cr x.a 0) 45 12 * 4096) with
      | .poison => .error (x.memExc 10 (if k = .fetch then 0 else va))
      | .fault r l => .error (x.xlatExc k va r l)
      | .leaf l e =>
        let n := pageLog2 l
        match permFault (super x.a) (cr x.a 9) e k with
        | some r => .error (x.xlatExc k va r l)
        | none =>
          let t : TlbEnt := { asid := asid, part := q, vpage := va.toNat / 2 ^ n
                              ppage := fld e 45 12 * 4096 / 2 ^ n, perms := fld e 6 0, log2 := n }
          s.toPa q { x with fills := x.fills ++ [t] } k va (fld e 45 12 * 4096 + va.toNat % 2 ^ n) l
    match s.tlbHit (c / 2) q asid va.toNat with
    | none => walked
    | some t =>
      if Config.tlbUse x.free then
        let x := { x with free := x.free + 1 }
        match permFault (super x.a) (cr x.a 9) (BitVec.ofNat 64 t.perms) k with
        | some r => .error (x.xlatExc k va r (levelOf t.log2))
        | none => s.toPa q x k va (t.ppage * 2 ^ t.log2 + va.toNat % 2 ^ t.log2) (levelOf t.log2)
      else walked

/-! ## Words through the Pair Store Gate -/

/-- A word after a gate entry. -/
def applyEnt (pa : Nat) (w : TWord) (e : GateEnt) : TWord :=
  if e.kind = .store ∧ e.pa / 8 * 8 = pa then
    ⟨splice w.val (e.pa % 8) (leBytes e.size e.data.val.toNat), if e.keep then w.tag else e.data.tag⟩
  else w

/-- The word at an aligned PA as core c sees it: the coherent word with its own earlier stores (R31, R78). -/
def State.seen (s : State) (c : Nat) (x : X) (pa : Nat) : TWord :=
  (x.ents).foldl (applyEnt pa) ((s.proc c).gate.foldl (applyEnt pa) (s.readPa pa))

/-- The word addressed by a load, checked for alignment to `n` bytes, translation and POISON (R52, R56): the word, the
offset of the address in it, the state. -/
def State.fetchWord (s : State) (c : Nat) (x : X) (va : Word) (n : Nat) : Except Exc (TWord × Nat × X) :=
  if va.toNat % n ≠ 0 then .error (x.memExc 7 va)
  else match s.translate c x .load va with
    | .error e => .error e
    | .ok (pa, x) =>
      let w := s.seen c x (pa / 8 * 8)
      if w.tag == Tag.poison then .error (x.memExc 10 va) else .ok (w, pa % 8, x)

/-- Raise Code Protection where a CODE word may not be written (R53). -/
def codeProt (a : Arch) (new old : Tag) : Bool := (new == Tag.code || old == Tag.code) && !codeWrite a

/-- A gate entry of `n` bytes at a PA. -/
def X.put (x : X) (pa n : Nat) (w : TWord) (keep : Bool) : X :=
  { x with ents := x.ents ++ [{ kind := .store, pa := pa, size := n, data := w, keep := keep }] }

/-- An 8-byte store (R52, R53). -/
def State.storeWord (s : State) (c : Nat) (x : X) (va : Word) (w : TWord) : Except Exc X :=
  if va.toNat % 8 ≠ 0 then .error (x.memExc 7 va)
  else match s.translate c x .store va with
    | .error e => .error e
    | .ok (pa, x) =>
      if codeProt x.a w.tag (s.seen c x (pa / 8 * 8)).tag then .error { x.exc 9 with addr := va }
      else .ok ((x.put pa 8 w false).done 0 va w.val (kStore w.tag))

/-- A partial store of `n` bytes (R51–R53, R56). -/
def State.storePart (s : State) (c : Nat) (x : X) (va : Word) (n : Nat) (w : TWord) : Except Exc X :=
  needTags x isByte [w]
    (if va.toNat % n ≠ 0 then .error (x.memExc 7 va)
     else match s.translate c x .store va with
      | .error e => .error e
      | .ok (pa, x) =>
        let old := s.seen c x (pa / 8 * 8)
        if codeProt x.a w.tag old.tag then .error { x.exc 9 with addr := va }
        else if old.tag == Tag.poison then .error (x.memExc 10 va)
        else if !isByte old.tag then .error { x.memTagExc old.tag with addr := va }
        else if w.tag != old.tag && w.tag != Tag.untyped then .error (x.tagExc [w.tag])
        else .ok ((x.put pa n w true).done 0 va (setFld 0 (8 * n - 1) 0 w.val.toNat) (kStore w.tag)))

/-! ## Loads and stores (R99, R101) -/

/-- An effective address from address operands: POINTER or UNTYPED (R49). -/
def X.address (x : X) (ws : List TWord) (va : Word) (k : Word → Except Exc X) : Except Exc X :=
  needTags x isPU ws (k va)

/-- LD: any tag but SEALED; POISON raised before. -/
def ldWord (d : Nat) (va : Word) : Insn := fun s c x =>
  match s.fetchWord c x va 8 with
  | .error e => .error e
  | .ok (w, _, x) =>
    if isAny w.tag then .ok (x.retG d w va) else .error { x.memTagExc w.tag with addr := va }

/-- LB to LWU: a field of `n` bytes, sign- or zero-extended, with the word's tag (R51). -/
def ldPart (n : Nat) (signed : Bool) (d : Nat) (va : Word) : Insn := fun s c x =>
  match s.fetchWord c x va n with
  | .error e => .error e
  | .ok (w, o, x) =>
    let v := fld w.val (8 * (o + n) - 1) (8 * o)
    let v : Word := if signed && decide (2 ^ (8 * n - 1) ≤ v) then BitVec.ofNat 64 (v + 2 ^ 64 - 2 ^ (8 * n))
      else BitVec.ofNat 64 v
    if isByte w.tag then .ok (x.retG d ⟨v, w.tag⟩ va) else .error { x.memTagExc w.tag with addr := va }

/-- LDF: a BINFP word. -/
def ldFp (d : Nat) (va : Word) : Insn := fun s c x =>
  match s.fetchWord c x va 8 with
  | .error e => .error e
  | .ok (w, _, x) =>
    if isB (lenient x.a) w.tag then .ok (x.retF d w.val va) else .error { x.memTagExc w.tag with addr := va }

/-- MOVS.L: a SEALED word. -/
def ldSealed (d : Nat) (va : Word) : Insn := fun s c x =>
  match s.fetchWord c x va 8 with
  | .error e => .error e
  | .ok (w, _, x) =>
    if w.tag == Tag.sealedW then .ok (x.retG d w va) else .error { x.memTagExc w.tag with addr := va }

/-- TAGM: the tag alone; POISON and SEALED words do not fail (R54, R56). -/
def ldTag (d : Nat) (va : Word) : Insn := fun s c x =>
  if va.toNat % 8 ≠ 0 then .error (x.memExc 7 va)
  else match s.translate c x .load va with
    | .error e => .error e
    | .ok (pa, x) => .ok (x.retG d ⟨(s.seen c x (pa / 8 * 8)).tag.zeroExtend 64, Tag.untyped⟩ va)

/-- ST: any tag but SEALED. -/
def stWord (d : Nat) (va : Word) : Insn := fun s c x =>
  needTags x isAny [gr x.a d] (s.storeWord c x va (gr x.a d))
/-- SB, SH, SW. -/
def stPart (n d : Nat) (va : Word) : Insn := fun s c x => s.storePart c x va n (gr x.a d)
/-- STF: tagged BINFP. -/
def stFp (d : Nat) (va : Word) : Insn := fun s c x => s.storeWord c x va ⟨fr x.a d, Tag.binfp⟩
/-- MOVS.S: a SEALED word. -/
def stSealed (d : Nat) (va : Word) : Insn := fun s c x =>
  needTags x (· == Tag.sealedW) [gr x.a d] (s.storeWord c x va (gr x.a d))

/-- The RRI form: address Ga + sext(imm15). -/
def memImm (f : Nat → Word → Insn) (d a : Nat) (imm : Word) : Insn := fun s c x =>
  needTags x isPU [gr x.a a] (f d ((gr x.a a).val + imm) s c x)

/-- The operation that fn[9:6] selects (R99); none for 13–15. -/
def indexedOp (n : Nat) : Option (Nat → Word → Insn) :=
  match n with
  | 0 => some ldWord
  | 1 => some stWord
  | 2 => some (ldPart 1 true)
  | 3 => some (ldPart 1 false)
  | 4 => some (ldPart 2 true)
  | 5 => some (ldPart 2 false)
  | 6 => some (ldPart 4 true)
  | 7 => some (ldPart 4 false)
  | 8 => some (stPart 1)
  | 9 => some (stPart 2)
  | 10 => some (stPart 4)
  | 11 => some ldFp
  | 12 => some stFp
  | _ => none

/-- INDEXED_ACCESS: address Ga + Gb × scale. -/
def memIndexed (d a b fn : Nat) : Insn := fun s c x =>
  match indexedOp (fn / 64) with
  | none => .error (x.exc 3)
  | some f =>
    let u := gr x.a a
    let v := gr x.a b
    need (fn % 16 == 0) (x.exc 3)
      (needTags x isPU [u, v] (f d (u.val + v.val * BitVec.ofNat 64 (2 ^ (fn / 16 % 4))) s c x))

/-! ## Branches and loops (R64, R95, R100) -/

/-- The word ends as a branch. -/
def X.jump (x : X) (taken : Bool) (target : Word) (v : TWord := {}) : X :=
  { x with next := if taken then some target else x.next }.done v.val 0 0 (kRes v.tag + kBranch taken)

/-- The return address, a POINTER. -/
def X.link (x : X) : TWord := ⟨x.a.pc + 4, Tag.pointer⟩

/-- B. -/
def iB (disp : Word) : Insn := fun _ _ x => .ok (x.jump true (x.target disp))
/-- CALL. -/
def iCall (d : Nat) (disp : Word) : Insn := fun _ _ x =>
  .ok ({ x with a := setG x.a d x.link }.jump true (x.target disp) x.link)
/-- BC. -/
def iBc (cond : BitVec 3) (disp : Word) : Insn := fun _ _ x => .ok (x.jump (bcTaken cond x.a.cc) (x.target disp))
/-- CB. -/
def iCb (cond : BitVec 3) (a b : Nat) (disp : Word) : Insn := fun _ _ x =>
  let u := gr x.a a
  let v := gr x.a b
  match cbTaken cond u.val v.val with
  | none => .error (x.exc 3)
  | some t =>
    if cmpTags u.tag v.tag then .ok (x.jump t (x.target disp)) else .error (x.tagExc [u.tag, v.tag])

/-- A register branch target: POINTER or UNTYPED, 4-byte aligned (R100). -/
def regTarget (x : X) (u : TWord) (k : Except Exc X) : Except Exc X :=
  needTags x isPU [u] (need (u.val.toNat % 4 == 0) { x.memExc 7 0 with mem := false } k)

/-- BR. -/
def iBr (d a b : Nat) : Insn := fun _ _ x =>
  need (d == 0 && b == 0) (x.exc 3) (regTarget x (gr x.a a) (.ok (x.jump true (gr x.a a).val)))
/-- CALLR. -/
def iCallr (d a b : Nat) : Insn := fun _ _ x =>
  need (b == 0) (x.exc 3)
    (regTarget x (gr x.a a) (.ok ({ x with a := setG x.a d x.link }.jump true (gr x.a a).val x.link)))

/-- LOOP (R64). -/
def iLoop (r : Nat) (disp : Word) : Insn := fun _ _ x =>
  let a := x.a
  let n := gr a r
  need (a.depth < 4) (x.exc 5) (needTags x isU [n]
    (if n.val = 0 then .ok (x.jump true (x.target disp + 4))
     else
      let a := { a with lstart := a.lstart.put 0 a.depth (a.pc + 4), lend := a.lend.put 0 a.depth (x.target disp)
                        lcount := a.lcount.put 0 a.depth n.val, depth := a.depth + 1 }
      .ok ({ x with a := a, starts := true }.jump false 0)))

/-- LEXIT (R65): d, s and t must be 0. -/
def iLexit (d r t : Nat) : Insn := fun _ _ x =>
  need (d == 0 && r == 0 && t == 0) (x.exc 3)
    (need (x.a.depth != 0) (x.exc 5)
      (.ok ({ x with a := { x.a with depth := x.a.depth - 1 } }.done 0 0 0 0)))

/-- The address and loop state after the word (R65): a taken branch overrides; otherwise the innermost loop's end is
compared at the depth that the word leaves. -/
def X.advance (x : X) : Arch :=
  let a := x.a
  match x.next with
  | some t => { a with pc := t }
  | none =>
    if !x.starts && decide (0 < a.depth) && a.lend.get 0 (a.depth - 1) == a.pc then
      let n := a.lcount.get 0 (a.depth - 1)
      if 1 < n.toNat then
        { a with lcount := a.lcount.put 0 (a.depth - 1) (n - 1), pc := a.lstart.get 0 (a.depth - 1) }
      else { a with lcount := a.lcount.put 0 (a.depth - 1) 0, depth := a.depth - 1, pc := a.pc + 4 }
    else { a with pc := a.pc + 4 }

end Sys2Proof.Machine
end

