-- ==== Sys2Proof/Machine/CohBase.lean ====
section
/-!
DEFINITION. What a pair's L2 sends (R151, R152, R158–R160), the dirty marking of a line that a pair takes to write (R244),
and atomics (R79, R104, R162, R163).
-/
namespace Sys2Proof.Machine

/-- The L2 of a pair. -/
def State.l2 (s : State) (p : Nat) : L2 := s.coh.l2.get {} p

/-- The state with a pair's L2 replaced. -/
def State.setL2 (s : State) (p : Nat) (l : L2) : State :=
  { s with coh := { s.coh with l2 := s.coh.l2.set p l } }

/-- A coherence message is sent. -/
def State.csend (s : State) (m : CMsg) : State := { s with coh := { s.coh with msgs := s.coh.msgs ++ [m] } }

/-- Core c's pair sends a request that holds a miss entry (R152): nothing while the line has one or all 64 are in use. -/
def State.missReq (s : State) (c line : Nat) (r : CReq) (data : List TWord) : State :=
  let p := c / 2
  let l := s.l2 p
  if (l.miss.find line).isSome || decide (64 ≤ l.miss.length) then s
  else (s.setL2 p { l with miss := l.miss.set line { req := r, half := c % 2 } }).csend (.request p line r data)

/-- State of a line in a pair's L2. -/
def State.l2State (s : State) (p line : Nat) : Moesi :=
  match (s.l2 p).lines.find line with
  | some l => l.st
  | none => .i

/-- Ask for ownership of a line for core c (R151, R158). -/
def State.askOwn (s : State) (c line : Nat) : State :=
  match s.l2State (c / 2) line with
  | .i => s.missReq c line .readOwn []
  | .s => s.missReq c line .upgrade []
  | .o => s.missReq c line .upgrade []
  | _ => s

/-- Partitions whose dirty tracking covers a PA, with the partition-real address there (R244). -/
def State.tracked (s : State) (pa : Nat) : List (Nat × Nat) :=
  ((List.range 63).map (· + 1)).filterMap fun q =>
    if !s.rb (aPart q 0x40) 0 then none
    else if pa < 0x3F0000000000 then
      ((List.range 128).find? fun i =>
        let e := s.rd (aPart q (0x800 + 8 * i)); fld e 1 0 == 1 && fld e 14 8 == pa / 0x40000000).map
        fun i => (q, i * 0x40000000 + pa % 0x40000000)
    else
      let o := pa - 0x3F0000000000
      ((List.range 96).find? fun j =>
        let e := s.rd (aPart q (0xC00 + 8 * j)); fld e 1 0 == 1 && fld e 14 8 == o / 0x100000).map
        fun j => (q, 0x3F0000000000 + j * 0x100000 + o % 0x100000)

/-- A line is taken to be written: the dirty bitmap of its partition is marked (R244). -/
def State.markPa (s : State) (pa : Nat) : State :=
  (s.tracked pa).foldl (fun s t => s.markDirty t.1 t.2) s

/-! ## Atomics -/

/-- Entry of the contention predictor for a line (R162). -/
def predIdx (pa : Nat) : Nat := (pa / 2 ^ 7 % 1024) ^^^ (pa / 2 ^ 17 % 1024)

/-- ATOMIC_POLICY of a processor's partition and the predictor: the atomic runs far (R162, R163). -/
def State.runsFar (s : State) (c pa : Nat) : Bool :=
  match s.rf (aPart (s.partOf c) 0x28) 33 32 with
  | 1 => false
  | 2 => true
  | _ => decide (2 ≤ (s.l2 (c / 2)).pred.get 0 (predIdx pa))

/-- Count the predictor up or down, under PREDICT only (R162, R163). -/
def State.predCount (s : State) (c pa : Nat) (up : Bool) : State :=
  if s.rf (aPart (s.partOf c) 0x28) 33 32 = 0 then
    let l := s.l2 (c / 2)
    let n := l.pred.get 0 (predIdx pa)
    s.setL2 (c / 2) { l with pred := l.pred.put 0 (predIdx pa) (if up then satInc n 3 else n - 1) }
  else s

/-- The word that an atomic stores, none for an ACAS that does not match (R104). -/
def atomNew (fn : Nat) (old b d : TWord) : Option TWord :=
  let u (v : Word) : Option TWord := some ⟨v, Tag.untyped⟩
  match fn with
  | 0 => u (old.val + b.val)
  | 1 => u (old.val &&& b.val)
  | 2 => u (old.val ||| b.val)
  | 3 => u (old.val ^^^ b.val)
  | 4 => some b
  | 5 => if old = d then some b else none
  | 6 => u (pick ltS old.val b.val)
  | 7 => u (pick gtS old.val b.val)
  | 8 => u (pick ltU old.val b.val)
  | _ => u (pick gtU old.val b.val)

/-- The exception that the memory word of an atomic raises (R53, R56, R104): its code, none where it raises none. -/
def atomBad (cw : Bool) (fn : Nat) (old b d : TWord) : Option Nat :=
  let code := match atomNew fn old b d with
    | some w => (w.tag == Tag.code || old.tag == Tag.code) && !cw
    | none => false
  if code then some 9
  else if old.tag == Tag.poison then some 10
  else if !(if fn = 4 ∨ fn = 5 then isAny old.tag else isU old.tag) then some 6
  else none

/-- Write the word of a line that a pair's L2 holds in M or E. Both stores and near atomics mark the dirty bitmap first
(R244). -/
def State.l2Write (s : State) (p pa : Nat) (w : TWord) : State :=
  let l := s.l2 p
  match l.lines.find (pa / 128) with
  | some ln => s.setL2 p { l with
      lines := l.lines.set (pa / 128) { ln with st := .m, data := setWord ln.data (pa % 128 / 8) w } }
  | none => s

/-- Note the pair that last performed an atomic on a line, in the directory entry that it has (R158). -/
def State.lastAtomic (s : State) (p line : Nat) : State :=
  match s.coh.dir.find line with
  | some e => { s with coh := { s.coh with dir := s.coh.dir.set line { e with lastAtomic := some p } } }
  | none => s

/-- An atomic on the aligned word at a PA, near or far (R104, R162): the old word, and the state after it. A near atomic
that has to take the line, and a far one, leave the line at its home. -/
def State.atomicAt (s : State) (c : Nat) (cw : Bool) (fn pa : Nat) (b d : TWord) : TWord × State :=
  let p := c / 2
  let line := pa / 128
  let old := s.readPa pa
  if (atomBad cw fn old b d).isSome then (old, s)
  else
    let st := s.l2State p line
    let here := decide (st = .m) || decide (st = .e)
    let far := s.runsFar c pa
    let elsewhere := match ownerIn s.coh.l2 line with
      | some (o, _) => o != p
      | none => false
    let other := match (s.coh.dir.get {} line).lastAtomic with
      | some o => o != p
      | none => false
    let s := if far then s.predCount c pa other
      else if here then s.predCount c pa false
      else if elsewhere then s.predCount c pa true else s
    let s := match atomNew fn old b d with
      | none => s
      | some w =>
        let s := s.markPa pa
        if !far && here then s.l2Write p pa w else s.writePa pa w
    (old, s.lastAtomic p line)

end Sys2Proof.Machine
end

