-- ==== Sys2Proof/Machine/DecOps.lean ====
section
/-!
DEFINITION. Micro-routines: their bounds and counts (R29, R134–R141), storage operands of any byte address, packed
decimal (R107, R125–R133) and the unit-of-work instructions (R75–R77, R106).
-/
namespace Sys2Proof.Machine

/-! ## Micro-routines -/

/-- MW_BOUND, UNIT_BOUND, STORE_BOUND of a routine by extended opcode (R135). -/
def routineBounds (code : Nat) : Nat × Nat × Nat :=
  match code with
  | 0x100 => (80, 28, 33)
  | 0x101 => (48, 15, 33)
  | 0x102 => (48, 24, 0)
  | 0x103 => (48, 15, 0)
  | 0x104 => (144, 44, 33)
  | 0x105 => (48, 15, 0)
  | 0xD00 => (40, 11, 5)
  | 0xD01 => (40, 11, 5)
  | 0xD02 => (240, 36, 5)
  | 0xD03 => (464, 64, 5)
  | 0xD04 => (464, 64, 5)
  | 0xD05 => (40, 9, 5)
  | 0xD06 => (40, 9, 0)
  | 0xD07 => (40, 11, 5)
  | 0xD08 => (24, 5, 0)
  | 0xD09 => (64, 10, 0)
  | 0xD0A => (200, 29, 5)
  | 0xD0B => (32, 8, 5)
  | 0xD0C => (32, 8, 5)
  | _ => (0, 1, 0)

/-- A patch is loaded (R139). -/
def State.patched (s : State) : Bool := s.rf (aUcs 8) 2 0 == 2

/-- A routine fault (R141), carried as an exception of no architectural code. -/
def faultCode : Nat := 0x100

/-- Run a routine: while a patch is loaded it may break its bounds (R141). -/
def routine (code : Nat) (f : Insn) : Insn := fun s c x =>
  if s.patched && Config.patchFault code x.free then .error { code := faultCode, free := x.free + 1 }
  else f s c { x with free := x.free + 1 }

/-- A routine ends: units for `mw` microwords and `acc` memory accesses (R29, R136); a patched routine may take another
number of microwords (R139). What its microwords fold into the MISR is not stated. -/
def X.routineEnd (x : X) (s : State) (code mw acc : Nat) : X :=
  let b := routineBounds code
  let n := if s.patched then 1 + (Config.freeWord x.free).toNat % b.1 else mw
  { x with units := x.units + min b.2.1 ((n + 7) / 8 + acc), folds := x.folds ++ [Config.microFold code x.free]
           free := x.free + 1 }

/-! ## Storage operands -/

/-- A word that an operand touches: VA, PA, contents as the processor sees them. -/
structure OpWord where
  va : Word
  pa : Nat
  w : TWord
deriving DecidableEq, Repr

/-- Translate every word of an operand for an access (R127). -/
def State.touch (s : State) (c : Nat) (k : Acc) : List Word → X → Except Exc (List OpWord × X)
  | [], x => .ok ([], x)
  | va :: t, x =>
    match s.translate c x k va with
    | .error e => .error e
    | .ok (pa, x) =>
      match s.touch c k t x with
      | .error e => .error e
      | .ok (l, x) => .ok (⟨va, pa / 8 * 8, s.seen c x (pa / 8 * 8)⟩ :: l, x)

/-- The addresses of the words that `n` bytes from `a` on touch: the operand's own address, then aligned ones. -/
def wordVas (a : Word) (n : Nat) : List Word :=
  if n = 0 then []
  else a :: ((List.range ((a.toNat % 8 + n - 1) / 8)).map fun i => BitVec.ofNat 64 ((a.toNat / 8 + 1 + i) * 8))

/-- The bytes of an operand. -/
def opBytes (a : Word) (n : Nat) (l : List OpWord) : Bytes := ((wordBytes (l.map OpWord.w)).drop (a.toNat % 8)).take n

/-- 32-byte blocks that an operand spans (R136). -/
def blocks (a : Word) (n : Nat) : Nat := if n = 0 then 0 else (a.toNat % 32 + n - 1) / 32 + 1

/-- Write bytes over the words of an operand, one gate entry a word (R136): `tag` none keeps each word's tag. -/
def X.putBytes (x : X) (o : Nat) (tag : Option Tag) : List OpWord → Bytes → X
  | [], _ => x
  | w :: t, b =>
    let h := b.take (8 - o)
    if h.isEmpty then x
    else (x.put (w.pa + o) h.length ⟨BitVec.ofNat 64 (ofLe h), tag.getD 0⟩ tag.isNone).putBytes 0 tag t (b.drop (8 - o))

/-- Check the words of memory operands: Code Protection of destination words, POISON, then tags (R53, R56, R70). -/
def checkWords (x : X) (dst : List OpWord) (all : List (OpWord × (Tag → Bool))) (k : Except Exc X) : Except Exc X :=
  match dst.find? fun w => codeProt x.a Tag.untyped w.w.tag with
  | some w => .error { x.exc 9 with addr := w.va }
  | none =>
    match all.find? fun t => t.1.w.tag == Tag.poison && !t.2 Tag.poison with
    | some t => .error (x.memExc 10 t.1.va)
    | none =>
      match all.find? fun t => !t.2 t.1.w.tag with
      | some t => .error { x.memTagExc t.1.w.tag with addr := t.1.va }
      | none => k

/-- Pair operand words with the tags that their position accepts. -/
def withTags (ok : Tag → Bool) (l : List OpWord) : List (OpWord × (Tag → Bool)) := l.map fun w => (w, ok)

/-! ## Packed decimal -/

/-- The value of an operand's bytes (R125, R126): sign and magnitude, none for an invalid nibble. -/
def decGo : Bytes → Nat → Option (Bool × Nat)
  | [], _ => none
  | [b], n =>
    let d := b.toNat / 16
    let g := b.toNat % 16
    if 9 < d ∨ g < 10 then none else some (g == 0xB || g == 0xD, n * 10 + d)
  | b :: t, n =>
    if 9 < b.toNat / 16 ∨ 9 < b.toNat % 16 then none else decGo t (n * 100 + b.toNat / 16 * 10 + b.toNat % 16)

/-- The value as an integer; −0 is 0 (R128). -/
def decVal (b : Bytes) : Option Int := (decGo b 0).map fun r => if r.1 then -(r.2 : Int) else r.2

/-- The bytes of a magnitude and sign in `n` bytes, the least significant digits that fit (R125, R128). -/
def decBytes (n : Nat) (neg : Bool) (mag : Nat) : Bytes :=
  let digit (i : Nat) : Nat := mag / 10 ^ i % 10
  ((List.range (n - 1)).reverse.map fun i => BitVec.ofNat 8 (digit (2 * i + 2) * 16 + digit (2 * i + 1)))
    ++ [BitVec.ofNat 8 (digit 0 * 16 + (if neg then 0xD else 0xC))]

/-- Digits that an operand of `n` bytes holds, as a bound on magnitudes. -/
def decMax (n : Nat) : Nat := 10 ^ (2 * n - 1)

/-- Decimal Overflow unless PSW.DM masks it (R107). -/
def X.decOver (x : X) (excess : Bool) : X :=
  if excess && !x.a.psw0.getLsbD 7 then { x with late := x.late ++ [{ code := 0x0D, free := x.free }] } else x

/-- The decimal result of an instruction stored in operand 1 (R128, R129). -/
def X.decStore (x : X) (a : Word) (n : Nat) (l : List OpWord) (v : Int) (excess : Bool) : X :=
  let b := decBytes n (decide (v < 0)) v.natAbs
  let x := x.putBytes (a.toNat % 8) (some Tag.decimal) l b
  ({ x with a := { x.a with cc := ccDecimal (decide (v < 0)) v.natAbs excess } }).decOver excess

/-- Store a value, overflowing where it needs more digits than operand 1 holds. -/
def X.decFit (x : X) (a : Word) (n : Nat) (l : List OpWord) (v : Int) : X :=
  x.decStore a n l v (decide (decMax n ≤ v.natAbs))

/-- The storage operands of a decimal instruction once every check but Decimal Data has passed: operand 1's words and
bytes, operand 2's bytes. `rd1` and `wr1` say whether operand 1 is read and written, `use2` whether operand 2 is in
storage; `ok1` and `ok2` are the tags they accept. -/
def State.decOperands (s : State) (c : Nat) (x : X) (rd1 wr1 use2 : Bool) (ok1 ok2 : Tag → Bool) (a1 a2 : TWord)
    (n1 n2 : Nat) (k : X → List OpWord → Bytes → Bytes → Except Exc X) : Except Exc X :=
  needTags x isPU (if use2 then [a1, a2] else [a1])
    (match s.touch c (if rd1 then .load else .store) (wordVas a1.val n1) x with
     | .error e => .error e
     | .ok (l1, x) =>
       match (if rd1 && wr1 then s.touch c .store (wordVas a1.val n1) x else .ok (l1, x)) with
       | .error e => .error e
       | .ok (_, x) =>
         match (if use2 then s.touch c .load (wordVas a2.val n2) x else .ok ([], x)) with
         | .error e => .error e
         | .ok (l2, x) =>
           checkWords x (if wr1 then l1 else []) (withTags ok1 l1 ++ withTags ok2 l2)
             (k x l1 (opBytes a1.val n1 l1) (opBytes a2.val n2 l2)))

/-- Words of an operand of `n` bytes, for the latencies of R107. -/
def wk (n : Nat) : Nat := (n + 7) / 8

/-- A two-operand decimal instruction over values: `f` gives the result to store and whether it overflows, or only a
CC. -/
inductive DecRes where
  | store (v : Int)
  | fail
  | cc (v : BitVec 2)
deriving DecidableEq, Repr

/-- DADD to DCMP (R107): both operands read as decimal; operand 1 written unless the result is a CC. -/
def decTwo (code : Nat) (wr : Bool) (lat : Nat → Nat → Nat) (f : Int → Int → DecRes) (l1 l2 b1 b2 : Nat) : Insn :=
  routine code fun s c x =>
    let n1 := l1 + 1
    let n2 := l2 + 1
    let a1 := gr x.a b1
    let a2 := gr x.a b2
    let ok := isD (lenient x.a)
    let acc := blocks a1.val n1 + blocks a2.val n2 + (if wr then blocks a1.val n1 else 0)
    s.decOperands c x true wr true ok ok a1 a2 n1 n2 fun x w1 p q =>
      match decVal p, decVal q with
      | some u, some v =>
        let x := x.routineEnd s code (lat (wk n1) (wk n2)) acc
        match f u v with
        | .store r => .ok (x.decFit a1.val n1 w1 r)
        | .fail => .ok (({ x with a := { x.a with cc := 3 } }).decOver true)
        | .cc r => .ok { x with a := { x.a with cc := r } }
      | _, _ => .error (x.exc 0x0B)

/-- DADD and DSUB. -/
def dAdd (sub : Bool) : Nat → Nat → Nat → Nat → Insn :=
  decTwo (if sub then 0xD01 else 0xD00) true (fun a b => 10 + 2 * (a + b))
    fun u v => .store (if sub then u - v else u + v)
/-- DMUL. -/
def dMul : Nat → Nat → Nat → Nat → Insn :=
  decTwo 0xD02 true (fun a b => 40 + 12 * a * b) fun u v => .store (u * v)
/-- DDIV: truncated toward zero; a zero divisor leaves operand 1 unchanged with CC 3. -/
def dDiv : Nat → Nat → Nat → Nat → Insn :=
  decTwo 0xD03 true (fun a b => 60 + 24 * a * b) fun u v => if v = 0 then .fail else .store (Int.tdiv u v)
/-- DREM: the sign of operand 1. -/
def dRem : Nat → Nat → Nat → Nat → Insn :=
  decTwo 0xD04 true (fun a b => 60 + 24 * a * b) fun u v => if v = 0 then .fail else .store (Int.tmod u v)
/-- DCMP. -/
def dCmp : Nat → Nat → Nat → Nat → Insn :=
  decTwo 0xD06 false (fun a b => 8 + 2 * (a + b)) fun u v => .cc (ccInt u v)

/-- The shift of R130: a 7-bit two's complement count; half away from zero when `round`. -/
def dsrrVal (v : Int) (count : Nat) (round : Bool) : Int :=
  let m := v.natAbs
  let r := if count < 64 then m * 10 ^ count
    else
      let k := 128 - count
      m / 10 ^ k + (if round && decide (5 ≤ m / 10 ^ (k - 1) % 10) then 1 else 0)
  if v < 0 then -(r : Int) else r

/-- DSRR: l2[4:1] must be 0, and Gb2 UNTYPED. -/
def dSrr (l1 l2 b1 b2 : Nat) : Insn := fun s c x =>
  need (decide (l2 < 2)) (x.exc 3) (routine 0xD05 (fun s c x =>
    let n1 := l1 + 1
    let a1 := gr x.a b1
    let g := gr x.a b2
    match ([a1].filter fun t => !isPU t.tag) ++ ([g].filter fun t => !isU t.tag) with
    | [] =>
      s.decOperands c x true true false (isD (lenient x.a)) isU a1 {} n1 0 fun x w1 p _ =>
        match decVal p with
        | some u =>
          let x := x.routineEnd s 0xD05 (14 + 4 * wk n1) (2 * blocks a1.val n1)
          .ok (x.decFit a1.val n1 w1 (dsrrVal u (g.val.toNat % 128) (l2 == 1)))
        | none => .error (x.exc 0x0B)
    | ts => .error (x.tagExc (ts.map TWord.tag))) s c x)

/-- DZADD: operand 1 is written without being read as decimal. -/
def dZadd (l1 l2 b1 b2 : Nat) : Insn := routine 0xD07 fun s c x =>
  let n1 := l1 + 1
  let n2 := l2 + 1
  let a1 := gr x.a b1
  let a2 := gr x.a b2
  let ok := isD (lenient x.a)
  s.decOperands c x false true true ok ok a1 a2 n1 n2 fun x w1 _ q =>
    match decVal q with
    | some v =>
      let x := x.routineEnd s 0xD07 (10 + 2 * (wk n1 + wk n2)) (blocks a2.val n2 + blocks a1.val n1)
      .ok (x.decFit a1.val n1 w1 v)
    | none => .error (x.exc 0x0B)

/-- DTEST: l2 and b2 must be 0. -/
def dTest (l1 l2 b1 b2 : Nat) : Insn := fun s c x =>
  need (l2 == 0 && b2 == 0) (x.exc 3) (routine 0xD08 (fun s c x =>
    let n1 := l1 + 1
    let a1 := gr x.a b1
    s.decOperands c x true false false (isD (lenient x.a)) isU a1 {} n1 0 fun x _ p _ =>
      match decVal p with
      | some u =>
        let x := x.routineEnd s 0xD08 (6 + 2 * wk n1) (blocks a1.val n1)
        .ok { x with a := { x.a with cc := ccDecimal (decide (u < 0)) u.natAbs false } }
      | none => .error (x.exc 0x0B)) s c x)

/-- The signed 128-bit value of a register pair. -/
def pairVal (hi lo : Word) : Int := hi.toInt * 2 ^ 64 + lo.toNat

/-- CVDB: l2 must be 0, b2 even. -/
def dCvdb (l1 l2 b1 b2 : Nat) : Insn := fun s c x =>
  need (l2 == 0 && b2 % 2 == 0) (x.exc 3) (routine 0xD09 (fun s c x =>
    let n1 := l1 + 1
    let a1 := gr x.a b1
    s.decOperands c x true false false (isD (lenient x.a)) isU a1 {} n1 0 fun x _ p _ =>
      match decVal p with
      | some u =>
        let x := x.routineEnd s 0xD09 (20 + 10 * wk n1) (blocks a1.val n1)
        let r := BitVec.ofInt 128 u
        let excess := decide (u < -(2 ^ 127) ∨ 2 ^ 127 ≤ u)
        let a := setG (setG x.a b2 ⟨hi64 r, Tag.untyped⟩) (b2 + 1) ⟨lo64 r, Tag.untyped⟩
        .ok (({ x with a := { a with cc := ccDecimal (decide (u < 0)) u.natAbs excess } }).decOver excess)
      | none => .error (x.exc 0x0B)) s c x)

/-- CVBD: l2 must be 0, b2 even, the pair UNTYPED. -/
def dCvbd (l1 l2 b1 b2 : Nat) : Insn := fun s c x =>
  need (l2 == 0 && b2 % 2 == 0) (x.exc 3) (routine 0xD0A (fun s c x =>
    let n1 := l1 + 1
    let a1 := gr x.a b1
    let hi := gr x.a b2
    let lo := gr x.a (b2 + 1)
    match ([a1].filter fun t => !isPU t.tag) ++ ([hi, lo].filter fun t => !isU t.tag) with
    | [] =>
      s.decOperands c x false true false (isD (lenient x.a)) isU a1 {} n1 0 fun x w1 _ _ =>
        .ok ((x.routineEnd s 0xD0A (30 + 40 * wk n1) (blocks a1.val n1)).decFit a1.val n1 w1 (pairVal hi.val lo.val))
    | ts => .error (x.tagExc (ts.map TWord.tag))) s c x)

/-- The number that ASCII digits spell, none for a byte outside 0x30–0x39. -/
def asciiVal : Bytes → Nat → Option Nat
  | [], n => some n
  | b :: t, n => if 0x30 ≤ b.toNat ∧ b.toNat ≤ 0x39 then asciiVal t (n * 10 + (b.toNat - 0x30)) else none

/-- PACKA: operand 2 is TEXT. -/
def dPacka (l1 l2 b1 b2 : Nat) : Insn := routine 0xD0B fun s c x =>
  let n1 := l1 + 1
  let n2 := l2 + 1
  let a1 := gr x.a b1
  let a2 := gr x.a b2
  s.decOperands c x false true true (isD (lenient x.a)) (isT (lenient x.a)) a1 a2 n1 n2 fun x w1 _ q =>
    match asciiVal q 0 with
    | some v =>
      let x := x.routineEnd s 0xD0B (10 + 4 * wk n2) (blocks a2.val n2 + blocks a1.val n1)
      .ok (x.decFit a1.val n1 w1 v)
    | none => .error (x.exc 0x0B)

/-- UNPKA: operand 1 is TEXT, right-aligned with leading 0x30. -/
def dUnpka (l1 l2 b1 b2 : Nat) : Insn := routine 0xD0C fun s c x =>
  let n1 := l1 + 1
  let n2 := l2 + 1
  let a1 := gr x.a b1
  let a2 := gr x.a b2
  s.decOperands c x false true true (isT (lenient x.a)) (isD (lenient x.a)) a1 a2 n1 n2 fun x w1 _ q =>
    match decVal q with
    | some v =>
      let x := x.routineEnd s 0xD0C (10 + 4 * wk n1) (blocks a2.val n2 + blocks a1.val n1)
      let m := v.natAbs
      let b := (List.range n1).reverse.map fun i => BitVec.ofNat 8 (0x30 + m / 10 ^ i % 10)
      let x := x.putBytes (a1.val.toNat % 8) (some Tag.text) w1 b
      let excess := decide (10 ^ n1 ≤ m)
      .ok (({ x with a := { x.a with cc := ccDecimal (decide (v < 0)) m excess } }).decOver excess)
    | none => .error (x.exc 0x0B)

/-! ## Unit-of-work instructions -/

/-- Bytes left to the next 4 KiB boundary. -/
def toPage (a : Word) : Nat := 4096 - a.toNat % 4096

/-- The registers of a unit-of-work instruction: d and s even and not zero, t zero (R75, R88); `s` even is asked of every
one. -/
def uowRegs (x : X) (d s t : Nat) (k : Except Exc X) : Except Exc X :=
  need (d % 2 == 0 && s % 2 == 0 && d != 0 && s != 0 && t == 0) (x.exc 3) k

/-- Operand registers by the tags that they must carry: addresses POINTER or UNTYPED, the rest UNTYPED. -/
def uowTags (x : X) (addrs vals : List TWord) (k : Except Exc X) : Except Exc X :=
  match (addrs.filter fun t => !isPU t.tag) ++ (vals.filter fun t => !isU t.tag) with
  | [] => k
  | ts => .error (x.tagExc (ts.map TWord.tag))

/-- A register advanced by `n` bytes keeps its tag. -/
def advReg (a : Arch) (r n : Nat) : Arch := setG a r ⟨(gr a r).val + BitVec.ofNat 64 n, (gr a r).tag⟩
/-- A length register counted down. -/
def decReg (a : Arch) (r n : Nat) : Arch := setG a r ⟨(gr a r).val - BitVec.ofNat 64 n, (gr a r).tag⟩

/-- CC after a unit of `n` of `len` bytes with nothing decided. -/
def uowCc (len n : Nat) : BitVec 2 := if n < len then 3 else 0

/-- MOVB's words: with equal offsets, whole words move with their tags and partial ones follow R51; otherwise bytes. -/
def movbOut (x : X) (same : Bool) (o : Nat) : List OpWord → List OpWord → Bytes → X
  | dw :: dt, sw :: st, b =>
    let h := b.take (8 - o)
    if h.isEmpty then x
    else
      let whole := same && h.length == 8
      movbOut (x.put (dw.pa + o) h.length ⟨BitVec.ofNat 64 (ofLe h), sw.w.tag⟩ (!whole)) same 0 dt st (b.drop (8 - o))
  | _, _, _ => x

/-- Word positions (whole or partial) of an operand. -/
def wholeFlags (a : Word) (n : Nat) : List Bool :=
  (wordVas a n).mapIdx fun i va =>
    let lo := if i = 0 then a.toNat % 8 else 0
    let last := va.toNat / 8 == (a.toNat + n - 1) / 8
    let hi := if last then (a.toNat + n - 1) % 8 + 1 else 8
    lo == 0 && hi == 8

/-- MOVB with equal offsets: Code Protection, POISON and tags of each word (R51, R53, R77). -/
def movbSame (x : X) : List Bool → List OpWord → List OpWord → Option Exc
  | wh :: ft, dw :: dt, sw :: st =>
    if codeProt x.a (if wh then sw.w.tag else Tag.untyped) dw.w.tag then some { x.exc 9 with addr := dw.va }
    else movbSame x ft dt st
  | _, _, _ => none

/-- Words of MOVB that POISON or a tag refuses, first POISON. -/
def movbBad (x : X) (poison : Bool) : List Bool → List OpWord → List OpWord → Option Exc
  | wh :: ft, dw :: dt, sw :: st =>
    let bad : Option Exc :=
      if poison then
        (if sw.w.tag == Tag.poison then some (x.memExc 10 sw.va)
         else if !wh && dw.w.tag == Tag.poison then some (x.memExc 10 dw.va) else none)
      else if wh then (if isAny sw.w.tag then none else some { x.memTagExc sw.w.tag with addr := sw.va })
      else if !isByte sw.w.tag then some { x.memTagExc sw.w.tag with addr := sw.va }
      else if !isByte dw.w.tag then some { x.memTagExc dw.w.tag with addr := dw.va }
      else if sw.w.tag != dw.w.tag && sw.w.tag != Tag.untyped then some { x.memTagExc sw.w.tag with addr := sw.va }
      else none
    match bad with
    | some e => some e
    | none => movbBad x poison ft dt st
  | _, _, _ => none

/-- Go on unless an exception was found. -/
def orExc (e : Option Exc) (k : Except Exc X) : Except Exc X :=
  match e with
  | some e => .error e
  | none => k

/-- MOVB (R77, R106). -/
def uMovb (d r t : Nat) : Insn := fun s c x =>
  uowRegs x d r t (routine 0x100 (fun s c x =>
    let da := gr x.a d
    let sa := gr x.a r
    let len := (gr x.a (d + 1)).val.toNat
    uowTags x [da, sa] [gr x.a (d + 1)]
      (let n := min (min 256 len) (min (toPage da.val) (toPage sa.val))
       let same := da.val.toNat % 8 == sa.val.toNat % 8
       match s.touch c .load (wordVas sa.val n) x with
       | .error e => .error e
       | .ok (ls, x) =>
         match s.touch c .store (wordVas da.val n) x with
         | .error e => .error e
         | .ok (ld, x) =>
           let b := opBytes sa.val n ls
           let fl := wholeFlags da.val n
           let fin : Except Exc X :=
             let x := if same then movbOut x true (da.val.toNat % 8) ld ls b else x.putBytes (da.val.toNat % 8) none ld b
             let a := decReg (advReg (advReg x.a d n) r n) (d + 1) n
             .ok (({ x with a := { a with cc := uowCc len n } }).routineEnd s 0x100 (if same then 44 else 76)
               (blocks da.val n + blocks sa.val n))
           if same then orExc (movbSame x fl ld ls) (orExc (movbBad x true fl ld ls) (orExc (movbBad x false fl ld ls) fin))
           else checkWords x ld (withTags isByte ls ++ withTags isByte ld) fin)) s c x)

/-- FILLB. -/
def uFillb (d r t : Nat) : Insn := fun s c x =>
  uowRegs x d r t (routine 0x101 (fun s c x =>
    let da := gr x.a d
    let len := (gr x.a (d + 1)).val.toNat
    uowTags x [da] [gr x.a (d + 1), gr x.a r]
      (let n := min (min 256 len) (toPage da.val)
       match s.touch c .store (wordVas da.val n) x with
       | .error e => .error e
       | .ok (ld, x) => checkWords x ld (withTags isByte ld)
         (let x := x.putBytes (da.val.toNat % 8) none ld (List.replicate n ((gr x.a r).val.truncate 8))
          let a := decReg (advReg x.a d n) (d + 1) n
          .ok (({ x with a := { a with cc := uowCc len n } }).routineEnd s 0x101 44 (blocks da.val n))))) s c x)

/-- Index of the first difference of two strings. -/
def firstDiff : Bytes → Bytes → Option Nat
  | a :: s, b :: t => if a ≠ b then some 0 else (firstDiff s t).map (· + 1)
  | _, _ => none

/-- The words of an operand that a unit of `n` bytes takes in: CMPB and SCANB end it at the byte that decides (R76). -/
def unitWords (a : Word) (n : Nat) (l : List OpWord) : List OpWord := l.take (wordVas a n).length

/-- CMPB (R106). -/
def uCmpb (d r t : Nat) : Insn := fun s c x =>
  uowRegs x d r t (routine 0x102 (fun s c x =>
    let da := gr x.a d
    let sa := gr x.a r
    let l1 := (gr x.a (d + 1)).val.toNat
    let l2 := (gr x.a (r + 1)).val.toNat
    uowTags x [da, sa] [gr x.a (d + 1), gr x.a (r + 1)]
      (let n := min (min 256 (min l1 l2)) (min (toPage da.val) (toPage sa.val))
       match s.touch c .load (wordVas da.val n) x with
       | .error e => .error e
       | .ok (w1, x) =>
         match s.touch c .load (wordVas sa.val n) x with
         | .error e => .error e
         | .ok (w2, x) =>
           let p := opBytes da.val n w1
           let q := opBytes sa.val n w2
           let step (m unit : Nat) (cc : BitVec 2) : Except Exc X :=
             checkWords x [] (withTags isByte (unitWords da.val unit w1) ++ withTags isByte (unitWords sa.val unit w2))
               (let a := decReg (decReg (advReg (advReg x.a d m) r m) (d + 1) m) (r + 1) m
                .ok (({ x with a := { a with cc := cc } }).routineEnd s 0x102 44
                  (blocks da.val unit + blocks sa.val unit)))
           match firstDiff p q with
           | some i => step i (i + 1) (if (p.getD i 0).toNat < (q.getD i 0).toNat then 1 else 2)
           | none =>
             if n < min l1 l2 then step n n 3
             else step n n (if l1 < l2 then 1 else if l2 < l1 then 2 else 0)))  s c x)

/-- SCANB (R106). -/
def uScanb (d r t : Nat) : Insn := fun s c x =>
  uowRegs x d r t (routine 0x103 (fun s c x =>
    let da := gr x.a d
    let len := (gr x.a (d + 1)).val.toNat
    uowTags x [da] [gr x.a (d + 1), gr x.a r]
      (let n := min (min 256 len) (toPage da.val)
       match s.touch c .load (wordVas da.val n) x with
       | .error e => .error e
       | .ok (w1, x) =>
         let p := opBytes da.val n w1
         let i := (p.takeWhile fun b => b != (gr x.a r).val.truncate 8).length
         let m := if i < n then i else n
         let unit := if i < n then i + 1 else n
         checkWords x [] (withTags isByte (unitWords da.val unit w1))
           (let a := decReg (advReg x.a d m) (d + 1) m
            .ok (({ x with a := { a with cc := if i < n then 1 else uowCc len n } }).routineEnd s 0x103 44
              (blocks da.val unit))))) s c x)

/-- MAPB (R106): the map is read before anything is written. -/
def uMapb (d r t : Nat) : Insn := fun s c x =>
  uowRegs x d r t (routine 0x104 (fun s c x =>
    let da := gr x.a d
    let sa := gr x.a r
    let len := (gr x.a (d + 1)).val.toNat
    uowTags x [da, sa] [gr x.a (d + 1)]
      (let n := min (min 256 len) (toPage da.val)
       match s.touch c .load (wordVas sa.val 256) x with
       | .error e => .error e
       | .ok (lm, x) =>
         match s.touch c .load (wordVas da.val n) x with
         | .error e => .error e
         | .ok (_, x) =>
           match s.touch c .store (wordVas da.val n) x with
           | .error e => .error e
           | .ok (ld, x) => checkWords x ld (withTags isByte lm ++ withTags isByte ld)
             (let m := opBytes sa.val 256 lm
              let b := (opBytes da.val n ld).map fun v => m.getD v.toNat 0
              let x := x.putBytes (da.val.toNat % 8) none ld b
              let a := decReg (advReg x.a d n) (d + 1) n
              .ok (({ x with a := { a with cc := uowCc len n } }).routineEnd s 0x104 140
                (2 * blocks da.val n + blocks sa.val 256))))) s c x)

/-- CRCB (R106): the running value in Gs[31:0]; Gs[63:32] after it is a free value (log entry 1). -/
def uCrcb (d r t : Nat) : Insn := fun s c x =>
  uowRegs x d r t (routine 0x105 (fun s c x =>
    let da := gr x.a d
    let g := gr x.a r
    let len := (gr x.a (d + 1)).val.toNat
    uowTags x [da] [gr x.a (d + 1), g]
      (let n := min (min 256 len) (toPage da.val)
       match s.touch c .load (wordVas da.val n) x with
       | .error e => .error e
       | .ok (w1, x) => checkWords x [] (withTags isByte w1)
         (let v := crc32cRaw (g.val.truncate 32) (opBytes da.val n w1)
          let a := decReg (advReg x.a d n) (d + 1) n
          let a := setG a r ⟨setFld (Config.freeWord x.free) 31 0 v.toNat, Tag.untyped⟩
          .ok (({ x with a := { a with cc := uowCc len n }, free := x.free + 1 }).routineEnd s 0x105 44
            (blocks da.val n))))) s c x)

end Sys2Proof.Machine
end

