-- ==== Sys2Proof/Machine/FpOps.lean ====
section
/-!
DEFINITION. Binary floating point (R102, R103, R113–R124): exact arithmetic over integers, one rounding, flags.
-/
namespace Sys2Proof.Machine

/-! ## Formats and values (R114) -/

/-- A format: fraction bits, exponent bits. -/
structure Fmt where
  fb : Nat
  eb : Nat
deriving DecidableEq, Repr

/-- binary64. -/
def fmtD : Fmt := ⟨52, 11⟩
/-- binary32. -/
def fmtS : Fmt := ⟨23, 8⟩

/-- Exponent bias, which is also the largest exponent. -/
def Fmt.bias (f : Fmt) : Nat := 2 ^ (f.eb - 1) - 1
/-- Smallest normal exponent. -/
def Fmt.emin (f : Fmt) : Int := 1 - (f.bias : Int)
/-- The sign bit's weight. -/
def Fmt.signW (f : Fmt) : Nat := 2 ^ (f.fb + f.eb)
/-- +∞. -/
def Fmt.inf (f : Fmt) : Nat := (2 ^ f.eb - 1) * 2 ^ f.fb
/-- The largest finite number M. -/
def Fmt.max (f : Fmt) : Nat := f.inf - 1
/-- The default NaN (R119). -/
def Fmt.nan (f : Fmt) : Nat := f.inf + 2 ^ (f.fb - 1)

/-- A value: NaN, infinity, or a finite number m × 2^e with its sign. -/
inductive Fv where
  | nan (signalling : Bool)
  | inf (neg : Bool)
  | fin (neg : Bool) (m : Nat) (e : Int)
deriving DecidableEq, Repr

/-- The value that bits spell. -/
def Fmt.val (f : Fmt) (b : Nat) : Fv :=
  let fr := b % 2 ^ f.fb
  let ex := b / 2 ^ f.fb % 2 ^ f.eb
  let neg := b / f.signW % 2 == 1
  if ex = 2 ^ f.eb - 1 then (if fr = 0 then .inf neg else .nan (fr / 2 ^ (f.fb - 1) == 0))
  else if ex = 0 then .fin neg fr (f.emin - (f.fb : Int))
  else .fin neg (2 ^ f.fb + fr) ((ex : Int) - (f.bias : Int) - (f.fb : Int))

/-- Put a sign on a magnitude. -/
def Fmt.sign (f : Fmt) (neg : Bool) (b : Nat) : Nat := b + (if neg then f.signW else 0)

/-- Flags in FPSR order (R59). -/
def fNX : Nat := 1
/-- Underflow. -/
def fUF : Nat := 2
/-- Overflow. -/
def fOF : Nat := 4
/-- Divide by zero. -/
def fDZ : Nat := 8
/-- Invalid. -/
def fNV : Nat := 16

/-! ## Rounding (R116, R117) -/

/-- Whether a magnitude `q` with remainder `r` of `2 ^ sh` (sh > 0) is rounded up under RM. -/
def roundUp (rm : Nat) (neg : Bool) (q r sh : Nat) : Bool :=
  let half := 2 ^ (sh - 1)
  match rm with
  | 0 => decide (half < r) || (r == half && q % 2 == 1)
  | 1 => false
  | 2 => !neg && r != 0
  | 3 => neg && r != 0
  | _ => decide (half ≤ r)

/-- A magnitude m × 2^e rounded to a multiple of 2^t: the multiple and whether it is inexact. -/
def roundAt (rm : Nat) (neg : Bool) (m : Nat) (e t : Int) : Nat × Bool :=
  if t ≤ e then (m * 2 ^ (e - t).toNat, false)
  else
    let sh := (t - e).toNat
    let q := m / 2 ^ sh
    let r := m % 2 ^ sh
    ((if roundUp rm neg q r sh then q + 1 else q), r != 0)

/-- The result of overflow (R116). -/
def Fmt.overflow (f : Fmt) (rm : Nat) (neg : Bool) : Nat :=
  let toInf := match rm with
    | 1 => false
    | 2 => !neg
    | 3 => neg
    | _ => true
  f.sign neg (if toInf then f.inf else f.max)

/-- Round an exact non-zero magnitude m × 2^e, sign given: result bits and flags (R114, R116, R117). -/
def Fmt.round (f : Fmt) (rm : Nat) (neg : Bool) (m : Nat) (e : Int) : Nat × Nat :=
  let p : Int := f.fb
  let ex : Int := (Nat.log2 m : Int) + e
  let t := if ex < f.emin then f.emin - p else ex - p
  let (q, nx) := roundAt rm neg m e t
  let free := roundAt rm neg m e (ex - p)
  let tiny := decide (ex < f.emin - 1) || (decide (ex < f.emin) && decide (free.1 < 2 ^ (f.fb + 1)))
  if 2 ^ (f.fb + f.eb) - 2 ^ f.fb ≤ (if q < 2 ^ f.fb then 0 else (t + p + (f.bias : Int) - 1).toNat * 2 ^ f.fb) + q then
    (f.overflow rm neg, fOF + fNX)
  else
    let mag := if q < 2 ^ f.fb then q else (t + p + (f.bias : Int) - 1).toNat * 2 ^ f.fb + q
    (f.sign neg mag, (if nx then fNX else 0) + (if nx && tiny then fUF else 0))

/-- The sign of an exact zero sum (R120). -/
def zeroSign (rm : Nat) (n1 n2 : Bool) : Bool := if n1 = n2 then n1 else rm == 3

/-! ## NaNs (R119) -/

/-- A NaN operand's bits, quieted. -/
def Fmt.quiet (f : Fmt) (b : Nat) : Nat := if b / 2 ^ (f.fb - 1) % 2 = 1 then b else b + 2 ^ (f.fb - 1)

/-- A signalling NaN. -/
def Fmt.isS (f : Fmt) (b : Nat) : Bool := f.val b == .nan true
/-- Any NaN. -/
def Fmt.isN (f : Fmt) (b : Nat) : Bool := f.val b == .nan true || f.val b == .nan false

/-- The result when an operand is a NaN: the first in order, quieted; invalid for any signalling one. -/
def Fmt.nanRes (f : Fmt) (bs : List Nat) : Option (Nat × Nat) :=
  match bs.find? f.isN with
  | some b => some (f.quiet b, if bs.any f.isS then fNV else 0)
  | none => none

/-- An invalid operation without a NaN operand. -/
def Fmt.invalid (f : Fmt) : Nat × Nat := (f.nan, fNV)

/-! ## Operations on bits: result and flags -/

/-- Sum of two exact finite numbers, rounded once. -/
def Fmt.sum (f : Fmt) (rm : Nat) (n1 : Bool) (m1 : Nat) (e1 : Int) (n2 : Bool) (m2 : Nat) (e2 : Int) : Nat × Nat :=
  let e := min e1 e2
  let v1 : Int := (m1 * 2 ^ (e1 - e).toNat : Nat)
  let v2 : Int := (m2 * 2 ^ (e2 - e).toNat : Nat)
  let s := (if n1 then -v1 else v1) + (if n2 then -v2 else v2)
  if s = 0 then (f.sign (zeroSign rm n1 n2) 0, 0) else f.round rm (decide (s < 0)) s.natAbs e

/-- Fused multiply-add with the sign of the addend given by `sub` (R119, R120). -/
def Fmt.fma (f : Fmt) (rm : Nat) (sub : Bool) (a b c : Nat) : Nat × Nat :=
  match f.nanRes [a, b, c] with
  | some r => r
  | none =>
    let flip (n : Bool) : Bool := n != sub
    match f.val a, f.val b, f.val c with
    | .fin n1 m1 e1, .fin n2 m2 e2, .fin n3 m3 e3 =>
      f.sum rm (n1 != n2) (m1 * m2) (e1 + e2) (flip n3) m3 e3
    | .fin _ _ _, .fin _ _ _, .inf n3 => (f.sign (flip n3) f.inf, 0)
    | .inf n1, .fin n2 m2 _, .fin _ _ _ => if m2 = 0 then f.invalid else (f.sign (n1 != n2) f.inf, 0)
    | .fin n1 m1 _, .inf n2, .fin _ _ _ => if m1 = 0 then f.invalid else (f.sign (n1 != n2) f.inf, 0)
    | .inf n1, .inf n2, .fin _ _ _ => (f.sign (n1 != n2) f.inf, 0)
    | .inf n1, .fin n2 m2 _, .inf n3 =>
      if m2 = 0 ∨ (n1 != n2) ≠ flip n3 then f.invalid else (f.sign (n1 != n2) f.inf, 0)
    | .fin n1 m1 _, .inf n2, .inf n3 =>
      if m1 = 0 ∨ (n1 != n2) ≠ flip n3 then f.invalid else (f.sign (n1 != n2) f.inf, 0)
    | .inf n1, .inf n2, .inf n3 => if (n1 != n2) ≠ flip n3 then f.invalid else (f.sign (n1 != n2) f.inf, 0)
    | _, _, _ => f.invalid

/-- FNMADD, FNMSUB: the sign of the result inverted unless it is a NaN (R120). -/
def Fmt.negRes (f : Fmt) (r : Nat × Nat) : Nat × Nat :=
  if f.isN r.1 then r else ((if r.1 / f.signW % 2 = 1 then r.1 - f.signW else r.1 + f.signW), r.2)

/-- FADD and FSUB. -/
def Fmt.add (f : Fmt) (sub : Bool) (rm a b : Nat) : Nat × Nat :=
  match f.nanRes [a, b] with
  | some r => r
  | none =>
    let flip (n : Bool) : Bool := n != sub
    match f.val a, f.val b with
    | .fin n1 m1 e1, .fin n2 m2 e2 => f.sum rm n1 m1 e1 (flip n2) m2 e2
    | .inf n1, .inf n2 => if n1 ≠ flip n2 then f.invalid else (f.sign n1 f.inf, 0)
    | .inf n1, _ => (f.sign n1 f.inf, 0)
    | _, .inf n2 => (f.sign (flip n2) f.inf, 0)
    | _, _ => f.invalid

/-- FMUL. -/
def Fmt.mul (f : Fmt) (rm a b : Nat) : Nat × Nat :=
  match f.nanRes [a, b] with
  | some r => r
  | none =>
    match f.val a, f.val b with
    | .fin n1 m1 e1, .fin n2 m2 e2 =>
      if m1 = 0 ∨ m2 = 0 then (f.sign (n1 != n2) 0, 0) else f.round rm (n1 != n2) (m1 * m2) (e1 + e2)
    | .inf n1, .inf n2 => (f.sign (n1 != n2) f.inf, 0)
    | .inf n1, .fin n2 m2 _ => if m2 = 0 then f.invalid else (f.sign (n1 != n2) f.inf, 0)
    | .fin n1 m1 _, .inf n2 => if m1 = 0 then f.invalid else (f.sign (n1 != n2) f.inf, 0)
    | _, _ => f.invalid

/-- FDIV. -/
def Fmt.div (f : Fmt) (rm a b : Nat) : Nat × Nat :=
  match f.nanRes [a, b] with
  | some r => r
  | none =>
    match f.val a, f.val b with
    | .fin n1 m1 e1, .fin n2 m2 e2 =>
      if m2 = 0 then (if m1 = 0 then f.invalid else (f.sign (n1 != n2) f.inf, fDZ))
      else if m1 = 0 then (f.sign (n1 != n2) 0, 0)
      else
        let k := f.fb + 4 + Nat.log2 m2
        let q := m1 * 2 ^ k / m2
        let r := m1 * 2 ^ k % m2
        f.round rm (n1 != n2) (2 * q + (if r = 0 then 0 else 1)) (e1 - e2 - (k : Int) - 1)
    | .inf _, .inf _ => f.invalid
    | .inf n1, .fin n2 _ _ => (f.sign (n1 != n2) f.inf, 0)
    | .fin n1 _ _, .inf n2 => (f.sign (n1 != n2) 0, 0)
    | _, _ => f.invalid

/-- Integer square root by bits: the largest r below 2^i + r0 with r² ≤ n. -/
def sqrtGo (n : Nat) : Nat → Nat → Nat
  | 0, r => r
  | i + 1, r => sqrtGo n i (if (r + 2 ^ i) * (r + 2 ^ i) ≤ n then r + 2 ^ i else r)

/-- FSQRT. -/
def Fmt.sqrt (f : Fmt) (rm a : Nat) : Nat × Nat :=
  match f.nanRes [a] with
  | some r => r
  | none =>
    match f.val a with
    | .inf neg => if neg then f.invalid else (f.inf, 0)
    | .fin neg m e =>
      if m = 0 then (f.sign neg 0, 0)
      else if neg then f.invalid
      else
        let k := 2 * f.fb + 8 + (if (e - (2 * f.fb + 8 : Nat)) % 2 = 0 then 0 else 1)
        let n := m * 2 ^ k
        let r := sqrtGo n (Nat.log2 n / 2 + 1) 0
        f.round rm false (2 * r + (if r * r = n then 0 else 1)) ((e - (k : Int)) / 2 - 1)
    | .nan _ => f.invalid

/-- The order of two values that are not NaNs. -/
def Fmt.lt (f : Fmt) (a b : Nat) : Bool :=
  match f.val a, f.val b with
  | .inf n1, .inf n2 => n1 && !n2
  | .inf n1, _ => n1
  | _, .inf n2 => !n2
  | .fin n1 m1 e1, .fin n2 m2 e2 =>
    let e := min e1 e2
    let v1 : Int := (m1 * 2 ^ (e1 - e).toNat : Nat)
    let v2 : Int := (m2 * 2 ^ (e2 - e).toNat : Nat)
    decide ((if n1 then -v1 else v1) < (if n2 then -v2 else v2))
  | _, _ => false

/-- FMIN and FMAX (R119, R121). −0 counts as below +0. -/
def Fmt.minmax (f : Fmt) (mx : Bool) (a b : Nat) : Nat × Nat :=
  let nv := if f.isS a || f.isS b then fNV else 0
  if f.isN a && f.isN b then (f.quiet a, nv)
  else if f.isN a then ((if f.isS a then f.quiet a else b), nv)
  else if f.isN b then ((if f.isS b then f.quiet b else a), nv)
  else
    let below := f.lt a b || (!f.lt b a && a / f.signW % 2 == 1)
    ((if below != mx then a else b), 0)

/-- FCMP and FCMPS: CC and flags (R94, R121). -/
def Fmt.cmp (f : Fmt) (signalling : Bool) (a b : Nat) : BitVec 2 × Nat :=
  if f.isN a || f.isN b then (3, if signalling || f.isS a || f.isS b then fNV else 0)
  else ((if f.lt a b then 1 else if f.lt b a then 2 else 0), 0)

/-- FCVT.D.S (R119, R122). -/
def cvtDS (b : Nat) : Nat × Nat :=
  match fmtS.val b with
  | .nan sg => (fmtD.sign (b / 2 ^ 31 % 2 == 1) (fmtD.nan + b % 2 ^ 22 * 2 ^ 29), if sg then fNV else 0)
  | .inf neg => (fmtD.sign neg fmtD.inf, 0)
  | .fin neg m e => if m = 0 then (fmtD.sign neg 0, 0) else fmtD.round 0 neg m e

/-- FCVT.S.D (R119, R122). -/
def cvtSD (rm b : Nat) : Nat × Nat :=
  match fmtD.val b with
  | .nan sg => (fmtS.sign (b / 2 ^ 63 % 2 == 1) (fmtS.nan + b / 2 ^ 29 % 2 ^ 22), if sg then fNV else 0)
  | .inf neg => (fmtS.sign neg fmtS.inf, 0)
  | .fin neg m e => if m = 0 then (fmtS.sign neg 0, 0) else fmtS.round rm neg m e

/-- Conversion to an integer between `lo` and `hi` (R122): the 64-bit result and flags. -/
def Fmt.toInt64 (f : Fmt) (rm : Nat) (lo hi : Int) (b : Nat) : Word × Nat :=
  match f.val b with
  | .nan _ => (BitVec.ofInt 64 hi, fNV)
  | .inf neg => (BitVec.ofInt 64 (if neg then lo else hi), fNV)
  | .fin neg m e =>
    let (q, nx) := roundAt rm neg m e 0
    let v : Int := if neg then -(q : Int) else q
    if v < lo then (BitVec.ofInt 64 lo, fNV)
    else if hi < v then (BitVec.ofInt 64 hi, fNV)
    else (BitVec.ofInt 64 v, if nx then fNX else 0)

/-- Conversion from an integer (R122). -/
def Fmt.ofInt (f : Fmt) (rm : Nat) (v : Int) : Nat × Nat :=
  if v = 0 then (0, 0) else f.round rm (decide (v < 0)) v.natAbs 0

/-- Sign operations on bits (R119). -/
def Fmt.fabs (f : Fmt) (a _b : Nat) : Nat := a % f.signW
/-- FNEG. -/
def Fmt.fneg (f : Fmt) (a _b : Nat) : Nat := if a / f.signW % 2 = 1 then a % f.signW else a % f.signW + f.signW
/-- FCPYS: the magnitude of Fa with the sign of Fb. -/
def Fmt.fcpys (f : Fmt) (a b : Nat) : Nat := a % f.signW + b / f.signW % 2 * f.signW

/-! ## Instructions (R102, R103) -/

/-- FPSR.RM. -/
def rmOf (a : Arch) : Nat := fld a.fpsr 12 10

/-- Raise flags (R118): FLAGS are ORed, and a flag whose TRAPS bit is set takes the completing exception, which reports
every flag raised. -/
def X.flags (x : X) (fl : Nat) : X :=
  let a := { x.a with fpsr := x.a.fpsr ||| BitVec.ofNat 64 (fl % 32) }
  let trap := BitVec.ofNat 64 (fl % 32) &&& BitVec.ofNat 64 (fld x.a.fpsr 9 5)
  { x with a := a, late := if trap = 0 then x.late else x.late ++ [{ code := 0x0E, detail := fl % 32, free := x.free }] }

/-- Low half of a word. -/
def lo32 (w : Word) : Nat := fld w 31 0
/-- High half of a word. -/
def hi32 (w : Word) : Nat := fld w 63 32

/-- Apply an operation in a format: D on the word, S on the low half (writing 0 above), PS on each half with the flags
united (R102). -/
def inFmt (fmt : Nat) (g : Fmt → List Nat → Nat × Nat) (ws : List Word) : Word × Nat :=
  match fmt with
  | 0 =>
    let r := g fmtD (ws.map BitVec.toNat)
    (BitVec.ofNat 64 r.1, r.2)
  | 1 =>
    let r := g fmtS (ws.map lo32)
    (BitVec.ofNat 64 (r.1 % 2 ^ 32), r.2)
  | _ =>
    let h := g fmtS (ws.map hi32)
    let l := g fmtS (ws.map lo32)
    (BitVec.ofNat 64 (h.1 % 2 ^ 32 * 2 ^ 32 + l.1 % 2 ^ 32), h.2 ||| l.2)

/-- First operand. -/
def n0 (l : List Nat) : Nat := l.getD 0 0
/-- Second operand. -/
def n1 (l : List Nat) : Nat := l.getD 1 0
/-- Third operand. -/
def n2 (l : List Nat) : Nat := l.getD 2 0

/-- An F-to-F operation in the formats listed; another format raises Operation (R102). -/
def fpOp (fmts : List Nat) (g : Nat → Fmt → List Nat → Nat × Nat) (fmt d : Nat) (rs : List Nat) : Insn := fun _ _ x =>
  need (fmts.contains fmt) (x.exc 3)
    (let r := inFmt fmt (g (rmOf x.a)) (rs.map (fr x.a))
     .ok ((x.retF d r.1).flags r.2))

/-- FADD, FSUB. -/
def fAdd (sub : Bool) (fmt d a b : Nat) : Insn :=
  fpOp [0, 1, 2] (fun rm f l => f.add sub rm (n0 l) (n1 l)) fmt d [a, b]
/-- FMUL. -/
def fMul (fmt d a b : Nat) : Insn := fpOp [0, 1, 2] (fun rm f l => f.mul rm (n0 l) (n1 l)) fmt d [a, b]
/-- FDIV. -/
def fDiv (fmt d a b : Nat) : Insn := fpOp [0, 1] (fun rm f l => f.div rm (n0 l) (n1 l)) fmt d [a, b]
/-- FSQRT; b must be 0. -/
def fSqrt (fmt d a b : Nat) : Insn := fun s c x =>
  need (b == 0) (x.exc 3) (fpOp [0, 1] (fun rm f l => f.sqrt rm (n0 l)) fmt d [a] s c x)
/-- FMIN, FMAX. -/
def fMinMax (mx : Bool) (fmt d a b : Nat) : Insn :=
  fpOp [0, 1] (fun _ f l => f.minmax mx (n0 l) (n1 l)) fmt d [a, b]
/-- FABS, FNEG, FCPYS: bits only, no flags. -/
def fSign (g : Fmt → Nat → Nat → Nat) (fmt d a b : Nat) : Insn :=
  fpOp [0, 1, 2] (fun _ f l => (g f (n0 l) (n1 l), 0)) fmt d [a, b]
/-- The fused group: `sub` the addend, `neg` the result. -/
def fFma (sub neg : Bool) (fmt d a b k : Nat) : Insn :=
  fpOp [0, 1, 2] (fun rm f l =>
    let r := f.fma rm sub (n0 l) (n1 l) (n2 l)
    if neg then f.negRes r else r) fmt d [a, b, k]
/-- FCMP, FCMPS; d must be 0. -/
def fCmp (signalling : Bool) (fmt d a b : Nat) : Insn := fun _ _ x =>
  need (d == 0 && decide (fmt < 2)) (x.exc 3)
    (let u := fr x.a a
     let v := fr x.a b
     let r := if fmt = 0 then fmtD.cmp signalling u.toNat v.toNat else fmtS.cmp signalling (lo32 u) (lo32 v)
     .ok ((x.retCc r.1).flags r.2))
/-- FCVT.D.S, FCVT.S.D: format D only. -/
def fCvt (toD : Bool) (fmt d a : Nat) : Insn := fun _ _ x =>
  need (fmt == 0) (x.exc 3)
    (let u := fr x.a a
     let r := if toD then cvtDS (lo32 u) else cvtSD (rmOf x.a) u.toNat
     .ok ((x.retF d (BitVec.ofNat 64 r.1)).flags r.2))
/-- FCVT.L, FCVT.LU. -/
def fToInt (signed : Bool) (fmt d a : Nat) : Insn := fun _ _ x =>
  need (decide (fmt < 2)) (x.exc 3)
    (let u := fr x.a a
     let lo : Int := if signed then -(2 ^ 63) else 0
     let hi : Int := if signed then 2 ^ 63 - 1 else 2 ^ 64 - 1
     let r := if fmt = 0 then fmtD.toInt64 (rmOf x.a) lo hi u.toNat else fmtS.toInt64 (rmOf x.a) lo hi (lo32 u)
     .ok ((x.retG d ⟨r.1, Tag.untyped⟩).flags r.2))
/-- FCVT.FL, FCVT.FLU: Ga UNTYPED. -/
def fOfInt (signed : Bool) (fmt d a : Nat) : Insn := fun _ _ x =>
  need (decide (fmt < 2)) (x.exc 3)
    (let u := gr x.a a
     let v : Int := if signed then u.val.toInt else u.val.toNat
     let r := if fmt = 0 then fmtD.ofInt (rmOf x.a) v else fmtS.ofInt (rmOf x.a) v
     needTags x isU [u] (.ok ((x.retF d (BitVec.ofNat 64 r.1)).flags r.2)))
/-- FMV.FG: Ga BINFP. -/
def fMvFg (fmt d a : Nat) : Insn := fun _ _ x =>
  need (fmt == 0) (x.exc 3) (needTags x (isB (lenient x.a)) [gr x.a a] (.ok (x.retF d (gr x.a a).val)))
/-- FMV.GF: tagged BINFP. -/
def fMvGf (fmt d a : Nat) : Insn := fun _ _ x =>
  need (fmt == 0) (x.exc 3) (.ok (x.retG d ⟨fr x.a a, Tag.binfp⟩))
/-- FMV. -/
def fMv (fmt d a : Nat) : Insn := fun _ _ x => need (fmt == 0) (x.exc 3) (.ok (x.retF d (fr x.a a)))

end Sys2Proof.Machine
end

