-- ==== Sys2Proof/Machine/CoreOps.lean ====
section
/-!
DEFINITION. How a processor runs: windows, signatures and checkpoints (R28–R34), the boundary rules (R70), taking an
exception, an NMI or an interrupt (R62, R68, R73, R74), fetching (R52, R53) and the execution of one instruction word.
-/
namespace Sys2Proof.Machine

/-! ## Taking an exception -/

/-- The ECAUSE or NCAUSE word (R72). -/
def causeWord (code : Nat) (slot : Bool) (operand : Nat) (tag : Tag) (mem : Bool) (event detail : Nat) : Word :=
  BitVec.ofNat 64 (code % 256 + b2n slot * 2 ^ 8 + operand % 8 * 2 ^ 9 + tag.toNat * 2 ^ 12 + b2n mem * 2 ^ 16
    + event % 256 * 2 ^ 24 + detail % 2 ^ 32 * 2 ^ 32)

/-- CC and loop depth as C5 and C13 hold them (R60). -/
def estate (a : Arch) : Word := BitVec.ofNat 64 (a.cc.toNat + 4 * a.depth)

/-- Exception or event-interrupt entry (R62). The PC is the one to be saved. -/
def enterExc (a : Arch) (code : Nat) (cause addr : Word) : Arch :=
  let a' := setC (setC (setC (setC (setC a 1 a.pc) 2 a.psw0) 3 cause) 4 addr) 5 (estate a)
  { a' with psw0 := setBit (setBit (setBit (setBit (setBit a.psw0 0 true) 1 false) 2 true) 4 true) 8 false
            depth := 0, pc := cr a 8 + BitVec.ofNat 64 (0x40 * code) }

/-- NMI entry (R74). -/
def enterNmi (a : Arch) (subcause detail : Nat) (addr : Word) : Arch :=
  let cause := causeWord 0x3F false 0 0 false subcause detail
  let a' := setC (setC (setC (setC (setC a 10 a.pc) 11 a.psw0) 12 cause) 13 (estate a)) 14 addr
  { a' with psw0 := setBit (setBit (setBit a.psw0 0 true) 2 true) 3 true, pc := cr a 8 + 0xFC0 }

/-- Subcause DOUBLE_FAULT (R74). -/
def nmiDouble : Nat := 3
/-- Subcause processor lost. -/
def nmiLost : Nat := 2
/-- Subcause fault reaction. -/
def nmiReaction : Nat := 1

/-- An event interrupt that the processor would take now: the lowest event (R68). -/
def irqOf (a : Arch) : Option Nat :=
  let m := cr a 16 &&& cr a 17 &&& ~~~ (cr a 18)
  if a.psw0.getLsbD 1 && !a.psw0.getLsbD 2 && !a.psw0.getLsbD 3 then (List.range 10).find? fun i => m.getLsbD i
  else none

/-! ## Windows -/

/-- The first instruction of a window opens it (R28, R29). -/
def openWin (p : Proc) : Proc :=
  if p.fresh then { p with fresh := false, misr := p.seq + BitVec.ofNat 64 p.closed.length, units := 0, stores := 0 }
  else p

/-- Sequence number of the open window. -/
def winSeq (p : Proc) : Word := p.seq + BitVec.ofNat 64 p.closed.length

/-- Architectural state at a window boundary: the next window starts from it (R33, R62). -/
def atBoundary (p : Proc) (a : Arch) (nmi : Option (Nat × Nat)) : Proc :=
  match p.closed.reverse with
  | [] => { p with a := a, ckpt := a }
  | w :: t => { p with a := a, closed := ({ w with after := a, nmi := nmi <|> w.nmi } :: t).reverse }

/-- Replace a processor's state at the boundary where its window has closed. -/
def State.boundary (s : State) (c : Nat) (nmi : Option (Nat × Nat)) (f : Arch → Arch) : State :=
  let p := closeWin s.split (s.proc c)
  (s.splitPass c (!(s.proc c).fresh)).setProc c (atBoundary p (f p.a) nmi)

/-- The oldest window passes (R30, R31, R34): its stores may leave, the checkpoint moves up, an episode of retries ends. -/
def State.passWindow (s : State) (c : Nat) : State :=
  let p := s.proc c
  match p.closed with
  | [] => s
  | w :: t =>
    (s.endRetry c).setProc c { p with
      closed := t, ckpt := w.after, seq := p.seq + 1, fails := 0, kept := none
      gate := p.gate.map fun e => if e.win = w.seq then { e with passed := true } else e }

/-- Abandon every window that has not passed and restore the checkpoint (R33). Events stay latched (State.setEvents), an
NMI taken after an abandoned window is pending again, kept results stay (R32). -/
def State.rollback (s : State) (c : Nat) : State :=
  let p := s.proc c
  s.setProc c { p with
    a := p.ckpt, fresh := true, units := 0, stores := 0, closed := [], gate := p.gate.filter (·.passed)
    waiting := none, ser := p.ser && p.fresh && p.closed.isEmpty, stopped := p.stopped && p.closed.isEmpty
    nmi := p.closed.filterMap (·.nmi) ++ p.nmi }

/-! ## Running -/

/-- The clocks and supplies of a processor's die are on (R172, R428). -/
def State.dieOn (s : State) (c : Nat) : Bool :=
  s.pwr.powered && !s.coh.lost && !s.hibernating && !s.pwr.railOff.contains (c / 48)

/-- The processor of core c runs instructions (R25, R36, R41, R69, R73, R92, R234, R239). -/
def State.runs (s : State) (c : Nat) : Bool :=
  let p := s.proc c
  s.dieOn c && s.procOf c == c && s.activePair (s.partOf c) (c / 2) && s.partOf c != 0
    && !s.core.resetting.contains (c / 2) && !s.coreFenced c
    && p.running && !p.stopped && !p.frozen && !p.parked && !p.inCommit

/-- Every store of a processor is globally visible (R80): nothing waits for comparison or release, and no WriteFull of
its pair is short of step 2 of R154. -/
def State.settledProc (s : State) (c : Nat) : Bool :=
  procSettled (s.proc c) && (s.coh.l2.get {} (c / 2)).wfull.isEmpty

/-- The processor starts its next instruction now: no NMI or interrupt goes first (R33, R70), a serialising instruction
has completed (R92), and a WAIT has an event (R69). -/
def State.canStart (s : State) (c : Nat) : Bool :=
  let p := s.proc c
  s.runs c && (p.fails != 0 || ((p.nmi.isEmpty || p.a.psw0.getLsbD 3) && (irqOf p.a).isNone))
    && (!p.ser || s.settledProc c)
    && (match p.waiting with
        | none => true
        | some m => cr p.a 16 &&& m != 0)

/-- A word retires (R28, R29, R65): the state after it, its gate entries, its units; the window closes where R29 says. -/
def retire (split : Bool) (p : Proc) (x : X) : Proc :=
  let p := openWin p
  let a := x.advance
  let a := setC a 24 (cr a 24 + 1)
  let ents := x.ents.map fun e => { e with win := winSeq p }
  let p : Proc := { p with
    a := a, misr := x.folds.foldl misrStep p.misr, units := p.units + x.units, stores := p.stores + x.ents.length
    gate := p.gate ++ ents, ser := x.ser, waiting := none, kept := x.kept <|> p.kept }
  if x.close || x.ser || x.kept.isSome || !x.late.isEmpty || decide (256 ≤ p.units) || decide (64 ≤ p.stores) then
    closeWin split p
  else p

/-- Free values and translations that a word used and installed. -/
def State.took (s : State) (c : Nat) (x : X) : State :=
  let s := { s with free := x.free }
  if x.fills.isEmpty then s
  else { s with core := { s.core with
      tlb := s.core.tlb.set (c / 2) ((x.fills.reverse ++ s.core.tlb.get [] (c / 2)).take 2176) } }

/-- What a retired word asks of units outside the processor: FENCE.IO finds the engines' writes for the partition visible
(R83); PREF sends a ReadShared for a line that the L2 does not hold (R169). -/
def State.outside (s : State) (c : Nat) (x : X) : State :=
  let s := if x.fio then
      { s with cmp := { s.cmp with unsettled := s.cmp.unsettled.filter fun ch => s.movOwner ch != s.partOf c } }
    else s
  match x.pref with
  | some l => if s.l2State (c / 2) l = .i then s.missReq c l .readShared [] else s
  | none => s

/-- Take an exception at the processor's present PC (R62, R70, R73). -/
def State.takeExc (s : State) (c : Nat) (e : Exc) : State :=
  let a := (s.proc c).a
  if a.psw0.getLsbD 3 then
    let s := s.closeWindow c
    let s := s.setProc c { (s.proc c) with stopped := true }
    (s.emit .stewardWake).freezePart (s.partOf c) 3
  else if a.psw0.getLsbD 2 then s.boundary c none fun a => enterNmi a nmiDouble 0 e.addr
  else s.boundary c none fun a =>
    enterExc a e.code (causeWord e.code e.slot e.operand e.tag e.mem 0 e.detail) e.addr

/-- A routine fault of a patched routine (R141): patching is disabled, the window rolls back without a RETRY. -/
def State.routineFault (s : State) (c : Nat) : State :=
  let s := s.wf (aUcs 8) 2 0 4
  let s := (List.range 64).foldl (fun s i => s.wb (aUcs (0x100 + 8 * i)) 31 false) s
  (s.rollback c).raise 234 0

/-- A word that a processor executes has ended (R62, R70): it retires, then its completing exception or the Trace
exception is taken. -/
def State.finishWord (s : State) (c : Nat) (x : X) : State :=
  let p := s.proc c
  let trace : List Exc := if x.late.isEmpty && p.a.psw0.getLsbD 8 then [{ code := 0x10, free := x.free }] else []
  let x := { x with late := x.late ++ trace }
  let p' := retire s.split p x
  let s := (((s.took c x).outside c x).splitPass c p'.fresh).setProc c p'
  match x.late with
  | [] => s
  | e :: _ => s.takeExc c e

/-- The fetch of the word at the PC (R52, R53, R56, R84): translated and tagged CODE. -/
def State.fetch (s : State) (c : Nat) (x : X) : Except Exc X :=
  match s.translate c x .fetch x.a.pc with
  | .error e => .error e
  | .ok (pa, x) =>
    let t := (s.readPa (pa / 8 * 8)).tag
    if t == Tag.code then .ok x
    else if t == Tag.poison then .error { x.memExc 10 0 with mem := false }
    else .error (x.exc 2)

/-- A WAIT whose event has come completes (R69). -/
def State.endWait (s : State) (c : Nat) : State :=
  let p := s.proc c
  match p.waiting with
  | none => s
  | some _ => s.finishWord c ({ a := p.a, free := s.free : X }.done 0 0 0 0)

/-- The window closes before a word whose bounds would take it too far (R29). -/
def State.preClose (s : State) (c ub sb : Nat) : State :=
  let p := s.proc c
  if !p.fresh && (decide (256 < p.units + ub) || decide (64 < p.stores + sb)) then s.closeWindow c else s

/-- Core c executes the word at its PC, which is the command's (R70). `ub` and `sb` are its bounds of R29. Nothing happens
while the processor cannot start an instruction, or while the gate has no room for the word's entries (R31). -/
def State.insn (s : State) (c ub sb : Nat) (f : Insn) : State :=
  if !s.canStart c then s
  else
    let s := s.endWait c
    if !s.canStart c then s
    else
      let s := s.preClose c ub sb
      let p := s.proc c
      if 128 < p.gate.length + sb then s
      else
        match (match s.fetch c { a := p.a, free := s.free } with
               | .error e => .error e
               | .ok x => f s c x : Except Exc X) with
        | .error e =>
          let s := { s with free := e.free }
          if e.code = faultCode then s.routineFault c else s.takeExc c e
        | .ok x =>
          match x.wait with
          | some m =>
            let s := s.closeWindow c
            s.setProc c { (s.proc c) with waiting := some m }
          | none => s.finishWord c x

/-- A long operation of hardwired logic: one unit, at most one store. -/
def State.long (s : State) (c sb : Nat) (f : Insn) : State := s.insn c 1 sb f

/-- A micro-routine by extended opcode (R135). -/
def State.micro (s : State) (c code : Nat) (f : Insn) : State :=
  s.insn c (routineBounds code).2.1 (routineBounds code).2.2 f

/-! ## Interrupts and NMIs (R68, R74) -/

/-- EVENT_INTERRUPT: an enabled pending event is taken at an instruction boundary, after any NMI (R70). An interrupt
taken during WAIT saves the PC of the WAIT (R69). -/
def State.opEventInterrupt (c : Nat) (s : State) : State :=
  let p := s.proc c
  if !s.runs c || p.fails != 0 || !(p.nmi.isEmpty || p.a.psw0.getLsbD 3) || (p.ser && !s.settledProc c) then s
  else match irqOf p.a with
    | none => s
    | some e =>
      let s := s.setProc c { p with waiting := none }
      s.boundary c none fun a => enterExc a 0x20 (causeWord 0x20 false 0 0 false e 0) 0

/-- NMI_ENTRY: the oldest pending NMI is taken at an instruction boundary. -/
def State.opNmiEntry (c : Nat) (s : State) : State :=
  let p := s.proc c
  if !s.runs c || p.fails != 0 || p.a.psw0.getLsbD 3 || (p.ser && !s.settledProc c) then s
  else match p.nmi with
    | [] => s
    | n :: t =>
      let s := s.setProc c { p with nmi := t, waiting := none }
      s.boundary c (some n) fun a => enterNmi a n.1 n.2 0

/-- An NMI for a processor (R74); it follows the processor to where it waits if it has been fenced (R37, R395). -/
def State.sendNmi (s : State) (c sub detail : Nat) : State :=
  let c := s.procOf c
  match s.core.images.find (s.imgKey c) with
  | some _ => { s with core := { s.core with
      left := s.core.left.upd {} (s.imgKey c) fun p => { p with nmi := p.nmi ++ [(sub, detail)] } } }
  | none =>
    let p := s.proc c
    s.setProc c { p with nmi := p.nmi ++ [(sub, detail)] }

/-- TIMER_COMPARE (R67): Device Time has reached TIMECMP. -/
def State.opTimerCompare (c : Nat) (s : State) : State :=
  let p := s.proc c
  if s.dieOn c && s.procOf c == c && p.running && decide ((cr p.a 19).toNat ≤ s.time.toNat) then
    s.setEvents c ((1 : Word) <<< evTimer)
  else s

/-! ## Parking (R69, R239) -/

/-- PAIR_STATUS.STATE of a pair none of whose processors is halted: PARKED while every one that runs is parked. -/
def State.parkState (s : State) (pr : Nat) : State :=
  let cs := (s.pairCores pr).filter fun c => (s.proc c).running
  s.wf (aPair pr 8) 2 0 (if cs.all fun c => (s.proc c).parked then 1 else 0)

/-- PARK: Steward firmware parks a processor that has waited PART_PARK.IDLE_TICKS with no event in its mask. That the time
has passed is the command's occasion. -/
def State.opPark (c : Nat) (s : State) : State :=
  let p := s.proc c
  match p.waiting with
  | none => s
  | some m =>
    if s.runs c && cr p.a 16 &&& m == 0 && (irqOf p.a).isNone && p.nmi.isEmpty && s.settledProc c
        && s.rf (aPart (s.partOf c) 0x30) 31 0 != 0 then
      (s.setProc c { p with parked := true }).parkState (c / 2)
    else s

/-- UNPARK: an event of the WAIT mask, or one enabled for interrupts, is set. -/
def State.opUnpark (c : Nat) (s : State) : State :=
  let p := s.proc c
  let woken := match p.waiting with
    | some m => cr p.a 16 &&& m != 0
    | none => true
  if p.parked && s.dieOn c && s.procOf c == c && (woken || (irqOf p.a).isSome || !p.nmi.isEmpty) then
    (s.setProc c { p with parked := false }).parkState (c / 2)
  else s

end Sys2Proof.Machine
end

