-- ==== Sys2Proof/Machine/SysOps.lean ====
section
/-!
DEFINITION. System, event, fence, maintenance and device operations of an instruction word (R58–R63, R69, R80–R83, R101,
R105), external operations (R32, R104) and paired words (R90, R91).
-/
namespace Sys2Proof.Machine

/-! ## Control registers and the PSW (R58, R60) -/

/-- Reserved control registers. -/
def cReserved (n : Nat) : Bool := n == 15 || n == 20 || n == 23 || decide (26 ≤ n)

/-- Registers that program state may read. -/
def cUser (n : Nat) : Bool := n == 16 || n == 18 || n == 21 || n == 22 || n == 24 || n == 25

/-- Writable bits of a control register. -/
def cMask (n : Nat) : Word :=
  match n with
  | 0 => 0x3FFFFFFFFFFF
  | 3 => 0xFFFFFFFFFF01FFFF
  | 12 => 0xFFFFFFFFFF01FFFF
  | 8 => 0xFFFFFFFFFFFFF000
  | 9 => 7
  | 17 => 0x3FF
  | 18 => 0x3FF
  | _ => 0xFFFFFFFFFFFFFFFF

/-- A write to a control register (R60, R68). -/
def cWrite (a : Arch) (n : Nat) (v : Word) : Arch :=
  if cReserved n || n == 21 || n == 22 || n == 24 || n == 25 then a
  else if n = 16 then setC a 16 (cr a 16 &&& ~~~ v)
  else setC a n (v &&& cMask n)

/-- Bits of PSW0 that are not reserved. -/
def pswMask : Word := 0x1FF

/-- The 10-bit mask of WAIT, CLREV and SETEV (R101). -/
def m10 (d x : BitVec 5) : Word := BitVec.ofNat 64 (d.toNat * 32 + x.toNat)

/-- Fields that must be 0 are 0. -/
def zeros (l : List Nat) : Bool := l.all (· == 0)

/-- Supervisor state only (R61). -/
def priv (x : X) (k : Except Exc X) : Except Exc X := need (super x.a) (x.exc 4) k

/-- RDTIME (R19). -/
def sRdtime (d r t : Nat) : Insn := fun s _ x =>
  need (zeros [r, t]) (x.exc 3) (.ok (x.retG d ⟨s.time, Tag.time⟩))
/-- MFC. CYCLES counts CCLK, which the model does not: a free value (log entry 1). -/
def sMfc (d r t : Nat) : Insn := fun _ _ x =>
  need (t == 0) (x.exc 3) (need (super x.a || cUser r) (x.exc 4)
    (if r = 25 then .ok ({ x with free := x.free + 1 }.retG d ⟨Config.freeWord x.free, Tag.untyped⟩)
     else .ok (x.retG d ⟨if cReserved r then 0 else cr x.a r, Tag.untyped⟩)))
/-- MTC. -/
def sMtc (d r t : Nat) : Insn := fun _ _ x =>
  let u := gr x.a r
  need (t == 0) (x.exc 3) (priv x
    (needTags x (if d = 0 ∨ d = 8 then isPU else isU) [u]
      (.ok ({ x with a := cWrite x.a d u.val }.done u.val 0 0 0))))
/-- MFPSW. -/
def sMfpsw (d r t : Nat) : Insn := fun _ _ x =>
  need (zeros [r, t]) (x.exc 3) (.ok (x.retG d ⟨x.a.psw0, Tag.untyped⟩))
/-- MTPSW: the window closes (R29). -/
def sMtpsw (d r t : Nat) : Insn := fun _ _ x =>
  let u := gr x.a r
  need (zeros [d, t]) (x.exc 3) (priv x (needTags x isU [u]
    (.ok { ({ x with a := { x.a with psw0 := u.val &&& pswMask } }.done u.val 0 0 0) with close := true })))

/-- The loop depth that C5 or C13 names; for a value above 4 the spec states none: a free one (log entry 1). -/
def depthOf (n : Nat) (free : Word) : Nat := if n ≤ 4 then n else free.toNat % 5

/-- RFE and RFN (R63): PSW0, CC, loop depth and PC restored as one action. -/
def sReturn (pcR pswR stR : Nat) (clearNl : Bool) (d r t : Nat) : Insn := fun _ _ x =>
  need (zeros [d, r, t]) (x.exc 3) (priv x
    (let psw := cr x.a pswR &&& pswMask
     let a := { x.a with
       psw0 := if clearNl then setBit psw 3 false else psw
       cc := (cr x.a stR).truncate 2
       depth := depthOf (fld (cr x.a stR) 4 2) (Config.freeWord x.free) }
     .ok { ({ x with a := a, free := x.free + 1 }.jump true (cr x.a pcR &&& ~~~ 3)) with close := true }))
/-- RFE. -/
def sRfe : Nat → Nat → Nat → Insn := sReturn 1 2 5 false
/-- RFN. -/
def sRfn : Nat → Nat → Nat → Insn := sReturn 10 11 13 true

/-- SVC: completing, with its number in DETAIL[47:32]. -/
def sSvc (rsv imm : Nat) : Insn := fun _ _ x =>
  need (rsv == 0) (x.exc 3)
    (.ok { (x.done 0 0 0 0) with late := x.late ++ [{ code := 0x0F, detail := imm, free := x.free }] })
/-- BRK. -/
def sBrk (d r t : Nat) : Insn := fun _ _ x => need (zeros [d, r, t]) (x.exc 3) (.error (x.exc 0x11))

/-! ## Events (R67–R69, R101) -/

/-- WAIT: completes at once when an event of the mask is pending. -/
def sWait (m : Word) (t : Nat) : Insn := fun _ _ x =>
  need (t == 0) (x.exc 3) (need (super x.a || m &&& ~~~ (cr x.a 18) == 0) (x.exc 4)
    (if cr x.a 16 &&& m != 0 then .ok (x.done 0 0 0 0) else .ok { x with wait := some m }))
/-- RDEV. -/
def sRdev (d r t : Nat) : Insn := fun _ _ x =>
  need (zeros [r, t]) (x.exc 3)
    (.ok (x.retG d ⟨if super x.a then cr x.a 16 else cr x.a 16 &&& cr x.a 18, Tag.untyped⟩))
/-- CLREV. -/
def sClrev (m : Word) (t : Nat) : Insn := fun _ _ x =>
  let m := if super x.a then m else m &&& cr x.a 18
  need (t == 0) (x.exc 3) (.ok ({ x with a := setC x.a 16 (cr x.a 16 &&& ~~~ m) }.done 0 0 0 0))
/-- SETEV. -/
def sSetev (m : Word) (t : Nat) : Insn := fun _ _ x =>
  need (t == 0) (x.exc 3) (priv x (.ok ({ x with a := setC x.a 16 (cr x.a 16 ||| m) }.done 0 0 0 0)))

/-! ## Fences and maintenance (R80, R83, R101, R169, R188) -/

/-- FENCE.M and FENCE.IO: serialising. -/
def sFence (io : Bool) (d r t : Nat) : Insn := fun _ _ x =>
  need (zeros [d, r, t]) (x.exc 3) (.ok { (x.done 0 0 0 0) with close := true, ser := true, fio := io })
/-- A gate entry that is no store. -/
def X.entry (x : X) (k : GateKind) (pa : Nat) (v : Word) : X :=
  { x with ents := x.ents ++ [{ kind := k, pa := pa, data := ⟨v, Tag.untyped⟩, super := super x.a }] }
/-- TLBI. -/
def sTlbi (d r t : Nat) : Insn := fun _ _ x =>
  let u := gr x.a r
  need (zeros [d, t]) (x.exc 3) (priv x (needTags x isPU [u] (.ok ((x.entry .tlbi u.val.toNat 0).done 0 u.val 0 0))))
/-- TLBIA. -/
def sTlbia (d r t : Nat) : Insn := fun _ _ x =>
  need (zeros [d, r, t]) (x.exc 3) (priv x (.ok ((x.entry .tlbia 0 0).done 0 0 0 0)))
/-- CLEAN.L and FLUSH.L: translated as a load. -/
def sMaint (k : GateKind) (d r t : Nat) : Insn := fun s c x =>
  let u := gr x.a r
  need (zeros [d, t]) (x.exc 3) (priv x (needTags x isPU [u]
    (match s.translate c x .load u.val with
     | .error e => .error e
     | .ok (pa, x) => .ok ((x.entry k (pa / 128 * 128) 0).done 0 u.val 0 0))))
/-- PREF: no exception. -/
def sPref (d r t : Nat) : Insn := fun s c x =>
  let u := gr x.a r
  need (zeros [d, t]) (x.exc 3)
    (match s.translate c x .load u.val with
     | .error e => .ok ({ x with free := e.free }.done 0 u.val 0 0)
     | .ok (pa, x) => .ok ({ x with pref := some (pa / 128) }.done 0 u.val 0 0))

/-! ## Device writes (R81, R105) -/

/-- A write of the Partition Control Page: a serialising store. -/
def X.device (x : X) (off : Nat) (v : Word) : X :=
  { ((x.entry .device off v).done 0 (BitVec.ofNat 64 off) v 0) with close := true, ser := true }

/-- A page offset (R105): 8-byte aligned, below 0x1_0000. Its Data Translation exception has no REASON of its own. -/
def pageOff (x : X) (va : Word) (store : Bool) (k : Except Exc X) : Except Exc X :=
  if va.toNat % 8 ≠ 0 then .error { x.memExc 7 va with mem := false }
  else if 0x10000 ≤ va.toNat then .error (x.addrExc 8 va store)
  else k

/-- IOST. -/
def sIost (d a : Nat) (imm : Word) : Insn := fun _ _ x =>
  let u := gr x.a a
  let v := gr x.a d
  match ([u].filter fun t => !isU t.tag) ++ ([v].filter fun t => !isAny t.tag) with
  | [] => pageOff x (u.val + imm) true (.ok (x.device (u.val + imm).toNat v.val))
  | ts => .error (x.tagExc (ts.map TWord.tag))
/-- CQPOST and ZQPOST: the doorbell of queue d. Every queue group exists in every partition (R453). -/
def sPost (base d r t : Nat) : Insn := fun _ _ x =>
  let u := gr x.a r
  need (t == 0) (x.exc 3) (needTags x isU [u] (.ok (x.device (base + 0x40 * d + 0x18) u.val)))
/-- MVGO: CTRL of slot d with GO. -/
def sMvgo (d r t : Nat) : Insn := fun s c x =>
  let u := gr x.a r
  need (t == 0 && (s.slotChannel (s.partOf c) d).isSome) (x.exc 3)
    (needTags x isU [u] (.ok (x.device (0x2000 + 0x40 * d + 0x18) (u.val ||| 1))))
/-- JCOMMIT: the JCOMMIT register. -/
def sJcommit (d r t : Nat) : Insn := fun _ _ x =>
  let u := gr x.a r
  need (zeros [d, t]) (x.exc 3) (needTags x isPU [u] (.ok (x.device 0x4020 u.val)))

/-! ## External operations (R32) -/

/-- What an instruction asks for once its own checks have passed. -/
abbrev ExtChk := State → Nat → X → Except Exc (ExtOp × X)
/-- What the instruction does with the returned word. -/
abbrev ExtFin := TWord → X → Except Exc X

/-- Perform an external operation at its target: the word returned and the state after; none while it has to wait. -/
def State.perform (s : State) (c : Nat) (x : X) (op : ExtOp) : Option (TWord × State) :=
  let q := s.partOf c
  match op with
  | .iold a =>
    let r := s.pageRead q a.toNat (super x.a)
    some (⟨r.1, Tag.untyped⟩, r.2)
  | .mvsync d =>
    match s.slotChannel q d.toNat with
    | none => some ({}, s)
    | some ch =>
      if s.cmp.unsettled.contains ch && (s.cmp.runs.find ch).isNone then none
      else some (⟨s.peek (aMov ch 0x28), Tag.untyped⟩, s)
  | .atomic fn va b d =>
    match s.translate c x .store va with
    | .error _ => some ({}, s)
    | .ok (pa, _) => some (s.atomicAt c (codeWrite x.a) fn.toNat pa b d)

/-- A SYNC read waits for its channel (R293). -/
def State.syncWait (s : State) (c : Nat) (op : ExtOp) : State :=
  match op with
  | .mvsync d =>
    match s.slotChannel (s.partOf c) d.toNat with
    | some ch =>
      if s.cmp.syncs.contains (ch, c) then s
      else { s with cmp := { s.cmp with syncs := s.cmp.syncs ++ [(ch, c)] } }
    | none => s
  | _ => s

/-- The instruction ends with the returned word, which is kept until its window passes (R32). A word that raises an
exception ends the operation. -/
def State.extEnd (s : State) (c : Nat) (x : X) (op : ExtOp) (w : TWord) (fin : ExtFin) : State :=
  match fin w x with
  | .error e =>
    let s := s.setProc c { (s.proc c) with kept := none }
    { s with free := e.free }.takeExc c e
  | .ok x => s.finishWord c { x with kept := some (op, w) }

/-- An instruction that is an external operation (R32): the window before it closes; it waits until every earlier window
has passed and drained; it uses a result that is kept, and otherwise performs the operation. -/
def State.extInsn (s : State) (c : Nat) (chk : ExtChk) (fin : ExtFin) : State :=
  if !s.canStart c then s
  else
    let s := s.endWait c
    let s := s.closeWindow c
    if !s.canStart c || !s.settledProc c || (s.proc c).inflight.isSome then s
    else
      match (match s.fetch c { a := (s.proc c).a, free := s.free } with
             | .error e => .error e
             | .ok x => chk s c x : Except Exc (ExtOp × X)) with
      | .error e => { s with free := e.free }.takeExc c e
      | .ok (op, x) =>
        match (s.proc c).kept with
        | some (op', w) =>
          if op' = op then s.extEnd c x op w fin
          else s.setProc c { (s.proc c) with kept := none }
        | none =>
          match s.perform c x op with
          | none => s.syncWait c op
          | some (w, s) => s.extEnd c x op w fin

/-- IOLD. -/
def iold (d a : Nat) (imm : Word) (s : State) (c : Nat) : State :=
  s.extInsn c
    (fun _ _ x =>
      let u := gr x.a a
      let va := u.val + imm
      match needTags x isU [u] (pageOff x va false (.ok x)) with
      | .error e => .error e
      | .ok x => .ok (.iold va, x))
    (fun w x => .ok (x.retG d w))

/-- MVSYNC: a slot that the partition does not hold raises Operation. -/
def mvsync (d r t : Nat) (s : State) (c : Nat) : State :=
  s.extInsn c
    (fun s c x =>
      match need (t == 0 && (s.slotChannel (s.partOf c) r).isSome) (x.exc 3) (.ok x) with
      | .error e => .error e
      | .ok x => .ok (.mvsync (BitVec.ofNat 5 r), x))
    (fun w x => .ok (x.retG d w))

/-- The atomics (R104): address Ga; `fn` as in the table. -/
def atomic (fn d a b : Nat) (s : State) (c : Nat) : State :=
  let swap := fn == 4 || fn == 5
  s.extInsn c
    (fun s c x =>
      let u := gr x.a a
      let v := gr x.a b
      let w := gr x.a d
      let ok := if swap then isAny else isU
      match ([u].filter fun t => !isPU t.tag) ++ ([v].filter fun t => !ok t.tag)
          ++ (if fn = 5 then [w].filter fun t => !isAny t.tag else []) with
      | [] =>
        if u.val.toNat % 8 ≠ 0 then .error (x.memExc 7 u.val)
        else match s.translate c x .load u.val with
          | .error e => .error e
          | .ok (_, x) =>
            match s.translate c x .store u.val with
            | .error e => .error e
            | .ok (_, x) => .ok (.atomic (BitVec.ofNat 5 fn) u.val v w, x)
      | ts => .error (x.tagExc (ts.map TWord.tag)))
    (fun old x =>
      let va := (gr x.a a).val
      let v := gr x.a b
      let w := gr x.a d
      match atomBad (codeWrite x.a) fn old v w with
      | some 9 => .error { x.exc 9 with addr := va }
      | some 10 => .error (x.memExc 10 va)
      | some _ => .error { x.memTagExc old.tag with addr := va }
      | none =>
        let x := if fn = 5 then { x with a := { x.a with cc := ccSwap (decide (old = w)) } } else x
        .ok ({ x with a := setG x.a d old }.done old.val va v.val (kRes old.tag + kStore v.tag)))

/-- EXTERNAL_OP_ISSUE: once the request has been compared, the leading core issues it; a far atomic goes to its home. -/
def State.opExtIssue (c : Nat) (op : ExtOp) (s : State) : State :=
  let p := s.proc c
  let x : X := { a := p.a, free := s.free }
  if !s.canStart c || p.waiting.isSome || !p.fresh || !s.settledProc c || p.inflight.isSome || p.kept.isSome then s
  else
    let far := match op with
      | .atomic _ va _ _ => match s.translate c x .store va with
        | .ok (pa, _) => if s.runsFar c pa then some pa else none
        | .error _ => none
      | _ => none
    match far, op with
    | some pa, .atomic fn _ b d =>
      (s.setProc c { p with inflight := some (op, {}) }).csend
        (.request (c / 2) (pa / 128) (.farAtomic c (codeWrite p.a) fn.toNat pa b d) [])
    | _, _ =>
      match s.perform c x op with
      | none => s.syncWait c op
      | some (w, s) => s.setProc c { (s.proc c) with inflight := some (op, w) }

/-- A far atomic of core c is on its way or open at its home. -/
def State.farOpen (s : State) (c : Nat) : Bool :=
  let mine (r : CReq) : Bool := match r with
    | .farAtomic k _ _ _ _ _ => k == c
    | _ => false
  let msg (m : CMsg) : Bool := match m with
    | .request _ _ r _ => mine r
    | _ => false
  s.coh.msgs.any msg || s.coh.txn.any fun t => mine t.2.req

/-- The answer of a far atomic. -/
def farAnswer (c : Nat) : List CMsg → Option (TWord × List CMsg)
  | [] => none
  | .atomicDone k l w :: t =>
    if k = c then some (w, t)
    else match farAnswer c t with
      | some (w', t') => some (w', .atomicDone k l w :: t')
      | none => none
  | m :: t =>
    match farAnswer c t with
    | some (w', t') => some (w', m :: t')
    | none => none

/-- EXTERNAL_OP_RESULT: the returned value enters the input latch and is kept until the window passes. -/
def State.opExtResult (c : Nat) (s : State) : State :=
  let p := s.proc c
  match p.inflight with
  | none => s
  | some (op, w) =>
    if s.farOpen c then s
    else match farAnswer c s.coh.msgs with
      | some (w, ms) =>
        let s := s.setProc c { p with inflight := none, kept := some (op, w) }
        { s with coh := { s.coh with msgs := ms } }
      | none => s.setProc c { p with inflight := none, kept := some (op, w) }

/-- MOVER_SYNC_RETURN: every write of the channel's last run is visible, and the SYNC read of core c returns (R293). -/
def State.opSyncReturn (ch c : Nat) (s : State) : State :=
  if !s.cmp.syncs.contains (ch, c) || (s.cmp.runs.find ch).isSome then s
  else
    let s := { s with cmp := { s.cmp with syncs := s.cmp.syncs.filter (· ≠ (ch, c))
                                          unsettled := s.cmp.unsettled.filter (· ≠ ch) } }
    match (List.range 32).find? fun d => s.slotChannel (s.partOf c) d == some ch with
    | some d => s.setProc c { (s.proc c) with
        kept := some (.mvsync (BitVec.ofNat 5 d), ⟨s.peek (aMov ch 0x28), Tag.untyped⟩) }
    | none => s

/-! ## Paired words (R86, R90, R91) -/

/-- A short operation, none for a reserved one. -/
def shortOp (w : BitVec 15) : Option Insn :=
  let d := w.toNat / 32 % 32
  let a := w.toNat % 32
  let imm5 : Word := sx (w.truncate 5 : BitVec 5)
  match w.toNat / 1024 with
  | 0 => some fun _ _ x => need (d == 0 && a == 0) (x.exc 3) (.ok (x.done 0 0 0 0))
  | 1 => some (iMov d a 0)
  | 2 => some (iAdd d d a)
  | 3 => some (iSub d d a)
  | 4 => some (iLogic (· &&& ·) d d a)
  | 5 => some (iLogic (· ||| ·) d d a)
  | 6 => some (iLogic (· ^^^ ·) d d a)
  | 7 => some (iShift .shl d d a)
  | 8 => some (iShift .shr d d a)
  | 9 => some (iShift .sra d d a)
  | 10 => some (iAddi d d imm5)
  | 11 => some (iMovi d imm5)
  | 12 => some (iShiftI .shl d a)
  | 13 => some (iShiftI .shr d a)
  | 14 => some (iCmp ccSigned 0 d a)
  | 15 => some (iCmp ccUnsigned 0 d a)
  | 16 => some (iCmpI ccSigned 0 d imm5)
  | 17 => some (memImm ldWord d a 0)
  | 18 => some (memImm stWord d a 0)
  | 19 => some (memImm ldFp d a 0)
  | 20 => some (memImm stFp d a 0)
  | 21 => some (fAdd false 0 d d a)
  | 22 => some (fAdd true 0 d d a)
  | 23 => some (fMul 0 d d a)
  | 24 => some (fMv 0 d a)
  | 25 => some (iMul d d a)
  | 26 => some (iMovs d a 0)
  | 27 => some (iGettag d a 0)
  | 28 => some (iNot d a 0)
  | 29 => some (iAddu d d a)
  | 30 => some (iAddc d d a)
  | 31 => some (iSubu d d a)
  | _ => none

/-- One slot: a reserved operation raises Operation. -/
def slotOp (w : BitVec 15) : Insn := fun s c x =>
  match shortOp w with
  | some f => f s c x
  | none => .error (x.exc 3)

/-- Mark exceptions of slot B (R72). -/
def inSlotB (n : Nat) (r : Except Exc X) : Except Exc X :=
  match r with
  | .error e => .error { e with slot := true }
  | .ok x => .ok { x with late := x.late.mapIdx fun i e => if i < n then e else { e with slot := true } }

/-- A paired word: slot A, then slot B on what A has left; a suppressing exception of either suppresses both (R71). -/
def pairOp (u v : BitVec 15) : Insn := fun s c x =>
  match slotOp u s c x with
  | .error e => .error e
  | .ok x => inSlotB x.late.length (slotOp v s c x)

/-- fn values of major opcode 0x00 (R97, R101). -/
def fnInt : List Nat :=
  [0, 1, 2, 3, 4, 5, 8, 9, 0xA, 0xB, 0xC, 0x10, 0x11, 0x12, 0x13, 0x20, 0x21, 0x22, 0x23, 0x24, 0x28, 0x29, 0x2A, 0x2B,
   0x30, 0x31, 0x38, 0x40, 0x41, 0x42, 0x44, 0x45, 0x46, 0x50, 0x51, 0x52, 0x53, 0x60, 0x61, 0x78, 0x79, 0x7A, 0x7B]

/-- fn[7:0] values of major opcode 0x21 (R102). -/
def fnFp : List Nat :=
  [0, 1, 2, 3, 4, 8, 9, 0xA, 0xB, 0xC, 0x10, 0x11, 0x20, 0x21, 0x22, 0x23, 0x24, 0x25, 0x28, 0x29, 0x2A]

/-- X-format extended opcodes (R100, R101, R105, R106). -/
def xops : List Nat :=
  [0x30, 8, 0x10, 0x11, 0x12, 0x13, 0x14, 0x15, 0x16, 0x18, 0x19, 0x1A, 0x1B, 1, 2, 0x20, 0x21, 0x28, 0x29, 0x2A,
   0x40, 0x41, 0x42, 0x43, 0x44, 0x100, 0x101, 0x102, 0x103, 0x104, 0x105]

/-- An instruction word spells an instruction of the tables, whatever its operand fields hold (R86, R87, R89, R93). -/
def wordDefined (w : BitVec 32) : Bool :=
  let n := w.toNat
  let op := n / 2 ^ 25 % 64
  if w.getLsbD 31 then !w.getLsbD 30
  else if op = 0 then fnInt.contains (n % 1024)
  else if op = 0x18 then decide (n / 64 % 16 ≤ 12)
  else if op ≤ 0x20 then true
  else if op = 0x21 then fnFp.contains (n % 256)
  else if op = 0x22 then decide (n % 8 < 4)
  else if op = 0x23 then decide (n % 1024 ≤ 9)
  else if op ≤ 0x26 then true
  else if op = 0x27 then decide (n % 1024 ≤ 1)
  else if op = 0x3D then decide (n % 32 ≤ 0xC)
  else if op = 0x3E then xops.contains (n / 2 ^ 13 % 4096)
  else false

/-- UNDEFINED_OPCODE (R86, R89, R93): the Operation exception; nothing for a word that the tables define. -/
def State.opUndefined (c : Nat) (w : BitVec 32) (s : State) : State :=
  if wordDefined w then s else s.long c 0 fun _ _ x => .error (x.exc 3)

end Sys2Proof.Machine
end

