-- ==== Sys2Proof/Machine/PairOps.lean ====
section
/-!
DEFINITION. Comparison, retry and fencing (R30, R33, R34, R40–R44), the release of the Pair Store Gate (R31, R101, R151,
R153), roles, sparing and checkpoint images (R36–R39, R227).
-/
namespace Sys2Proof.Machine

/-! ## Retry and fencing -/

/-- A fenced processor's passed entries and external operation have left the pair: it is FENCED, its image is whole and
Steward firmware is interrupted (R37 step 2). In split mode the pair is FENCED when both its cores are. -/
def State.fenceDone (s : State) (c : Nat) : State :=
  let p := s.proc c
  if p.fails ≠ 4 ∨ p.gate ≠ [] ∨ (s.l2 (c / 2)).wfull ≠ [] ∨ p.inflight.isSome then s
  else
    let s := { s with core := { s.core with
        left := s.core.left.upd {} (s.imgKey c) fun l => { l with kept := p.kept }
        waiting := s.core.waiting ++ [c] } }
    let s := s.setProc c { seq := p.seq }
    let whole := !s.split || (s.coreFenced (c / 2 * 2) && s.coreFenced (c / 2 * 2 + 1))
    (if whole then s.wf (aPair (c / 2) 8) 2 0 4 else s).emit .stewardWake

/-- Fence the processor of core c (R37 step 2, R42): unchecked work is discarded, the checkpoint becomes the image,
passed entries drain. With both checkpoint copies lost there is no image (R44). -/
def State.fence (s : State) (c : Nat) (lost : Bool) : State :=
  let (f, s) := s.takeForce (c / 2) 3
  let lost := lost || f
  let s := s.rollback c
  let p := s.proc c
  let k := s.imgKey c
  let s := { s with core := { s.core with
      images := if lost then s.core.images.del k
                else s.core.images.set k { a := p.ckpt, latched := cr p.ckpt 16, seq := p.seq }
      left := s.core.left.set k { nmi := p.nmi } } }
  let s := s.setProc c { seq := p.seq, gate := p.gate, inflight := p.inflight, kept := p.kept, fails := 4 }
  let s := if s.split then s.wb (aPair (c / 2) 8) (5 + c % 2) true else s.wf (aPair (c / 2) 8) 2 0 3
  (if lost then s.wb (aPair (c / 2) 8) 7 true else s).fenceDone c

/-- Fill PAIR_LAST and PAIR_LAST_PC for a failed execution (02_checked_execution.md). -/
def State.noteFail (s : State) (c cause core retries : Nat) : State :=
  let p := s.proc c
  let w := cause + core % 2 * 2 ^ 4 + min retries 3 * 2 ^ 5 + p.seq.toNat % 2 ^ 48 * 2 ^ 16
  (s.wr (aPair (c / 2) 0x20) (BitVec.ofNat 64 w)).wr (aPair (c / 2) 0x28) p.ckpt.pc

/-- An execution of the oldest window has failed (R33, R34): a retry starts, or after the fourth the processor fences.
`quiet` says that the RETRY event has been reported already (FORCE). -/
def State.failExec (s : State) (c cause core : Nat) (error quiet : Bool) : State :=
  let n := (s.proc c).fails + 1
  let s := s.noteFail c cause core n
  if 4 ≤ n then s.fence c false
  else
    let s := s.rollback c
    let s := s.setProc c { (s.proc c) with fails := n }
    let s := if error then s.satField (aPair (c / 2) 0x18) 63 32 else s.satField (aPair (c / 2) 0x18) 31 0
    let s := (s.wf (aPair (c / 2) 8) 4 3 n).wf (aPair (c / 2) 8) 2 0 2
    if quiet then s else s.raise (c / 2) 0

/-- The clocks of core c run and it is a processor of its own. -/
def State.alive (s : State) (c : Nat) : Bool := s.dieOn c && s.procOf c == c

/-- WINDOW_COMPARISON: the comparator has the result of the oldest closed window (R30); `trail` is the trailing core's
signature. Split mode compares nothing (R41). -/
def State.opComparison (c : Nat) (trail : Word) (s : State) : State :=
  match (s.proc c).closed with
  | [] => s
  | w :: _ =>
    if s.split || !s.alive c then s
    else
      let n := s.rf (aPair (c / 2) 0x30) 2 0
      if 0 < n then (s.wf (aPair (c / 2) 0x30) 2 0 (n - 1)).failExec c 4 0 false false
      else
        let f := s.takeForce (c / 2) 0
        if f.1 then f.2.failExec c 4 0 false true
        else if w.misr = trail then s.passWindow c
        else s.failExec c 1 0 false false

/-- DETECTED_ERROR: a parity or uncorrectable ECC error in a core array (R33, R42, R44). Which of the two it was is a free
value (log entry 1). `badL` and `badT` say that a checkpoint copy fails its ECC check. -/
def State.opDetected (c : Nat) (trailing badL badT : Bool) (s : State) : State :=
  let p := s.proc c
  if !s.alive c || !p.running || p.parked || s.coreFenced c || s.core.resetting.contains (c / 2) then s
  else
    let core := if s.split then c % 2 else b2n trailing
    if (if s.split then badL else badL && badT) then
      ((s.noteFail c 5 core p.fails).fence c true).raise (c / 2) 3
    else
      let (v, s) := s.draw
      s.failExec c (2 + v.toNat % 2) core true false

/-! ## Release of the Pair Store Gate -/

/-- The 16 entries at the head of a gate that together are a full-line write (R153): its line and words. -/
def fullLine (g : List GateEnt) : Option (Nat × List TWord) :=
  let h := g.take 16
  match h with
  | [] => none
  | e :: _ =>
    let line := e.pa / 128
    if h.length == 16 && h.all (fun e => e.passed && decide (e.kind = .store) && e.size == 8 && e.pa % 8 == 0
        && e.pa / 128 == line)
        && (List.range 16).all (fun k => h.any fun e => e.pa % 128 / 8 == k) then
      some (line, (List.range 16).map fun k => h.foldl (applyEnt (line * 128 + 8 * k)) {})
    else none

/-- A full-line write reaches the head of the gate: its stream grows (R153). -/
def noteFull (ss : List Stream) (line : Nat) (missed : Bool) : List Stream :=
  if ss.any fun t => t.nextLine == line + 1 then ss
  else if ss.any fun t => t.nextLine == line then
    ss.map fun t => if t.nextLine = line then
      { nextLine := line + 1, length := t.length + b2n missed, streaming := decide (16 ≤ t.length) } else t
  else ({ nextLine := line + 1, length := b2n missed, streaming := false } :: ss).take 8

/-- The detector is enabled (PAIR_L2CTL.STREAM_EN). -/
def State.streamOn (s : State) (p : Nat) : Bool := s.rb (aPair p 0x680) 0

/-- Ask ahead for the lines of the next 16 passed entries (R151). Entries of a full-line write wait for the detector, which
sees whether its line is missing when they reach the head. -/
def State.lookahead (s : State) (c : Nat) : List GateEnt → Nat → State
  | [], _ => s
  | _, 0 => s
  | e :: t, n + 1 =>
    let here : Bool := decide (e.kind = .store) && e.passed && !(s.streamOn (c / 2) && (fullLine (e :: t)).isSome)
    (if here then s.askOwn c (e.pa / 128) else s).lookahead c t n

/-- Drop the first `n` entries of a gate. -/
def State.dropGate (s : State) (c n : Nat) : State :=
  let p := s.proc c
  s.setProc c { p with gate := p.gate.drop n }

/-- The line is held in M or E: a store becomes visible when it is written there (R151). -/
def State.owns (s : State) (p line : Nat) : Bool :=
  decide (s.l2State p line = .m) || decide (s.l2State p line = .e)

/-- Write one store entry into a line that the L2 owns. -/
def State.writeEnt (s : State) (p : Nat) (e : GateEnt) : State :=
  let a := e.pa / 8 * 8
  (s.markPa e.pa).l2Write p a (applyEnt a (s.readPa a) e)

/-- The store at the head of the gate, written one entry at a time. -/
def State.releaseOne (s : State) (c : Nat) (e : GateEnt) (t : List GateEnt) : State :=
  let p := c / 2
  let line := e.pa / 128
  let l := s.l2 p
  let s := s.setL2 p { l with streams := l.streams.filter fun x => x.nextLine ≠ line }
  if s.owns p line && l.wfull.isEmpty then ((s.writeEnt p e).dropGate c 1)
  else (s.askOwn c line).lookahead c t 16

/-- A full-line write at the head of the gate (R153): WriteFull in streaming state and with the line absent, else 16
writes into the L2. -/
def State.releaseFull (s : State) (c line : Nat) (ws : List TWord) (g : List GateEnt) : State :=
  let p := c / 2
  let l := s.l2 p
  let absent := decide (s.l2State p line = .i)
  let l := { l with streams := noteFull l.streams line absent }
  let s := s.setL2 p l
  let streaming := l.streams.any fun t => t.nextLine == line + 1 && t.streaming
  if streaming && absent then
    if decide (8 ≤ l.wfull.length) || (l.miss.find line).isSome || decide (64 ≤ l.miss.length) then s
    else
      let s := s.missReq c line .writeFull ws
      let l := s.l2 p
      (s.setL2 p { l with wfull := l.wfull ++ [(line, ws, false)] }).dropGate c 16
  else if s.owns p line && l.wfull.isEmpty then
    ((g.take 16).foldl (fun s e => s.writeEnt p e) s).dropGate c 16
  else (s.askOwn c line).lookahead c (g.drop 16) 16

/-- A CLEAN.L or FLUSH.L of the pair is at the line's home or on its way there. -/
def State.maintSent (s : State) (p line : Nat) (r : CReq) : Bool :=
  s.coh.msgs.any (fun m => match m with
    | .request p' l r' _ => p' == p && l == line && decide (r' = r)
    | _ => false)
    || (match s.coh.txn.find line with
        | some t => t.pair == p && decide (t.req = r)
        | none => false)

/-- Send a maintenance operation to the line's home once (R169). -/
def State.sendMaint (s : State) (p line : Nat) (r : CReq) : State :=
  if s.maintSent p line r then s else s.csend (.request p line r [])

/-- Remove translations of partition q from every TLB (R188): of one page, or all. -/
def State.tlbDrop (s : State) (q : Nat) (va : Option Nat) : State :=
  { s with core := { s.core with tlb := s.core.tlb.vmap fun es => es.filter fun t =>
      !(t.part == q && (match va with
        | none => true
        | some v => v / 2 ^ t.log2 == t.vpage)) } }

/-- GATE_STORE_RELEASE: the oldest entry of core c's gate leaves it once its window has passed (R31, R151). Device writes and
translation removals wait for earlier WriteFulls as stores do (R81, R154). -/
def State.opGateRelease (c : Nat) (s : State) : State :=
  let p := c / 2
  let g := (s.proc c).gate
  match g with
  | [] => s
  | e :: t =>
    if !s.alive c || !e.passed then s
    else
      let quiet := (s.l2 p).wfull.isEmpty
      let s := match e.kind with
        | .store =>
          match (if s.streamOn p then fullLine g else none) with
          | some (line, ws) => s.releaseFull c line ws g
          | none => s.releaseOne c e t
        | .clean => if quiet then s.sendMaint p (e.pa / 128) .clean else s
        | .flush => if quiet then s.sendMaint p (e.pa / 128) .flush else s
        | .tlbi => if quiet then (s.tlbDrop (s.partOf c) (some e.pa)).dropGate c 1 else s
        | .tlbia => if quiet then (s.tlbDrop (s.partOf c) none).dropGate c 1 else s
        | .device => if quiet then (s.dropGate c 1).pageWrite (s.partOf c) e.pa e.data.val c e.super else s
      s.fenceDone c

/-! ## Roles (R36, R37, R39, R227) -/

/-- A role change is permitted (PAIR_ROLE). -/
def roleOk (r0 r1 part : Nat) : Bool :=
  if r0 = 3 then false
  else r1 == 3 || r1 == r0 || (r0 == 0) || (r0 == 2 && r1 == 1) || (r0 == 2 && r1 == 0)
    || (r0 == 1 && part == 0)

/-- Place a resumed processor: it runs with its partition, and is stopped while the partition freezes or is FROZEN. -/
def State.heldBack (s : State) (c : Nat) : State :=
  if s.partState (s.partOf c) = 3 ∨ s.partState (s.partOf c) = 4 then s.haltProc c else s

/-- What followed a fenced processor besides its image returns to it (R32, R37). -/
def State.giveLeft (s : State) (c key : Nat) : State :=
  let l := s.core.left.get {} key
  let s := s.setProc c { (s.proc c) with kept := l.kept, nmi := l.nmi }
  { s with core := { s.core with left := s.core.left.del key } }

/-- Key of CoreSt.left for a lost processor of a partition (R39). -/
def lostLeft (q l : Nat) : Nat := 1024 + lostKey q l

/-- The fenced processor whose place an image in pair p takes: same partition and logical number. -/
def State.replaced (s : State) (p : Nat) : Option Nat :=
  s.core.waiting.find? fun c =>
    s.rf (aPair (c / 2) 0) 13 8 == s.rf (aPair p 0) 13 8 && s.logical (c / 2) == s.logical p

/-- The sparing of the fenced core `src` is complete on core c (R37 steps 7 and 8): events latched since, NMIs and kept
results follow, its L2 drains, SPARED is counted. -/
def State.sparedTo (s : State) (c src : Nat) : State :=
  let k := s.imgKey src
  let ev := match s.core.images.find k with
    | some m => m.latched
    | none => 0
  let s := { s with core := { s.core with
      images := s.core.images.del k, waiting := s.core.waiting.filter (· ≠ src)
      draining := if s.rf (aPair (src / 2) 8) 2 0 = 4 then s.core.draining ++ [src / 2] else s.core.draining } }
  (((s.setEvents c ev).giveLeft c k).heldBack c).raise (src / 2) 1

/-- A pair in LOADING becomes ACTIVE: its processor starts from the loaded image (R37 step 8). -/
def State.startLoaded (s : State) (p : Nat) : State :=
  let m := s.core.images.get {} p
  let s := { s with core := { s.core with images := s.core.images.del p } }
  let q := s.rf (aPair p 0) 13 8
  let s := s.wf (aPair p 8) 2 0 5
  if s.partState q < 2 ∨ 4 < s.partState q then s
  else
    let s := s.startImage (2 * p) m
    match s.replaced p with
    | some src => (if s.split then s.wb (aPair p 8) 9 true else s).sparedTo (2 * p) src
    | none => s.heldBack (2 * p)

/-- The lost processor that a pair newly assigned to its frozen partition resumes (R39): of the pair's logical number, or
the lowest. -/
def State.lostFor (s : State) (q p : Nat) : Option Nat :=
  let ls := (s.parts.lost.filter fun t => t.1 / 64 = q).map (·.1 % 64)
  if s.rf (aPart q 8) 7 4 ≠ 2 ∨ (s.partState q ≠ 3 ∧ s.partState q ≠ 4) then none
  else if ls.contains (s.logical p) then some (s.logical p) else ls.head?

/-- A pair becomes ACTIVE for a partition other than through LOADING (R39, R45, R227). -/
def State.startActive (s : State) (p : Nat) : State :=
  let q := s.rf (aPair p 0) 13 8
  if q = 0 ∨ s.core.resetting.contains p then s
  else match s.lostFor q p with
    | some l =>
      let m := s.parts.lost.get {} (lostKey q l)
      let s := { s with parts := { s.parts with lost := s.parts.lost.del (lostKey q l) } }
      ((s.startImage (2 * p) m).giveLeft (2 * p) (lostLeft q l)).heldBack (2 * p)
    | none => if s.partState q = 2 then s.startPair p else s

/-- Stop a pair and set its PAIR_STATUS.STATE. -/
def State.idlePair (s : State) (p st : Nat) : State :=
  let s := s.stopPair p
  ({ s with core := { s.core with images := s.core.images.del p } }).wf (aPair p 8) 2 0 st

/-- Apply a write to PAIR_ROLE (R36, R37 steps 5 and 8). -/
def State.roleApply (s : State) (p : Nat) (v : Word) (be : Byte) : State :=
  let a := aPair p 0
  let old := s.rd a
  let new := s.merged a v be
  let r0 := fld old 1 0
  let r1 := fld new 1 0
  let part := fld new 13 8
  let st := s.rf (aPair p 8) 2 0
  if !roleOk r0 r1 part || (r1 == 2 && r0 != 2 && decide (6 ≤ s.sparesOf p)) then s
  else
    let s := s.wr a new
    match r1 with
    | 3 => if st = 3 ∨ st = 4 then s else s.idlePair p 4
    | 2 =>
      if part = 0 then s.idlePair p 5
      else if st = 6 then s
      else
        let s := s.idlePair p 6
        { s with core := { s.core with images := s.core.images.set p {} } }
    | 1 =>
      if st = 6 then s.startLoaded p
      else if r0 = 1 ∧ fld old 13 8 = part then s
      else (s.idlePair p 5).startActive p
    | _ => s.idlePair p 5

/-- PAIR_ROLE_WRITE. -/
def State.opRole (w : Writer) (p : Nat) (v : Word) (be : Byte) (s : State) : State :=
  s.mgmt w (aPair p 0) v be fun s => s.roleApply p v be

/-- Apply a write to PAIR_TEST: 5–7 are ignored (R34). -/
def State.pairTestApply (s : State) (p : Nat) (v : Word) (be : Byte) : State :=
  if 5 ≤ fld (s.merged (aPair p 0x30) v be) 2 0 then s else s.applyRw (aPair p 0x30) v be

/-- PAIR_TEST_WRITE. -/
def State.opPairTest (w : Writer) (p : Nat) (v : Word) (be : Byte) (s : State) : State :=
  s.mgmt w (aPair p 0x30) v be fun s => s.pairTestApply p v be

/-- Apply a write to PAIR_CKPT: only in LOADING (R37 step 6). -/
def State.ckptApply (s : State) (p off : Nat) (v : Word) (be : Byte) : State :=
  if s.rf (aPair p 8) 2 0 = 6 then
    let m := s.core.images.get {} p
    let w := (ckptWord m off &&& ~~~ (beMask be)) ||| (v &&& beMask be)
    { s with core := { s.core with images := s.core.images.set p (ckptSet m off w) } }
  else s

/-- An offset of PAIR_CKPT. -/
def ckptOff (off : Nat) : Bool :=
  off % 8 == 0 && ((0x100 ≤ off && off < 0x380) || (0x400 ≤ off && off < 0x520))

/-- PAIR_CKPT_WRITE. -/
def State.opCkpt (w : Writer) (p off : Nat) (v : Word) (be : Byte) (s : State) : State :=
  if ckptOff off then s.mgmt w (aPair p off) v be fun s => s.ckptApply p off v be else s

/-- SPARE_SELF_TEST: a spare that fails its test is fenced (R36). -/
def State.opSpareTest (p : Nat) (passed : Bool) (s : State) : State :=
  if s.rf (aPair p 0) 1 0 = 2 ∧ s.rf (aPair p 8) 2 0 = 5 ∧ !passed ∧ s.dieOn (2 * p) then
    s.opRole .steward p 3 1
  else s

/-! ## Sparing (R37, R39, R42, R44) -/

/-- Cores that can take over core c's work, in Steward firmware's order: in split mode a spare core of c's partition on
the same die, else the spares of the same die, else those of the other. -/
def State.spareCores (s : State) (c : Nat) : List Nat :=
  let free (p : Nat) : Bool := s.pairPresent p && s.rf (aPair p 0) 1 0 == 2 && s.rf (aPair p 0) 13 8 == 0
    && s.rf (aPair p 8) 2 0 == 5 && !s.core.resetting.contains p && s.dieOn (2 * p)
  let all := ((List.range 48).filter free).map (2 * ·)
  let half := if s.split then ((List.range 48).filter fun p =>
      s.rb (aPair p 8) 9 && s.activePair (s.partOf c) p && p / 24 == c / 48 && s.dieOn (2 * p)
        && !s.coreFenced (2 * p + 1)).map (2 * · + 1)
    else []
  let same := all.filter fun k => k / 48 == c / 48
  if half ≠ [] then half else if same ≠ [] then same else all

/-- Move a fenced core's image onto the odd core of a spare pair that stayed free (R42). -/
def State.spareHalf (s : State) (c k : Nat) : State :=
  let m := s.core.images.get {} (s.imgKey c)
  let a := Arch.withEvents m.a m.latched
  let s := (s.wb (aPair (k / 2) 8) 9 false).setProc k { running := true, a := a, ckpt := a, seq := m.seq }
  s.sparedTo k c

/-- Move a fenced processor onto the spare pair of core k by Steward firmware's writes (R37 steps 5 to 8). -/
def State.spareWhole (s : State) (c k : Nat) : State :=
  let p := c / 2
  let m := s.core.images.get {} (s.imgKey c)
  let s := if s.rf (aPair p 8) 2 0 = 4 then s.opRole .steward p 3 1 else s
  let to_ := setFld (setFld 2 13 8 (s.rf (aPair p 0) 13 8)) 21 16 (s.logical p)
  let s := s.opRole .steward (k / 2) to_ 0xFF
  let s := ((List.range 132).map fun i => 0x100 + 8 * i).foldl
    (fun s o => s.opCkpt .steward (k / 2) o (ckptWord m o) 0xFF) s
  s.opRole .steward (k / 2) (setFld to_ 1 0 1) 0xFF

/-- No spare takes the processor of core c (R39, R44): its image is kept for the partition, which an NMI at another
processor tells, or which is frozen. -/
def State.noSpare (s : State) (c : Nat) : State :=
  let p := c / 2
  let q := s.partOf c
  let l := s.logical p
  let k := s.imgKey c
  let s := if s.rf (aPair p 8) 2 0 = 4 then s.opRole .steward p 3 1 else s
  let s := match s.core.images.find k with
    | some m =>
      let s := { s with
        parts := { s.parts with lost := s.parts.lost.set (lostKey q l) { m with a := Arch.withEvents m.a m.latched } }
        core := { s.core with left := s.core.left.set (lostLeft q l) (s.core.left.get {} k) } }
      s.report p 2
    | none => s
  let s := { s with core := { s.core with
      images := s.core.images.del k, left := s.core.left.del k, waiting := s.core.waiting.filter (· ≠ c)
      draining := if s.rf (aPair p 8) 2 0 = 4 then s.core.draining ++ [p] else s.core.draining } }
  match (s.procsOf q).filter fun c' => c' ≠ c ∧ !s.fencedProc c' with
  | [] => s.freezePart q 2
  | d :: ds =>
    let (v, s) := s.draw
    s.sendNmi ((d :: ds).getD (v.toNat % (ds.length + 1)) d) nmiLost l

/-- STEWARD_SPARING: the processor that fenced first is spared, onto `spare` if Steward firmware may choose it. -/
def State.opSparing (c spare : Nat) (s : State) : State :=
  if s.core.waiting.head? ≠ some c ∨ !s.pwr.powered ∨ s.hibernating ∨ s.coh.lost then s
  else if (s.core.images.find (s.imgKey c)).isNone then s.noSpare c
  else
    let cs := s.spareCores c
    if cs = [] ∨ s.forced (c / 2) 2 then s.noSpare c
    else if !cs.contains spare then s
    else if spare % 2 = 1 then s.spareHalf c spare
    else
      let t := s.spareWhole c spare
      if (t.proc spare).running ∨ t.rf (aPair (spare / 2) 0) 1 0 = 1 then t else s

/-- FENCED_L2_EMPTY: the L2 of a fenced pair has written back every dirty line and is powered down (R38). The directory's
sharer bits stay until a snoop finds the lines missing. -/
def State.opL2Empty (p : Nat) (s : State) : State :=
  let l := s.l2 p
  let busy := l.miss ≠ [] ∨ l.wb ≠ [] ∨ l.wfull ≠ []
    ∨ l.lines.any fun t => (s.coh.txn.find t.1).isSome
  if !s.core.draining.contains p ∨ busy then s
  else
    let s := l.lines.foldl (fun s t => if t.2.st = .m ∨ t.2.st = .o then s.recall t.1 else s) s
    { s with
      coh := { s.coh with l2 := s.coh.l2.del p }
      core := { s.core with draining := s.core.draining.filter (· ≠ p), l2off := s.core.l2off ++ [p] } }

end Sys2Proof.Machine
end

