-- ==== Sys2Proof/Machine/FltBase.lean ====
section
/-!
DEFINITION. The start of a module reset (R394) and the loss of the coherent domain (R171, R172).
-/
namespace Sys2Proof.Machine

/-- The sequence of a module reset begins (R394, R172): admission stops, nothing staged is acknowledged, GOODBYE is sent and
LANTERN stops, the epoch ends with RESET. `cause` and `src` go to RST_CAUSE when the reset itself begins. It does nothing
while such a sequence or a Hibernate is under way (R401). -/
def State.startReset (s : State) (cause src : Nat) : State :=
  if s.flt.reset.isSome || s.hibernating then s
  else
    let s := { s with flt := { s.flt with reset := some (cause, src), log := some (src, s.rf (aFlt src 0x30) 3 0, s.time) } }
    let s := (s.neverAck.goodbye (if cause = 5 then 1 else 4)).lanternStop (if cause = 5 then 1 else 3) src
    if s.jrn.running then s.endEpoch s.time s.time false false true else s

/-- The coherent domain is lost (R172): the clocks of the compute dies stop, every slice shows DOWN, and Steward firmware
performs a module reset. -/
def State.loseCoherence (s : State) (src : Nat) : State :=
  if s.coh.lost then s
  else
    let s := { s with coh := { s.coh with lost := true } }
    let s := (List.range 24).foldl (fun s n => s.wb (aCoh n 8) 13 true) s
    s.startReset 5 src

/-- Fill COH_ERR of a slice (07_caches_coherence.md). -/
def State.cohErr (s : State) (n cause agent line : Nat) : State :=
  s.wr (aCoh n 0x10) (BitVec.ofNat 64 (cause % 16 + agent % 256 * 2 ^ 4 + line % 2 ^ 39 * 2 ^ 16))

/-- Agent numbers of COH_ERR: the agent exists in this variant. -/
def State.agentHere (s : State) (a : Nat) : Bool := if a < 48 then s.pairPresent a else decide (a ≤ 88)

/-- COHERENCE_LOSS: a detector finds an uncorrectable directory entry (1) or tag entry (2, of an L3, or of the L2 of the
agent where the agent is a pair) or a protocol error (3) (R171, R173). -/
def State.opCohLoss (n cause agent line : Nat) (s : State) : State :=
  if s.coh.lost ∨ !s.pwr.powered ∨ s.hibernating ∨ !s.agentHere agent then s
  else if cause = 1 ∨ cause = 2 ∧ 48 ≤ agent then
    ((s.cohErr n cause agent line).raise (48 + n) 2).loseCoherence (48 + n)
  else if cause = 2 then ((s.cohErr n cause agent line).raise agent 6).loseCoherence agent
  else if cause = 3 then ((s.cohErr n cause agent line).raise 77 0).loseCoherence 77
  else s

/-- The agent waits for a coherence answer on a line (R171): a pair with a request open, a slice with a transaction or a
blocked line. The hub and the controllers wait on nothing that the state holds; that they do is the command's word. -/
def State.cohWaits (s : State) (a line : Nat) : Bool :=
  if a < 48 then
    (match (s.l2 a).miss.find line with
     | some m => !m.backoff
     | none => false) || ((s.l2 a).wb.any fun e => e.line == line)
  else if a < 72 then
    homeOf line == a - 48 && ((s.coh.txn.find line).isSome || s.coh.blocked.contains line)
  else decide (a ≤ 88)

/-- COHERENCE_TIMEOUT: an agent has waited 20,000 ticks for an answer (R171). -/
def State.opCohTimeout (agent line : Nat) (s : State) : State :=
  if s.coh.lost ∨ !s.pwr.powered ∨ s.hibernating ∨ !s.cohWaits agent line ∨ 24 ≤ homeOf line then s
  else ((s.cohErr (homeOf line) 4 agent line).raise 78 0).loseCoherence 78

end Sys2Proof.Machine
end

