-- ==== Sys2Proof/Machine/CohOps.lean ====
section
/-!
DEFINITION. The home slices and the L2s as agents of the coherence protocol (R154–R161, R168–R170): requests, snoops, grants,
NACKs, fills and evictions, and Cache-as-Store ways (R164–R167).
-/
namespace Sys2Proof.Machine

/-! ## The messages of a line -/

/-- The supplies and clocks of a die run (R172). -/
def State.dieUp (s : State) (d : Nat) : Bool :=
  s.pwr.powered && !s.coh.lost && !s.hibernating && !s.pwr.railOff.contains d

/-- The line has a home that runs. -/
def State.homeUp (s : State) (line : Nat) : Bool := homeOf line < 24 && s.dieUp (homeOf line / 12)

/-- The first request for a line, RELEASE apart (R160). -/
def firstReq (line : Nat) : List CMsg → Option (Nat × CReq × List TWord)
  | [] => none
  | .request _ _ .release _ :: t => firstReq line t
  | .request p l r d :: t => if l = line then some (p, r, d) else firstReq line t
  | _ :: t => firstReq line t

/-- The pair and line that a message to an L2 goes to. -/
def cmsgTo : CMsg → Option (Nat × Nat)
  | .snpShared p l => some (p, l)
  | .snpClean p l => some (p, l)
  | .snpInv p l => some (p, l)
  | .grant p l _ _ => some (p, l)
  | .ready p l => some (p, l)
  | .wback p l => some (p, l)
  | .nack p l => some (p, l)
  | _ => none

/-- The first message to an L2 about a line: messages of one line keep their order. -/
def State.toL2 (s : State) (p line : Nat) : Option CMsg := s.coh.msgs.find? fun m => cmsgTo m == some (p, line)

/-- Take a message away. -/
def State.takeMsg (s : State) (m : CMsg) : State := { s with coh := { s.coh with msgs := s.coh.msgs.erase m } }

/-- Replace a line's directory entry. -/
def State.setDir (s : State) (line : Nat) (e : Option DirEnt) : State :=
  { s with coh := { s.coh with dir := match e with
      | some e => s.coh.dir.set line e
      | none => s.coh.dir.del line } }

/-- A Cache-as-Store line (R168). -/
def isCas (line : Nat) : Bool := 0x3F0000000000 / 128 ≤ line

/-- Holders that a directory entry names. -/
def dirHolders (e : DirEnt) : List Nat :=
  if e.st = .s then e.sharers else e.owner :: e.sharers.filter (· ≠ e.owner)

/-- An entry whose line the remaining sharers hold in S, or none. -/
def dirRest (e : DirEnt) : Option DirEnt :=
  match e.sharers.filter fun p => e.st = .s ∨ p ≠ e.owner with
  | [] => none
  | ps => some { e with st := .s, owner := 0, sharers := ps }

/-! ## L3 (R155–R157, R164, R170) -/

/-- L3 and directory set of a line (R155). -/
def setIdx (line : Nat) : Nat := (line / 2 ^ 4 % 2 ^ 11 * 2 + line % 2) ^^^ (line / 2 ^ 15 % 2 ^ 12)

/-- Where a line can go in its L3 set. -/
inductive L3Slot where
  | way (w : Nat)
  | victim (line w : Nat)
  | none

/-- The way for a line (R156, R164): the way that it has or that is reserved for it, a free way, else a victim; which line
tree pseudo-LRU gives up is a free value (log entry 1). -/
def State.l3Slot (s : State) (line : Nat) : L3Slot × State :=
  match s.coh.l3.find line with
  | some l => (.way l.way, s)
  | none =>
    let ctl := s.rd (aCoh (homeOf line) 0)
    let ways := (List.range (16 - fld ctl 35 32)).filter fun w => ctl.getLsbD w && !ctl.getLsbD (16 + w)
    let used := s.coh.l3.filter fun t => homeOf t.1 = homeOf line ∧ setIdx t.1 = setIdx line
    match ways.find? fun w => !used.any fun t => t.2.way == w with
    | some w => (.way w, s)
    | none =>
      match used.filter fun t => ways.contains t.2.way with
      | [] => (.none, s)
      | t :: ts =>
        let (v, s) := s.draw
        let c := (t :: ts).getD (v.toNat % (ts.length + 1)) t
        (.victim c.1 c.2.way, s)

/-- Eviction Buffer entries of a line's slice. -/
def State.evbCount (s : State) (line : Nat) : Nat :=
  (s.coh.evb.filter fun e => homeOf e.1 = homeOf line).length

/-- A line is installed in an L3 way. -/
def State.l3Set (s : State) (line w : Nat) (d : List TWord) (dirty : Bool) : State :=
  { s with coh := { s.coh with l3 := s.coh.l3.set line { data := d, dirty := dirty, way := w } } }

/-- A line goes to the Eviction Buffer; where its slice has no entry left, to memory (R157). -/
def State.evict (s : State) (line : Nat) (d : List TWord) : State :=
  if s.evbCount line < 32 then { s with coh := { s.coh with evb := s.coh.evb ++ [(line, d)] } } else s.memPut line d

/-- Dirty or clean data of a line arrives at its home (R156): into L3, or the way of a Cache-as-Store line, or past a slice
that cannot allocate it. -/
def State.l3Take (s : State) (line : Nat) (d : List TWord) (dirty : Bool) : State :=
  if isCas line then (if dirty then s.memWriteLine line d else s)
  else match s.l3Slot line with
    | (.way w, s) => s.l3Set line w d dirty
    | (.none, s) => if dirty then s.evict line d else s
    | (.victim v w, s) =>
      let s := match s.coh.l3.find v with
        | some l => if l.valid && l.dirty then s.evict v l.data else s
        | none => s
      ({ s with coh := { s.coh with l3 := s.coh.l3.del v } }).l3Set line w d dirty

/-- Install a clean fill (R157): done, or waiting for the write of a dirty victim or for an Eviction Buffer entry. -/
def State.l3Fill (s : State) (line : Nat) (d : List TWord) : Bool × Option Nat × State :=
  match s.l3Slot line with
  | (.way w, s) => (true, none, s.l3Set line w d false)
  | (.none, s) => (true, none, s)
  | (.victim v w, s) =>
    match s.coh.l3.find v with
    | some l =>
      if l.valid && l.dirty then
        if s.evbCount line < 32 then
          (false, some v, ({ s with coh := { s.coh with l3 := s.coh.l3.del v } }).evict v l.data)
        else (false, none, s)
      else (true, none, ({ s with coh := { s.coh with l3 := s.coh.l3.del v } }).l3Set line w d false)
    | none => (false, none, s)

/-! ## Completing a transaction (R159) -/

/-- Replace a line's transaction. -/
def State.setTxn (s : State) (line : Nat) (t : Option CTxn) : State :=
  { s with coh := { s.coh with txn := match t with
      | some t => s.coh.txn.set line t
      | none => s.coh.txn.del line } }

/-- A request needs the line's data. -/
def wantsData : CReq → Bool
  | .readShared => true
  | .readOwn => true
  | .farAtomic _ _ _ _ _ _ => true
  | _ => false

/-- The home fetches a line (R156, R170): from L3, from the Eviction Buffer, from a Cache-as-Store way, or from memory once
the controller answers (MC_READ). -/
def State.cohFetch (s : State) (line : Nat) (t : CTxn) : State :=
  if isCas line then s.setTxn line (some { t with data := some (s.memLine line) })
  else match s.l3Find line with
    | some l => s.setTxn line (some { t with data := some l.data })
    | none => match s.coh.evb.find? fun e => e.1 = line with
      | some e => s.setTxn line (some { t with data := some e.2, fetch := true })
      | none => s.setTxn line (some { t with fetch := true })

/-- The owner no longer holds the line, though the directory said so (R170): its entry without it. -/
def dirCorrect (e : Option DirEnt) (t : CTxn) : Option DirEnt :=
  match e with
  | some e => if e.st ≠ .s ∧ t.had = .i then dirRest e else some e
  | none => none

/-- Grant a read (R159). -/
def State.grantShared (s : State) (line : Nat) (t : CTxn) (d : List TWord) : State :=
  let e := dirCorrect (s.coh.dir.find line) t
  let s := if t.dirty && decide (t.had = .i) then s.l3Take line d true else s
  let p := t.pair
  let add (e : DirEnt) (l : List Nat) : List Nat := l ++ (if (e.sharers ++ l).contains p then [] else [p])
  match e with
  | none =>
    if t.dirty then (s.setDir line (some { st := .s, sharers := [p] })).csend (.grant p line .s (some d))
    else (s.setDir line (some { st := .em, owner := p })).csend (.grant p line .e (some d))
  | some e =>
    let e' := if e.st = .s then { e with sharers := e.sharers ++ add e [] }
      else if t.had = .m ∨ t.had = .o then { e with st := .o, sharers := e.sharers ++ add e [] }
      else { e with st := .s, sharers := e.sharers ++ add e [e.owner] }
    (s.setDir line (some e')).csend (.grant p line .s (some d))

/-- Grant M (R156, R159, R244): the L3 copy goes, the dirty bitmap is marked. -/
def State.grantM (s : State) (line p : Nat) (d : Option (List TWord)) : State :=
  let last := match s.coh.dir.find line with
    | some e => e.lastAtomic
    | none => none
  let s := (s.l3Drop line).setDir line (some { st := .em, owner := p, lastAtomic := last })
  (s.csend (.grant p line .m d)).markPa (line * 128)

/-- A CLEAN.L or FLUSH.L has completed: the entry at the head of a gate of the pair leaves it (R169). -/
def State.maintDone (s : State) (p line : Nat) (k : GateKind) : State :=
  [2 * p, 2 * p + 1].foldl (fun s c =>
    match (s.proc c).gate with
    | e :: _ => if e.kind = k ∧ e.passed ∧ e.pa / 128 = line then (s.dropGate c 1).fenceDone c else s
    | [] => s) s

/-- A home performs a far atomic on its copy (R104, R159, R162). -/
def State.farDone (s : State) (line : Nat) (t : CTxn) (d : List TWord) (core : Nat) (cw : Bool) (fn pa : Nat) (b c : TWord) :
    State :=
  let old := d.getD (pa % 128 / 8) {}
  let other := match (s.coh.dir.get {} line).lastAtomic with
    | some o => o != core / 2
    | none => false
  let s := (s.predCount core pa other).setDir line none
  let new := if (atomBad cw fn old b c).isSome then none else atomNew fn old b c
  let s := match new with
    | some w => (s.l3Take line (setWord d (pa % 128 / 8) w) true).markPa pa
    | none => if t.dirty then s.l3Take line d true else s
  s.csend (.atomicDone core line old)

/-- CLEAN.L at the home (R159, R169): dirty data goes to L3 and memory. -/
def State.cleanDone (s : State) (line : Nat) (t : CTxn) : State :=
  let s := match t.data, t.dirty with
    | some d, true => (s.memPut line d).l3Take line d false
    | _, _ => match s.l3Find line with
      | some l => if l.dirty then (s.memPut line l.data).l3Set line l.way l.data false else s
      | none => s
  let e := match s.coh.dir.find line with
    | some e => if e.st = .s then some e
      else if t.had = .o then some { e with st := .s, sharers := e.owner :: e.sharers.filter (· ≠ e.owner) }
      else dirCorrect (some e) t
    | none => none
  (s.setDir line e).maintDone t.pair line .clean

/-- FLUSH.L at the home (R159, R169): dirty data goes to memory and no copy is left. -/
def State.flushDone (s : State) (line : Nat) (t : CTxn) : State :=
  let s := match t.data, t.dirty with
    | some d, true => s.memPut line d
    | _, _ => match s.l3Find line with
      | some l => if l.dirty then s.memPut line l.data else s
      | none => s
  ((s.l3Drop line).setDir line none).maintDone t.pair line .flush

/-- Step 1 of a WriteFull (R154): no L2 holds the line; it is blocked and READY returned. Dirty data that the WriteFull
overwrites is kept in memory until the RELEASE. -/
def State.fullReady (s : State) (line : Nat) (t : CTxn) : State :=
  let s := match t.data, t.dirty with
    | some d, true => (s.memPut line d).l3Drop line
    | _, _ => s
  (({ s with coh := { s.coh with blocked := s.coh.blocked ++ [line] } }).setDir line none).csend (.ready t.pair line)

/-- Complete a transaction whose answers and data are there (R159). -/
def State.cohComplete (s : State) (line : Nat) (t : CTxn) : State :=
  let s := s.setTxn line none
  let d := t.data.getD []
  match t.req with
  | .readShared => s.grantShared line t d
  | .readOwn => s.grantM line t.pair (some d)
  | .upgrade => s.grantM line t.pair none
  | .writeFull => s.fullReady line t
  | .clean => s.cleanDone line t
  | .flush => s.flushDone line t
  | .farAtomic core cw fn pa b c => s.farDone line t d core cw fn pa b c
  | _ => s

/-- Install a line that came from memory, then complete (R157). -/
def State.cohInstall (s : State) (line : Nat) (t : CTxn) : State :=
  match t.data with
  | none => s
  | some d =>
    if t.fetch then
      match s.l3Fill line d with
      | (true, _, s) => s.cohComplete line { t with fetch := false }
      | (false, v, s) => s.setTxn line (some { t with waitEvb := v })
    else s.cohComplete line t

/-- Carry a transaction on as far as it goes. -/
def State.cohGo (s : State) (line : Nat) : State :=
  match s.coh.txn.find line with
  | none => s
  | some t =>
    if t.missing ≠ [] then s
    else if !wantsData t.req then s.cohComplete line t
    else match t.data with
      | some _ => if t.waitEvb.isSome then s else s.cohInstall line t
      | none =>
        if t.fetch then s
        else
          let s := s.cohFetch line t
          match s.coh.txn.find line with
          | some t => if t.data.isSome then s.cohInstall line t else s
          | none => s

/-! ## Starting a transaction (R159–R161) -/

/-- Open transactions of a slice. -/
def State.txnCount (s : State) (n : Nat) : Nat := (s.coh.txn.filter fun t => homeOf t.1 = n).length

/-- STARVING requests that wait for a line chosen by `f`, other than pair p's for `line` (R160). -/
def State.starvers (s : State) (p line : Nat) (f : Nat → Bool) : Nat :=
  (s.coh.l2.map fun t => (t.2.miss.filter fun m =>
    m.2.starving && f m.1 && !(t.1 == p && m.1 == line) && (s.coh.txn.find m.1).isNone).length).sum

/-- The slice has a transaction entry for pair p's request: entries reserved for STARVING requests are left to them. -/
def State.txnRoom (s : State) (p line : Nat) : Bool :=
  let starving := ((s.l2 p).miss.get {} line).starving
  let held := if starving then 0 else s.starvers p line fun l => homeOf l == homeOf line
  decide (s.txnCount (homeOf line) + held < 96)

/-- Lines of the directory set of a line. -/
def State.dirSet (s : State) (line : Nat) : List Nat :=
  (s.coh.dir.filter fun t => homeOf t.1 = homeOf line ∧ setIdx t.1 = setIdx line).map (·.1)

/-- A line of the directory may be chosen as a victim (R161): it has no open transaction, nor a message under way. -/
def State.dirFree (s : State) (line : Nat) : Bool :=
  (s.coh.txn.find line).isNone && !s.coh.blocked.contains line
    && !s.coh.msgs.any fun m => match m with
      | .request _ l .writeBack _ => l == line
      | m => match cmsgTo m with
        | some (_, l) => l == line
        | none => false

/-- Invalidate a directory victim's line in every L2 and write its dirty data into L3 (R161). -/
def State.dirEvict (s : State) (line : Nat) : State :=
  let d := match ownerIn s.coh.l2 line with
    | some (_, ln) => if ln.st = Moesi.e then none else some ln.data
    | none => none
  let s := { s with coh := { s.coh with
      l2 := s.coh.l2.map fun (t : Nat × L2) => (t.1, { t.2 with lines := dropLine (fun w => s.l2Locked t.1 line w) t.2.lines line })
      dir := s.coh.dir.del line } }
  match d with
  | some d => s.l3Take line d true
  | none => s

/-- A directory way for a line's new entry (R161); none when all 16 have open transactions. Which line is chosen is a free
value (log entry 1). -/
def State.dirRoom (s : State) (p line : Nat) : Option State :=
  if (s.coh.dir.find line).isSome then some s
  else
    let used := s.dirSet line
    let starving := ((s.l2 p).miss.get {} line).starving
    let held := if starving then 0
      else s.starvers p line fun l => homeOf l == homeOf line && setIdx l == setIdx line && (s.coh.dir.find l).isNone
    if used.length + held < 16 then some s
    else match used.filter s.dirFree with
      | [] => none
      | l :: ls =>
        let (v, s) := s.draw
        some (s.dirEvict ((l :: ls).getD (v.toNat % (ls.length + 1)) l))

/-- NACK a request (R160). -/
def State.cohNack (s : State) (p line : Nat) : State :=
  (s.csend (.nack p line)).satField (aCoh (homeOf line) 0x18) 31 0

/-- Open a transaction: the snoops of R159, then as far as it goes. -/
def State.cohOpen (s : State) (p line : Nat) (r : CReq) (d : List TWord) : State :=
  let e := s.coh.dir.find line
  let hs := match e with
    | some e => dirHolders e
    | none => []
  let owner := match e with
    | some e => if e.st = .s then [] else [e.owner]
    | none => []
  let r := if r = .upgrade ∧ !hs.contains p then .readOwn else r
  let (to_, k) : List Nat × (Nat → CMsg) := match r with
    | .readShared => (owner.filter (· ≠ p), fun q => .snpShared q line)
    | .clean => (owner, fun q => .snpClean q line)
    | .readOwn => (hs.filter (· ≠ p), fun q => .snpInv q line)
    | .upgrade => (hs.filter (· ≠ p), fun q => .snpInv q line)
    | _ => (hs, fun q => .snpInv q line)
  let s := s.setTxn line (some { pair := p, req := r, full := d, missing := to_ })
  (to_.foldl (fun s q => s.csend (k q)) s).cohGo line

/-- A request reaches the front of its line's order at the home (R160): the request taken, if it is pair p's of the kind, the
line is not blocked and has no open transaction. -/
def State.atHome (s : State) (p line : Nat) (ok : CReq → Bool) : Option (CReq × List TWord × State) :=
  if !s.homeUp line || s.coh.blocked.contains line || (s.coh.txn.find line).isSome then none
  else match firstReq line s.coh.msgs with
    | some (p', r, d) => if p' = p ∧ ok r then some (r, d, s.takeMsg (.request p line r d)) else none
    | none => none

/-- A FORCE of L2_CORRECTED or L2_POISON waits for the pair: it acts on a word of the line that the L2 has just installed,
which word being a free value (R399). -/
def State.l2Force (s : State) (p line : Nat) : State :=
  let (_, s) := s.takeForce p 4
  let (f, s) := s.takeForce p 5
  if f then
    let (v, s) := s.draw
    let l := s.l2 p
    match l.lines.find line with
    | some ln =>
      let ln : L2Line := { ln with data := setWord ln.data (v.toNat % 16) ⟨0, Tag.poison⟩ }
      s.setL2 p { l with lines := l.lines.set line ln }
    | none => s
  else s

/-- The same for the L3's copy of a line that its home looks up. -/
def State.l3Force (s : State) (line : Nat) : State :=
  match s.l3Find line with
  | none => s
  | some ln =>
    let (_, s) := s.takeForce (48 + homeOf line) 0
    let (f, s) := s.takeForce (48 + homeOf line) 1
    if f then
      let (v, s) := s.draw
      let ln : L3Line := { ln with data := setWord ln.data (v.toNat % 16) ⟨0, Tag.poison⟩ }
      { s with coh := { s.coh with l3 := s.coh.l3.set line ln } }
    else s

/-- HOME_READSHARED, HOME_READOWN, HOME_UPGRADE and HOME_WRITEFULL: a request that a miss entry holds, opened or NACKed. A
WriteFull needs no directory entry. -/
def State.opHomeMiss (k : CReq) (p line : Nat) (s : State) : State :=
  match s.atHome p line (fun r => decide (r = k)) with
  | none => s
  | some (r, d, s) =>
    if !s.txnRoom p line then s.cohNack p line
    else match (if k = .writeFull then some s else s.dirRoom p line) with
      | some s => (s.l3Force line).cohOpen p line r d
      | none => s.cohNack p line

/-- HOME_CLEAN, HOME_FLUSH and HOME_FAR_ATOMIC: a request without a miss entry; it waits while the table is full. -/
def State.opHomeOther (ok : CReq → Bool) (p line : Nat) (s : State) : State :=
  match s.atHome p line ok with
  | none => s
  | some (r, d, s') => if s'.txnRoom p line then s'.cohOpen p line r d else s

/-- A far atomic. -/
def isFar : CReq → Bool
  | .farAtomic _ _ _ _ _ _ => true
  | _ => false

/-- HOME_EVICTCLEAN: the entry of an owner goes (R159). -/
def State.opHomeEvictClean (p line : Nat) (s : State) : State :=
  match s.atHome p line (fun r => decide (r = .evictClean)) with
  | none => s
  | some (_, _, s) =>
    match s.coh.dir.find line with
    | some e => if e.st = .em ∧ e.owner = p then s.setDir line none else s
    | none => s

/-- HOME_WRITEBACK: written into L3 from the owner; taken as the first data by an open transaction that snoops the pair; else
superseded (R159, R170). -/
def State.opHomeWriteBack (p line : Nat) (s : State) : State :=
  match firstReq line s.coh.msgs with
  | some (p', .writeBack, d) =>
    if p' ≠ p ∨ !s.homeUp line then s
    else
      let s := (s.takeMsg (.request p line .writeBack d)).csend (.wback p line)
      if d = [] then s
      else match s.coh.txn.find line with
        | some t =>
          if t.missing.contains p && t.data.isNone then
            s.setTxn line (some { t with data := some d, dirty := true, had := .i })
          else s
        | none =>
          match s.coh.dir.find line with
          | some e =>
            if e.st ≠ .s ∧ e.owner = p then (s.setDir line (dirRest e)).l3Take line d true else s
          | none => s
  | _ => s

/-- HOME_RELEASE: the line of a WriteFull is written and unblocked (R154, R244). -/
def State.opHomeRelease (p line : Nat) (s : State) : State :=
  match s.coh.msgs.find? fun m => match m with
      | .request p' l .release _ => p' == p && l == line
      | _ => false with
  | some (.request p' l r d) =>
    if !s.homeUp line || !s.coh.blocked.contains line then s
    else
      let s := s.takeMsg (.request p' l r d)
      let s := ((s.memPut line d).l3Drop line).markPa (line * 128)
      { s with coh := { s.coh with blocked := s.coh.blocked.filter (· ≠ line) } }
  | _ => s

/-- HOME_SNOOP_ANSWER: the first data to arrive counts (R159, R170). -/
def State.opSnoopAnswer (p line : Nat) (s : State) : State :=
  match s.coh.msgs.find? fun m => match m with
      | .answer p' l _ _ => p' == p && l == line
      | _ => false with
  | some (.answer p' l had d) =>
    if !s.homeUp line then s
    else
      let s := s.takeMsg (.answer p' l had d)
      match s.coh.txn.find line with
      | none => s
      | some t =>
        let owner := match s.coh.dir.find line with
          | some e => e.st != .s && e.owner == p
          | none => false
        let t := { t with missing := t.missing.filter (· ≠ p) }
        let t := if d.isSome && t.data.isNone then { t with data := d, dirty := decide (had ≠ .e), had := had }
          else if owner && t.data.isNone then { t with had := had } else t
        (s.setTxn line (some t)).cohGo line
  | _ => s

/-! ## The L2 as an agent (R148, R158, R170) -/

/-- An L2 answers a snoop. -/
def State.l2Answer (s : State) (p line : Nat) (had : Moesi) (d : Option (List TWord)) : State :=
  s.csend (.answer p line had d)

/-- The state of a line in an L2 changes; I removes it. -/
def State.l2Become (s : State) (p line : Nat) (st : Moesi) : State :=
  let l := s.l2 p
  if st = .i then s.setL2 p { l with lines := dropLine (fun w => s.l2Locked p line w) l.lines line }
  else match l.lines.find line with
    | some ln => s.setL2 p { l with lines := l.lines.set line { ln with st := st } }
    | none => s

/-- Snoop of a line that the L2 does not hold: answered from the write-back buffer, whose write-back is then superseded, or
MISS (R170). -/
def State.l2Absent (s : State) (p line : Nat) : State :=
  let l := s.l2 p
  match l.wb.find? fun e => e.line = line ∧ !e.superseded with
  | none => s.l2Answer p line .i none
  | some e =>
    let s := s.setL2 p { l with wb := l.wb.map fun x => if x.line = line then { x with superseded := true } else x }
    let void (m : CMsg) : CMsg := match m with
      | .request p' l' .writeBack d => .request p' l' .writeBack (if p' = p ∧ l' = line then [] else d)
      | m => m
    ({ s with coh := { s.coh with msgs := s.coh.msgs.map void } }).l2Answer p line .i (some e.data)

/-- A line in an L2 as a snoop finds it. -/
def State.l2Line (s : State) (p line : Nat) : L2Line := (s.l2 p).lines.get {} line

/-- The L2 of pair p receives a message of its line. -/
def State.l2Gets (s : State) (p line : Nat) (m : CMsg) (f : State → State) : State :=
  if s.dieUp (p / 24) && s.toL2 p line == some m then f (s.takeMsg m) else s

/-- L2_SNPSHARED (R158). -/
def State.opSnpShared (p line : Nat) (s : State) : State :=
  s.l2Gets p line (.snpShared p line) fun s =>
    let ln := s.l2Line p line
    match ln.st with
    | .i => s.l2Absent p line
    | .s => s.l2Answer p line .s none
    | .e => (s.l2Become p line .s).l2Answer p line .e (some ln.data)
    | .o => s.l2Answer p line .o (some ln.data)
    | .m => (s.l2Become p line .o).l2Answer p line .m (some ln.data)

/-- L2_SNPCLEAN (R158). -/
def State.opSnpClean (p line : Nat) (s : State) : State :=
  s.l2Gets p line (.snpClean p line) fun s =>
    let ln := s.l2Line p line
    match ln.st with
    | .i => s.l2Absent p line
    | .s => s.l2Answer p line .s none
    | .e => s.l2Answer p line .e none
    | .o => (s.l2Become p line .s).l2Answer p line .o (some ln.data)
    | .m => (s.l2Become p line .e).l2Answer p line .m (some ln.data)

/-- L2_SNPINV (R158). -/
def State.opSnpInv (p line : Nat) (s : State) : State :=
  s.l2Gets p line (.snpInv p line) fun s =>
    let ln := s.l2Line p line
    match ln.st with
    | .i => s.l2Absent p line
    | .s => (s.l2Become p line .i).l2Answer p line .s none
    | .e => (s.l2Become p line .i).l2Answer p line .e none
    | .o => (s.l2Become p line .i).l2Answer p line .o (some ln.data)
    | .m => (s.l2Become p line .i).l2Answer p line .m (some ln.data)

/-- The line that holds a way of a line's L2 set (R150), with its entry. -/
def State.l2Occupant (s : State) (p line w : Nat) : Option (Nat × L2Line) :=
  (s.l2 p).lines.find? fun t => t.1 % 1024 = line % 1024 ∧ t.2.way = w

/-- A way may take a fill of core `half` of pair p (R150, R164). -/
def State.l2WayOk (s : State) (p line w half : Nat) : Bool :=
  s.rb (aPair p (0x600 + 8 * (line / 64 % 16))) w && !s.l2Locked p line w && (!s.split || w / 8 == half)

/-- An L2 gives up the line in a way (R158): none where the write-back buffer is full or the line has a miss entry. -/
def State.l2Victim (s : State) (p line w : Nat) : Option State :=
  match s.l2Occupant p line w with
  | none => some s
  | some (v, ln) =>
    let l := s.l2 p
    let gone := s.setL2 p { l with lines := l.lines.del v }
    if (l.miss.find v).isSome then none
    else match ln.st with
      | .i => some gone
      | .s => some gone
      | .e => some (gone.csend (.request p v .evictClean []))
      | _ =>
        if 16 ≤ l.wb.length then none
        else some ((gone.setL2 p { l with lines := l.lines.del v, wb := l.wb ++ [⟨v, ln.data, false⟩] }).csend
          (.request p v .writeBack ln.data))

/-- The miss entry of a line is free again. -/
def State.missDone (s : State) (p line : Nat) : State :=
  let l := s.l2 p
  s.setL2 p { l with miss := l.miss.del line }

/-- L2_GRANT: a grant arrives and the line is installed in `way`, one that the L2 may choose (R150, R158, R164); a line that is
there, or whose way is reserved, keeps its way. -/
def State.opGrant (p line way : Nat) (s : State) : State :=
  match s.toL2 p line with
  | some (.grant p' l st d) =>
    if !s.dieUp (p / 24) then s
    else
      let here := s.l2 p
      let s0 := s.takeMsg (.grant p' l st d)
      match here.lines.find line with
      | some ln =>
        let ln := { ln with st := st, data := d.getD ln.data }
        ((s0.setL2 p { here with lines := here.lines.set line ln }).missDone p line).l2Force p line
      | none =>
        if !s.l2WayOk p line way (here.miss.get {} line).half then s
        else match s0.l2Victim p line way with
          | none => s
          | some s =>
            let l := s.l2 p
            ((s.setL2 p { l with lines := l.lines.set line { st := st, data := d.getD [], way := way } }).missDone p
              line).l2Force p line
  | _ => s

/-- WriteFulls at the front that hold READY count as visible: RELEASE is sent and the miss entry freed (R154 step 2). -/
def State.sendReleases (p : Nat) : List (Nat × List TWord × Bool) → State → State
  | [], s => s
  | (line, d, ready) :: t, s =>
    if ready then
      let l := s.l2 p
      let s := (s.setL2 p { l with wfull := t }).missDone p line
      State.sendReleases p t (s.csend (.request p line .release d))
    else s

/-- L2_READY: READY arrives for a WriteFull (R154). -/
def State.opReady (p line : Nat) (s : State) : State :=
  s.l2Gets p line (.ready p line) fun s =>
    let l := s.l2 p
    let ws := l.wfull.map fun e => if e.1 = line then (e.1, e.2.1, true) else e
    let s := State.sendReleases p ws (s.setL2 p { l with wfull := ws })
    (s.fenceDone (2 * p)).fenceDone (2 * p + 1)

/-- L2_WBACK: WbAck frees the write-back buffer entry (R152). -/
def State.opWback (p line : Nat) (s : State) : State :=
  s.l2Gets p line (.wback p line) fun s =>
    let l := s.l2 p
    match l.wb.find? fun e => e.line = line with
    | some e => s.setL2 p { l with wb := l.wb.erase e }
    | none => s

/-- L2_NACK: the request backs off; after 64 NACKs it is STARVING (R160). -/
def State.opNack (p line : Nat) (s : State) : State :=
  s.l2Gets p line (.nack p line) fun s =>
    let l := s.l2 p
    match l.miss.find line with
    | none => s
    | some m =>
      let m := { m with nacks := m.nacks + 1, backoff := true }
      if m.nacks = 64 then
        ((s.setL2 p { l with miss := l.miss.set line { m with starving := true } }).satField
          (aCoh (homeOf line) 0x18) 47 32).raise 79 0
      else s.setL2 p { l with miss := l.miss.set line m }

/-- L2_NACK_RETRY: the backoff ends and the request is sent again (R160). -/
def State.opNackRetry (p line : Nat) (s : State) : State :=
  let l := s.l2 p
  match l.miss.find line with
  | some m =>
    if m.backoff && s.dieUp (p / 24) then
      let d := match l.wfull.find? fun e => e.1 = line with
        | some e => e.2.1
        | none => []
      (s.setL2 p { l with miss := l.miss.set line { m with backoff := false } }).csend (.request p line m.req d)
    else s
  | none => s

/-! ## Way locking and Cache-as-Store (R164–R167) -/

/-- Bits set among 16. -/
def pop16 (n : Nat) : Nat := ((List.range 16).filter fun i => n.testBit i).length

/-- The limits of R164 and R165 for a value of COH_WAYCTL. -/
def wayctlOk (v : Word) : Bool :=
  let lock := fld v 31 16
  let cas := fld v 35 32
  pop16 lock ≤ 12 && pop16 lock + cas ≤ 12 && (cas == 0 || cas == 2 || cas == 4 || cas == 6 || cas == 8)
    && decide (lock < 2 ^ (16 - cas))

/-- Cache-as-Store extents of slice n that CAS_WAYS `from_` gives and `to_` does not. -/
def casExtents (n from_ to_ : Nat) : List Nat :=
  ((List.range 4).filter fun k => to_ < 2 * (k + 1) ∧ 2 * (k + 1) ≤ from_).map (4 * n + ·)

/-- Apply a write to COH_WAYCTL (R164, R165, R167). -/
def State.wayctlApply (s : State) (n : Nat) (v : Word) (be : Byte) : State :=
  let a := aCoh n 0
  let old := s.rd a
  let new := s.merged a v be
  let new := if s.fuse.small then setFld new 35 32 0 else new
  let c0 := fld old 35 32
  let c1 := fld new 35 32
  if !wayctlOk new then s
  else if c0 = c1 then s.wr a new
  else if fld old 37 36 ≠ 0 then s
  else if c0 < c1 then
    { (s.wr a (setFld new 37 36 1)) with coh := { s.coh with converting := s.coh.converting.set n c0 } }
  else if (casExtents n c0 c1).any fun e => s.extentTaken true 0 e then s
  else { (s.wr a (setFld new 37 36 2)) with coh := { s.coh with converting := s.coh.converting.set n c0 } }

/-- CAS_WAYS_WRITE. On the FZ-6432 a write of CAS_WAYS is recorded as aimed at an absent unit (R165). -/
def State.opCasWays (w : Writer) (n : Nat) (v : Word) (be : Byte) (s : State) : State :=
  s.mgmt w (aCoh n 0) v be (fun s => s.wayctlApply n v be)
    (s.fuse.small && be.getLsbD 4 && fld v 35 32 != 0)

/-- Lines of an extent. -/
def extentLines (e : Nat) (line : Nat) : Bool := lineIn (extentPa true e) line

/-- Words of memory without those of lines that satisfy a test. -/
def State.wipe (s : State) (f : Nat → Bool) : State :=
  { s with mem := { s.mem with words := s.mem.words.filter fun t => !f (t.1 / 16) } }

/-- CAS_CONVERT_DONE: the lines of the ways to be converted are evicted and the ways hold zero UNTYPED words (R167). -/
def State.opConvertDone (n : Nat) (s : State) : State :=
  let a := aCoh n 0
  if s.rf a 37 36 ≠ 1 ∨ !s.dieUp (n / 12) then s
  else
    let c := s.rf a 35 32
    let out := s.coh.l3.filter fun t => homeOf t.1 = n ∧ 16 - c ≤ t.2.way
    let s := out.foldl (fun s t =>
      let s := if t.2.valid && t.2.dirty then s.memPut t.1 t.2.data else s
      { s with coh := { s.coh with l3 := s.coh.l3.del t.1 } }) s
    let es := casExtents n c (s.coh.converting.get 0 n)
    let s := s.wipe fun l => es.any fun e => extentLines e l
    { (s.wf a 37 36 0) with coh := { s.coh with converting := s.coh.converting.del n } }

/-- CAS_RELEASE_DONE: every L2 copy of the released ways' lines is invalidated, the data discarded (R167). -/
def State.opReleaseDone (n : Nat) (s : State) : State :=
  let a := aCoh n 0
  let es := casExtents n (s.coh.converting.get 0 n) (s.rf a 35 32)
  let mine (l : Nat) : Bool := es.any fun e => extentLines e l
  if s.rf a 37 36 ≠ 2 ∨ !s.dieUp (n / 12) ∨ es.any (fun e => s.accessing (extentPa true e)) then s
  else
    let s := s.wipe mine
    { (s.wf a 37 36 0) with coh := { s.coh with
        converting := s.coh.converting.del n
        l2 := s.coh.l2.vmap fun l => { l with lines := l.lines.filter fun t => !mine t.1 }
        dir := s.coh.dir.filter fun t => !mine t.1 } }

/-- Apply a write to PAIR_L2LOCK (R164): in split mode at most 6 of a core's 8 ways. -/
def State.l2lockApply (s : State) (a : Nat) (v : Word) (be : Byte) : State :=
  let new := s.merged a v be
  let lock := fld new 31 16
  let ok := if s.split then pop16 (lock % 256) ≤ 6 && pop16 (lock / 256) ≤ 6 else pop16 lock ≤ 12
  if ok then s.wr a new else s

/-- Apply a write to PAIR_L2CTL (R153, R162). -/
def State.l2ctlApply (s : State) (p : Nat) (v : Word) (be : Byte) : State :=
  let s := s.applyRw (aPair p 0x680) v be
  if wrote1 v be 1 then s.setL2 p { (s.l2 p) with pred := [] } else s

/-- PRED_CLEAR. -/
def State.opPredClear (w : Writer) (p : Nat) (v : Word) (be : Byte) (s : State) : State :=
  s.mgmt w (aPair p 0x680) v be fun s => s.l2ctlApply p v be

/-! ## Dirty tracking's scan (R245) -/

/-- The line lies in an extent of partition q. -/
def State.lineOf (s : State) (q line : Nat) : Bool :=
  (s.extentsOf q).any fun e => lineIn (extentPa e.1 (s.rf (aExt q e.1 e.2) 14 8)) line

/-- A grant of the line is on its way, or a transaction of it is open. -/
def State.granting (s : State) (line : Nat) : Bool :=
  (s.coh.txn.find line).isSome || s.coh.msgs.any fun m => match m with
    | .grant _ l _ _ => l == line
    | _ => false

/-- SnpShared to the owner of a line in EM. -/
def scanLine (t : Nat × L2Line) : Nat × L2Line :=
  (t.1, { t.2 with st := match t.2.st with
    | .m => .o
    | .e => .s
    | st => st })

/-- DIRTY_SCAN_DONE: every owner in EM of a line in the partition's extents has been sent SnpShared, and BUSY clears. -/
def State.opScanDone (q : Nat) (s : State) : State :=
  if q = 0 ∨ 63 < q ∨ !s.rb (aPart q 0x40) 3 ∨ s.coh.msgs.any (fun m => match m with
      | .grant _ l _ _ => s.lineOf q l
      | _ => false) ∨ s.coh.txn.any (fun t => s.lineOf q t.1) then s
  else
    let mine (l : Nat) : Bool := s.lineOf q l
    let own (l p : Nat) : Moesi := s.l2State p l
    let s := { s with coh := { s.coh with
        l2 := s.coh.l2.vmap fun (l : L2) =>
          { l with lines := l.lines.map fun (t : Nat × L2Line) => if mine t.1 then scanLine t else t }
        dir := s.coh.dir.map fun (t : Nat × DirEnt) =>
          if mine t.1 ∧ t.2.st = DirSt.em then
            match own t.1 t.2.owner with
            | .m => (t.1, { t.2 with st := .o })
            | .e => (t.1, { t.2 with st := .s, sharers := [t.2.owner] })
            | _ => t
          else t } }
    s.wb (aPart q 0x40) 3 false

end Sys2Proof.Machine
end

