-- ==== Sys2Proof/Machine/MemOps.lean ====
section
/-!
DEFINITION. The memory controllers (R175–R181, R192), the scrubbers, and the control store's patch, lock, disable and peek
(R134–R145).
-/
namespace Sys2Proof.Machine

/-! ## Addresses of the controllers (R175, R176) -/

/-- Memory controller of a line. -/
def mcOf (line : Nat) : Nat := 8 * (line / 2 % 2) + ((line / 4 % 8) ^^^ (line / 2 ^ 7 % 8))

/-- Pseudo-channel of a line within its controller's group. -/
def pcOf (line : Nat) : Nat := (line / 2 ^ 5 % 4) ^^^ (line / 2 ^ 10 % 4)

/-- Number of a line within its pseudo-channel. -/
def devLine (line : Nat) : Nat := line / 2 ^ 7 * 2 + line % 2

/-- The line of a controller, pseudo-channel and device line. -/
def lineAt (m k d : Nat) : Nat :=
  let hi := d / 2
  let x := (m % 8) ^^^ (hi % 8)
  let pc := k ^^^ (hi / 8 % 4)
  hi * 2 ^ 7 + pc * 2 ^ 5 + x * 4 + m / 8 * 2 + d % 2

/-- Number of a line's tag sector at its controller: four tag sectors side by side, one per pseudo-channel (R176). -/
def tagSector (line : Nat) : Nat := devLine line / 4 * 4 + pcOf line

/-- The four lines of a tag sector. -/
def tagLines (m t : Nat) : List Nat := (List.range 4).map fun j => lineAt m (t % 4) (t / 4 * 4 + j)

/-- Registers of controller m. -/
def aMc (m o : Nat) : Nat := 0x900100 + 0x20 * m + o

/-! ## Checks and POISON (R177–R180) -/

/-- A POISON word. -/
def poisonW : TWord := ⟨0, Tag.poison⟩

/-- Words `4i` to `4i + 3` of a line replaced by POISON (R180). -/
def poisonSector (ws : List TWord) (i : Nat) : List TWord :=
  ws.mapIdx fun j w => if j / 4 = i then poisonW else w

/-- A sector of a line is stored with UNIFORM = 1 (R178). -/
def uniform (ws : List TWord) (i : Nat) : Bool :=
  (ws.drop (4 * i)).take 4 |>.all fun w => w.tag == (ws.getD (4 * i) {}).tag

/-- A sector is already POISON as R180 rewrites it. -/
def isPoisoned (ws : List TWord) (i : Nat) : Bool := (ws.drop (4 * i)).take 4 |>.all (· == poisonW)

/-- Count an event of controller m with its MEM_COUNT field (R192). -/
def State.mcCount (s : State) (m ev hi lo : Nat) : State :=
  let s := s.satField (aMc m 8) hi lo
  s.report (80 + m) ev

/-- Fill MEM_ERR of controller m. -/
def State.mcErr (s : State) (m cause line : Nat) : State :=
  s.wr (aMc m 0) (BitVec.ofNat 64 (cause + pcOf line % 4 * 2 ^ 4 + line % 2 ^ 39 * 2 ^ 16))

/-- A sector becomes POISON (R180): counted; rewritten in memory unless the error was injected (R192). -/
def State.poisonMem (s : State) (m cause line i : Nat) (keep : Bool) : State :=
  let s := (s.mcCount m 1 47 32).mcErr m cause line
  if keep then s else s.memWriteLine line (poisonSector (s.memLine line) i)

/-- An uncorrectable tag sector (R180). -/
def State.poisonTags (s : State) (m cause t : Nat) (keep : Bool) : State :=
  let ls := tagLines m t
  let s := ls.foldl (fun s l => (List.range 4).foldl (fun s i =>
    if uniform (s.memLine l) i then s else s.poisonMem m cause l i keep) s) s
  (s.mcCount m 3 47 32).mcErr m cause (ls.headD 0)

/-- What an injection or a FORCE makes of a sector check (R192, R399): the result, whether the stored sector stays as it
is, and the state. `ev` is the number of the corrected event, `mode` that of the uncorrectable injection. -/
def State.mcCheck (s : State) (m : Nat) (chk : ChkRes) (ev mode : Nat) : ChkRes × Bool × State :=
  let inj := s.rf (aMc m 0x10) 1 0
  if inj = mode then (.uncorrectable, true, s.wf (aMc m 0x10) 1 0 0)
  else if inj = 1 ∧ ev = 0 then (.corrected, true, s.wf (aMc m 0x10) 1 0 0)
  else if s.forced (80 + m) (ev + 1) then (.uncorrectable, false, s)
  else if s.forced (80 + m) ev then (.corrected, false, s)
  else (chk, false, s)

/-- Check one data sector on a read (R180): whether it is delivered as POISON. -/
def State.readSector (s : State) (m cause line i : Nat) (chk : ChkRes) : Bool × State :=
  if isPoisoned (s.memLine line) i then (true, s)
  else match s.mcCheck m chk 0 2 with
    | (.good, _, s) => (false, s)
    | (.corrected, _, s) => (false, s.mcCount m 0 31 0)
    | (.uncorrectable, keep, s) => (true, s.poisonMem m cause line i keep)

/-- The Tag Buffer of controller m holds a sector (R179). -/
def State.tagHeld (s : State) (m t : Nat) : Bool := (s.mem.tagBuf.get [] m).any fun e => e.1 == t

/-- A sector enters the Tag Buffer or becomes its latest: 64 sets of 8 ways, least recently used first out (R179). The
address bits that select the set are not stated. -/
def State.tagPut (s : State) (m t : Nat) (dirty : Bool) : State :=
  let b := s.mem.tagBuf.get [] m
  let was := b.any fun e => e.1 == t && e.2
  let rest := b.filter (·.1 ≠ t)
  let others := rest.filter fun e => e.1 % 64 = t % 64
  let out := if 8 ≤ others.length then (others.getLast?.map (·.1)) else none
  let b := (t, dirty || was) :: rest.filter fun e => some e.1 ≠ out
  { s with mem := { s.mem with tagBuf := s.mem.tagBuf.set m b } }

/-- Read a tag sector from its pseudo-channel and check it (R178, R180): whether it is uncorrectable, and the state. -/
def State.tagCheck (s : State) (m cause t : Nat) (chk : ChkRes) : Bool × State :=
  match s.mcCheck m chk 2 3 with
  | (.good, _, s) => (false, s)
  | (.corrected, _, s) => (false, s.mcCount m 2 31 0)
  | (.uncorrectable, keep, s) => (true, s.poisonTags m cause t keep)

/-- A tag sector enters the Tag Buffer from its pseudo-channel. -/
def State.tagFetch (s : State) (m cause t : Nat) (chk : ChkRes) : Bool × State :=
  let r := s.tagCheck m cause t chk
  (r.1, r.2.tagPut m t false)

/-- Repeated transfers of one access (R180): at most two repeats; with a third failure a sector is uncorrectable. -/
def State.linkRetries (s : State) (m n : Nat) : State :=
  (List.range (min n 2)).foldl (fun s _ => s.mcCount m 4 63 48) s

/-- Carry on every transaction of a slice that waits to install a fill. -/
def State.retryFills (s : State) (n : Nat) : State :=
  (s.coh.txn.filter fun t => homeOf t.1 = n ∧ t.2.fetch ∧ t.2.data.isSome ∧ t.2.missing = [] ∧ t.2.waitEvb = none).foldl
    (fun s t => s.cohGo t.1) s

/-- MC_READ: the controller answers a home's read of a line (R178, R180). Which sector the third failed transfer concerns is
a free value (log entry 1). -/
def State.opMcRead (line : Nat) (chk : SectorChk) (retries : Nat) (s : State) : State :=
  match s.coh.txn.find line with
  | none => s
  | some t =>
    if !t.fetch || t.data.isSome || t.missing ≠ [] || !s.homeUp line then s
    else
      let m := mcOf line
      let s := s.linkRetries m retries
      let (v, s) := s.draw
      let bad := if 3 ≤ retries then some (v.toNat % 4) else none
      let ws := s.memLine line
      let mixed := (List.range 4).any fun i => !uniform ws i
      let (lost, s) := if mixed && !s.tagHeld m (tagSector line) then s.tagFetch m 2 (tagSector line) chk.tags else (false, s)
      let step (a : List Nat × State) (i : Nat) : List Nat × State :=
        let c := match i with
          | 0 => chk.d0
          | 1 => chk.d1
          | 2 => chk.d2
          | _ => chk.d3
        let r := if lost && !uniform ws i then (true, a.2)
          else if bad = some i then a.2.readSector m 3 line i .uncorrectable else a.2.readSector m 1 line i c
        (if r.1 then i :: a.1 else a.1, r.2)
      let (ps, s) := (List.range 4).foldl step ([], s)
      let d := ps.foldl poisonSector (s.memLine line)
      (s.setTxn line (some { t with data := some d })).cohGo line

/-- MC_WRITE: the controller accepts the write of a line from the Eviction Buffer (R157, R178). -/
def State.opMcWrite (line : Nat) (words : List TWord) (retries : Nat) (s : State) : State :=
  match s.coh.evb.find? fun e => e.1 = line with
  | none => s
  | some e =>
    if e.2 ≠ words ∨ !s.homeUp line then s
    else
      let m := mcOf line
      let s := s.linkRetries m retries
      let (v, s) := s.draw
      let s := s.memPut line words
      let mixed := (List.range 4).any fun i => !uniform words i
      let s := if mixed then s.tagPut m (tagSector line) true else s
      let s := if 3 ≤ retries then s.poisonMem m 3 line (v.toNat % 4) false else s
      let go (t : CTxn) : CTxn := if t.waitEvb = some line then { t with waitEvb := none } else t
      let s := { s with coh := { s.coh with txn := s.coh.txn.vmap go } }
      s.retryFills (homeOf line)

/-- EVICTION_WRITE_ACCEPTED: slice n's controller accepts the write of an Eviction Buffer entry; the entry is freed and the
fill that waits for it is installed (R157). -/
def State.opEvictionAccepted (n line : Nat) (s : State) : State :=
  match s.coh.evb.find? fun e => e.1 = line with
  | some e => if homeOf line = n then s.opMcWrite line e.2 0 else s
  | none => s

/-- TAG_BUFFER_FILL: a tag sector fetched on a miss arrives (R178). -/
def State.opTagFill (m t : Nat) (chk : ChkRes) (s : State) : State :=
  if s.tagHeld m t || !s.dieUp (m / 8) || !((tagLines m t).all fun l => s.paValid (l * 128)) then s
  else (s.tagFetch m 2 t chk).2

/-- Tag sectors of a controller's group (R176). -/
def State.tagSectors (s : State) : Nat := if s.fuse.small then 0x5A0000 else 0xB40000

/-- PATROL_SCRUB: the scrubber reads, checks and rewrites a sector (R181). Bit 33 of the operand names a tag sector by its
number; otherwise bits [1:0] are the sector of the line, [3:2] its pseudo-channel, and the rest its device line. The pass of
the group ends with its last tag sector (R192). -/
def State.opPatrol (m sector : Nat) (chk : ChkRes) (s : State) : State :=
  if !s.dieUp (m / 8) then s
  else if 2 ^ 33 ≤ sector then
    let t := sector - 2 ^ 33
    if !((tagLines m t).all fun l => s.paValid (l * 128)) then s
    else
      let s := (s.tagCheck m 4 t chk).2
      if t + 1 = s.tagSectors then s.raise (80 + m) 5 else s
  else
    let line := lineAt m (sector / 4 % 4) (sector / 16)
    if s.paValid (line * 128) then (s.readSector m 4 line (sector % 4) chk).2 else s

/-- HCS_SCRUB: one region of the Hub Control SRAM is scrubbed (R183); the pass ends with the last region. -/
def State.opHcsScrub (region : Nat) (corrected uncorrected : Bool) (s : State) : State :=
  if !s.pwr.powered then s
  else
    let s := if corrected then (s.raise (104 + region) 0).raise 109 1 else s
    let s := if uncorrected then s.raise (104 + region) 1 else s
    if region = 4 then s.raise 109 0 else s

/-! ## Control store (R134–R146) -/

/-- Clear EN in every UCS_MATCH and set STATE to DISABLED (R141). -/
def State.ucsDisable (s : State) : State :=
  (List.range 64).foldl (fun s i => s.wb (aUcs (0x100 + 8 * i)) 31 false) ((s.wf (aUcs 8) 2 0 4).wf (aUcs 8) 10 8 0)

/-- Apply a write to UCS_CTL. GO acts only in state NONE and while LOCK was clear. -/
def State.ucsCtlApply (s : State) (v : Word) (be : Byte) : State :=
  let a := aUcs 0x10
  let locked := s.rb a 33
  let s := s.applyRw a v be locked
  let s := if wrote1 v be 32 && !locked && s.rf (aUcs 8) 2 0 == 0 then s.wf (aUcs 8) 2 0 1 else s
  let s := if wrote1 v be 33 then s.wb a 33 true else s
  if wrote1 v be 34 then (s.wb a 34 true).ucsDisable else s

/-- PATCH_LOAD_GO, UCS_LOCK and UCS_DISABLE: writes of UCS_CTL. -/
def State.opUcsCtl (w : Writer) (v : Word) (be : Byte) (s : State) : State :=
  s.mgmt w (aUcs 0x10) v be fun s => s.ucsCtlApply v be

/-- No two match entries use one ROM_ADDR. -/
def romAddrsUnique : List Word → Bool
  | [] => true
  | w :: t => (t.all fun x => fld x 14 0 != fld w 14 0) && romAddrsUnique t

/-- The check of R144 that a patch image fails, 0 for none. -/
def State.patchReason (s : State) (img : Option PatchImg) : Nat :=
  match img with
  | none => 7
  | some p =>
    let n := p.words.length
    if !p.headerOk then 1
    else if (p.part ≠ 0xFFFF ∧ p.part ≠ (if s.fuse.small then 0x6432 else 0x9648)) ∨ p.romId ≠ s.fuse.romId then 2
    else if p.rev.toNat < s.fuse.ucsMinRev.toNat then 3
    else if !p.keyOk then 4
    else if !p.sigOk then 5
    else if n = 0 ∨ 1024 < n ∨ 64 < p.matches_.length
        ∨ !(p.matches_.all fun w => w.getLsbD 31 && fld w 14 0 < 0x6000 && fld w 25 16 < n)
        ∨ !romAddrsUnique p.matches_ ∨ !p.words.all Config.wordOk then 6
    else 0

/-- The load engine ends a load (R144). -/
def State.patchLoad (s : State) (img : Option PatchImg) : State :=
  let r := s.patchReason img
  match img with
  | some p =>
    if r = 0 then
      let st := 2 + p.words.length * 2 ^ 16 + p.rev.toNat * 2 ^ 32
      let s := s.wr (aUcs 8) (BitVec.ofNat 64 st)
      let s := (List.range 64).foldl (fun s i => s.wr (aUcs (0x100 + 8 * i)) (p.matches_.getD i 0 &&& 0x83FF7FFF)) s
      { s with core := { s.core with ucode := { words := (p.words.mapIdx fun i w => (i, w)).filter fun e => e.2 != 0 } } }
    else (s.wr (aUcs 8) (BitVec.ofNat 64 (3 + r * 2 ^ 8))).raise 235 0
  | none => (s.wr (aUcs 8) (BitVec.ofNat 64 (3 + r * 2 ^ 8))).raise 235 0

/-- PATCH_LOAD_DONE. -/
def State.opPatchDone (img : Option PatchImg) (s : State) : State :=
  if s.rf (aUcs 8) 2 0 = 1 ∧ s.pwr.powered ∧ !s.hibernating then s.patchLoad img else s

/-- The DIRECT entries of the dispatch table: store bound, SER, EXT (R135). -/
def directEntry (code : Nat) : Option (Nat × Bool × Bool) :=
  if [0x001, 0x002, 0x013, 0x014, 0x015].contains code then some (0, true, false)
  else if [0x020, 0x021, 0x028, 0x029].contains code then
    some (1, false, false)
  else if [0x040, 0x041, 0x042, 0x044].contains code then some (1, true, false)
  else if code = 0x043 then some (0, false, true)
  else if [0x008, 0x010, 0x011, 0x012, 0x016, 0x018, 0x019, 0x01A, 0x01B, 0x02A, 0x030].contains code then
    some (0, false, false)
  else none

/-- A dispatch entry (R134, R135). -/
def dispatchEntry (code : Nat) : Word :=
  match directEntry code with
  | some (sb, ser, ext) => BitVec.ofNat 64 (1 + 2 ^ 36 + sb * 2 ^ 45 + b2n ser * 2 ^ 52 + b2n ext * 2 ^ 53)
  | none =>
    let b := routineBounds code
    if b.1 = 0 then 0
    else BitVec.ofNat 64 (2 + Config.dispatchStart code % 2 ^ 15 * 2 ^ 8 + b.1 * 2 ^ 24 + b.2.1 * 2 ^ 36 + b.2.2 * 2 ^ 45)

/-- What UCS_PEEK selects. -/
def State.peekWord (s : State) (v : Word) : BitVec 144 :=
  let a := fld v 30 16
  let c := fld v 14 8
  match fld v 1 0 with
  | 0 => if a < 0x6000 then Config.romWord a else 0
  | 1 => if s.pairPresent (c / 2) ∧ a < 1024 then s.core.ucode.words.get 0 a else 0
  | 2 => if a < 4096 then (dispatchEntry a).zeroExtend 144 else 0
  | _ => 0

/-- Apply a write to UCS_PEEK. -/
def State.ucsPeekApply (s : State) (v : Word) (be : Byte) : State :=
  let s := s.applyRw (aUcs 0x18) v be
  let w := s.peekWord (s.rd (aUcs 0x18))
  ((s.wr (aUcs 0x20) (w.truncate 64)).wr (aUcs 0x28) ((w >>> 64).truncate 64)).wr (aUcs 0x30) ((w >>> 128).truncate 64)

/-- UCS_PEEK. -/
def State.opUcsPeek (w : Writer) (v : Word) (be : Byte) (s : State) : State :=
  s.mgmt w (aUcs 0x18) v be fun s => s.ucsPeekApply v be

/-- PATCH_RAM_SCRUB: a core's patch RAM is scrubbed against the master copy (R145), which leaves every word as loaded. The
image stays resident after DISABLE. -/
def State.opPatchScrub (c word : Nat) (corrected uncorrected : Bool) (s : State) : State :=
  if s.rf (aUcs 8) 26 16 = 0 ∨ !s.pairPresent (c / 2) ∨ !s.dieOn c ∨ 1024 ≤ word then s
  else
    let s := if corrected then s.raise 232 0 else s
    if uncorrected then s.raise 233 0 else s

end Sys2Proof.Machine
end

