-- ==== Sys2Proof/Machine/MigOps.lean ====
section
/-!
DEFINITION. Migration of a partition between modules (R246–R250): the Partition Image, the transfers of R249 over
context-0 exchanges and over the Courier Link, and the inbound requests of context 0 (R317, R332).
-/
namespace Sys2Proof.Machine

/-! ## The source -/

/-- Key of a logical processor in a Partition Image: its number, 64 added for the odd core of a pair in split mode. -/
def State.imgNo (s : State) (c : Nat) : Nat := s.logical (c / 2) + 64 * (if s.split then c % 2 else 0)

/-- The stored registers of a partition's PART instance, by offset, without the Extent Map. -/
def State.partRegs (s : State) (q : Nat) : Tbl Word :=
  s.regs.filterMap fun t =>
    if 0x300000 ≤ t.1 ∧ t.1 < 0x33F000 ∧ (t.1 - 0x300000) / 0x1000 + 1 = q ∧ t.1 % 0x1000 < 0x800 then
      some (t.1 % 0x1000, t.2)
    else none

/-- Journal records of a partition from the position of R355 on: stamped at or after its FREEZE tick less REBUILD_S. -/
def State.migRecsOf (s : State) (q : Nat) : List JRec :=
  let from_ := (s.parts.froze.get 0 q).toNat - s.rf (aJrn 0) 47 32 * 400000000
  (s.jrn.ring.filter fun e => e.r.context.toNat = q ∧ from_ ≤ e.r.stamp.toNat).map (·.r)

/-- The Partition Image of a FROZEN partition (R246). VOLATILE keys are not carried (R281). -/
def State.capture (s : State) (q : Nat) : PImage :=
  let ext := s.extentsOf q
  let recs := s.migRecsOf q
  { part := q
    rdomain := s.rd (aPart q 0x50)
    ident := s.fuse.ident
    regs := s.partRegs q
    hslots := (ext.filter fun e => !e.1).map (·.2)
    cslots := (ext.filter fun e => e.1).map (·.2)
    procs := (s.procsOf q).map fun c => (s.imgNo c, { a := (s.proc c).a, seq := (s.proc c).seq })
    winHeads := s.host.wins.filterMap fun t => if t.1 / 512 = q then some (t.1 % 512, t.2.high) else none
    hostWins := s.host.wins.filterMap fun t => if t.1 / 512 = q then some (t.1 % 512, t.2) else none
    peerWins := s.xchg.pwins.get [] q
    inbox := s.inbox q
    exchanges := s.xchg.table.filter fun t => t.2.ctx = q
    workOrders := s.host.wo.filter fun t => t.2.part = q ∧ (t.2.state = .delivered ∨ t.2.state = .orphan)
    keys := (s.cry.vault.filter fun t => t.1 / 16384 = q ∧ !t.2.destroying ∧ !isVolatile t.2).map fun t =>
      (t.1 % 16384, t.2)
    position := match recs.head? with
      | some r => r.jsn
      | none => s.rd (aJrn 0x10)
    sigOk := true }

/-- ADDRESS of a transfer (R249). -/
def migAddr (kind q low : Nat) : Word := BitVec.ofNat 64 (kind * 2 ^ 56 + q * 2 ^ 50 + low)

/-- Send one transfer as a context-0 exchange on PART_MIG.PATH_GROUP, if the group is context 0's and an entry may be
allocated (R228, R249). -/
def State.sendMig (s : State) (q ty : Nat) (addr : Word) (data : Bytes) : State :=
  let g := s.rf (aPart q 0x40) 24 16
  if !s.admitXt 0 ∨ s.pgOwner g ≠ 0 ∨ fld (s.pgCfg g) 7 0 = 0 then s
  else
    let x := lowestFree s.xchg.table 0
    let receipt := BitVec.ofNat 64 (0x101 * 2 ^ 48 + s.xchg.migSeq % 2 ^ 48)
    let s := { s with xchg := { s.xchg with migSeq := s.xchg.migSeq + 1 } }
    s.xStart0 x ty g receipt addr data 0

/-- Cut a list into runs of at most `m`. -/
def groupsOf {α : Type} (m : Nat) : Nat → List α → List (List α)
  | 0, _ => []
  | _, [] => []
  | f + 1, l => l.take m :: groupsOf m f (l.drop m)

/-- Send the image's bytes as fragments, the last one as COMMIT. -/
def State.sendImage (s : State) (q : Nat) : Nat → List Bytes → State
  | _, [] => s
  | off, [b] => s.sendMig q 2 (migAddr 3 q off) b
  | off, b :: t => (s.sendMig q 1 (migAddr 3 q off) b).sendImage q (off + b.length) t

/-- EXPORT (R225, R246, R247, R249): the image is captured, then the JOURNAL transfers and the IMAGE are sent, over the
Courier Link with VIA_COURIER. -/
def State.export_ (s : State) (q : Nat) : State :=
  let s := s.partGo q 5
  let img := s.capture q
  let recs := s.migRecsOf q
  let s := { s with parts := { s.parts with migKey := q :: s.parts.migKey.filter (· ≠ q) } }
  if s.rb (aPart q 0x40) 4 then
    let s := if recs.isEmpty then s else s.mirror' q (.migrate (.journal q recs))
    s.mirror' q (.migrate (.image img))
  else
    let s := (groupsOf 4000 (recs.length + 1) recs).foldl (fun s rs => s.sendMig q 2 (migAddr 2 q 0) (rs.flatMap padRec)) s
    let b := Config.imageBytes img
    s.sendImage q 0 (chunks 0x800000 (b.length + 1) b)

/-- EXPORT_CONFIRMED (R225, R249): the target confirms, and the partition is destroyed with its exported exchanges and
work orders freed; or it rejects, and the partition is FROZEN again with them. -/
def State.opExportConfirmed (q : Nat) (ok : Bool) (s : State) : State :=
  if q = 0 ∨ 63 < q ∨ s.partState q ≠ 5 then s
  else if ok then
    let s := (s.host.wo.filter fun t => t.2.part == q).foldl (fun s t => s.freeWo t.1) s
    let s := (s.xchg.table.filter fun t => t.2.ctx == q).foldl (fun s t => s.freeXt t.1) s
    s.destroy q
  else { (s.partGo q 4) with parts := { s.parts with migKey := s.parts.migKey.filter (· ≠ q) } }

/-! ## The target -/

/-- IMPORT (R225): memory and image are accepted from the source. -/
def State.import_ (s : State) (q : Nat) : State :=
  let s := (s.partGo q 6).wf (aPart q 8) 7 4 0
  { s with parts := { s.parts with
      migKey := q :: s.parts.migKey.filter (· ≠ q), migImage := s.parts.migImage.del q
      migBytes := s.parts.migBytes.del q, migRecs := s.parts.migRecs.del q } }

/-- A transfer is accepted: MEMORY, JOURNAL and IMAGE only while the partition is IMPORTING (R249). -/
def State.importing (s : State) (q : Nat) : Bool := 1 ≤ q && q ≤ 63 && s.partState q == 6

/-- One line of a MEMORY transfer: 128 data bytes and 8 tag bytes (R176, R249). -/
def lineWords (b : Bytes) : List TWord :=
  let tags := ofLe (slice b 128 8)
  (List.range 16).map fun k => ⟨BitVec.ofNat 64 (ofLe (slice b (8 * k) 8)), BitVec.ofNat 4 (tags / 16 ^ k)⟩

/-- Write the lines of a MEMORY transfer. -/
def State.writeLines (s : State) (q : Nat) : Nat → Nat → Bytes → State
  | 0, _, _ => s
  | n + 1, pra, b => (s.writeTagged q pra (lineWords b)).writeLines q n (pra + 128) (b.drop 136)

/-- The records that a JOURNAL transfer spells (R349, R354), each padded to 8 bytes. -/
def parseRecs : Nat → Bytes → List JRec
  | 0, _ => []
  | f + 1, b =>
    if b.length < 64 then []
    else
      let w (o n : Nat) : Nat := ofLe (slice b o n)
      let n := w 0x24 4
      let r : JRec :=
        { jsn := BitVec.ofNat 64 (w 0 8), stamp := BitVec.ofNat 64 (w 8 8), receipt := BitVec.ofNat 64 (w 0x10 8)
          domain := BitVec.ofNat 64 (w 0x18 8), kind := BitVec.ofNat 8 (w 0x20 1), window := BitVec.ofNat 8 (w 0x21 1)
          status := BitVec.ofNat 8 (w 0x22 1), context := BitVec.ofNat 8 (w 0x23 1)
          result := BitVec.ofNat 64 (w 0x28 8), ident := BitVec.ofNat 64 (w 0x30 8), payload := slice b 64 n }
      r :: parseRecs f (b.drop ((64 + n + 7) / 8 * 8))

/-- Bytes put into a string at an offset, missing bytes before them reading 0. -/
def putBytes (old : Bytes) (off : Nat) (b : Bytes) : Bytes := fit off old ++ b ++ old.drop (off + b.length)

/-- KIND of a transfer's ADDRESS. -/
def migKind (a : Word) : Nat := fld a 63 56
/-- Partition of a transfer's ADDRESS. -/
def migPart (a : Word) : Nat := fld a 55 50

/-- A transfer is of a form that R249 gives: type, address and length. -/
def migFormOk (xtype : Nat) (a : Word) (len : Nat) : Bool :=
  fld a 49 46 == 0 &&
    match migKind a with
    | 1 => xtype == 1 && fld a 15 0 == 0 && len % 136 == 0 && decide (len ≤ 1114112)
    | 2 => xtype == 2 && fld a 45 0 == 0
    | 3 => (xtype == 1 || xtype == 2) && fld a 45 32 == 0
    | _ => false

/-- Carry out a complete transfer: its status, or none for the IMAGE's last fragment, which waits for its checks. -/
def State.migTake (s : State) (xtype : Nat) (a : Word) (data : Bytes) : Option (BitVec 8) × State :=
  let q := migPart a
  if !s.importing q then (some St.invalidField, s)
  else match migKind a with
    | 1 =>
      let n := data.length / 136
      if s.mapped q (fld a 45 0) (128 * n) then (some St.ok, s.writeLines q n (fld a 45 0) data)
      else (some St.invalidField, s)
    | 2 =>
      let rs := parseRecs (data.length / 64) data
      (some St.ok, { s with parts := { s.parts with migRecs := s.parts.migRecs.upd [] q (· ++ rs) } })
    | _ =>
      let b := putBytes (s.parts.migBytes.get [] q) (fld a 31 0) data
      let s := { s with parts := { s.parts with migBytes := s.parts.migBytes.set q b } }
      if xtype = 2 then
        (none, { s with parts := { s.parts with migImage := s.parts.migImage.set q (Config.imageParse b) } })
      else (some St.ok, s)

/-- An inbound request of context 0 is complete (R332, R249). -/
def State.in0Complete (s : State) (x : Nat) : State :=
  let e := s.xt x
  let s := s.setXt x { e with state := .acked }
  if e.ctxData.length ≠ e.reqLen then s.inPosted x St.invalidField 0 []
  else match s.migTake e.xtype e.address e.ctxData with
    | (some st, s) => s.inPosted x st 0 []
    | (none, s) => s

/-- INBOUND_READ (R249, R317): only STATUS of a MODULE peer. -/
def State.in0Read (s : State) (l : Nat) (fr : Frame) : State :=
  let b := frameBytes fr
  let a := BitVec.ofNat 64 (ofLe (slice b 8 8))
  let q := migPart a
  if !s.modulePeer l then s.refuse l fr St.unsupported
  else if b.length < 32 ∨ migKind a ≠ 4 ∨ fld a 49 0 ≠ 0 ∨ q = 0 ∨ ofLe (slice b 16 4) ≠ 8 then
    s.refuse l fr St.invalidField
  else s.answer l (frDup l fr) St.ok 0 0 (leBytes 8 (s.peek (aPart q 8)).toNat) none 0

/-- The first frame of an inbound WRITE or COMMIT (R249, R317, R332, R339): the next state, or none while no entry can
be allocated. -/
def State.in0Write (s : State) (l : Nat) (fr : Frame) (x : Nat) : Option State :=
  let b := frameBytes fr
  let dom := BitVec.ofNat 64 (ofLe (b.take 8))
  let a := BitVec.ofNat 64 (ofLe (slice b 8 8))
  let len := ofLe (slice b 16 4)
  let d := frDup l fr
  if !s.modulePeer l then some (s.refuse l fr St.unsupported)
  else if b.length < 32 ∨ !migFormOk d.xtype a len ∨ !s.importing (migPart a) then some (s.refuse l fr St.invalidField)
  else match s.openPwin 0 dom (rcptSource fr.xh0) with
    | none => some ((s.refuse l fr St.invalidField).raise 104 8)
    | some (w, s) =>
      match s.pAnswer w fr.xh0 with
      | .stale => some (s.refuse l fr St.staleReceipt)
      | .lost => some (s.refuse l fr St.internalError)
      | .replay orig res => some (s.answer l d St.replayed res orig [] none 0)
      | .attach y => some (s.setXt y { (s.xt y) with dups := (s.xt y).dups ++ [d] })
      | .fresh =>
        if !(s.admits || s.dpxState == 3) || !s.admitXt 0 || (s.xt x).state != .free then none
        else
          let data := (b.drop 32).take len
          let s := s.setPwin 0 (pwinSet w (rcptSeq fr.xh0) (.pending x))
          let s := s.setXt x
            { state := .data, inbound := true, xtype := d.xtype, ctx := 0, port := l, attempt := d.attempt
              receipt := fr.xh0, domain := dom, address := a, user := BitVec.ofNat 64 (ofLe (slice b 24 8))
              peerXid := d.xid, admitted := s.time, reqLen := len, got := data.length, ctxData := data }
          some (if frLast fr then s.in0Complete x else s)

/-- INBOUND_READ. -/
def State.opInRead (l : Nat) (fr : Frame) (s : State) : State :=
  if isReq l fr 0 then s.rxData l fr 0 fun s => some (s.in0Read l fr) else s

/-- INBOUND_WRITE and INBOUND_COMMIT. -/
def State.opInWrite (ty l : Nat) (fr : Frame) (x : Nat) (s : State) : State :=
  if isReq l fr ty then s.rxData l fr 0 fun s => s.in0Write l fr x else s

/-- REQ_DATA_FRAME: a further frame of an inbound request (R332): its data is written, and the last one completes the
request. -/
def State.inData (s : State) (l : Nat) (fr : Frame) : State :=
  match s.inEntry l fr with
  | none => s.stray
  | some x =>
    let e := s.xt x
    let b := frameBytes fr
    if frOffset fr ≠ e.got then s.stray
    else if e.ctx = 0 then
      let s := s.setXt x { e with got := e.got + b.length, ctxData := e.ctxData ++ b }
      if frLast fr then s.in0Complete x else s
    else
      let s := s.setXt x { e with got := e.got + b.length }
      let s := s.writeBytes e.ctx (s.slotPay e.ctx (inSlot e) + e.got) (b.take (e.reqLen - e.got))
      if frLast fr then s.inComplete x else s

/-- REQ_DATA_FRAME. -/
def State.opReqData (l : Nat) (fr : Frame) (s : State) : State :=
  if !isLane l ∧ frRole fr = 1 then s.rxData l fr 0 fun s => some (s.inData l fr) else s

/-! ## Installing an image (R248) -/

/-- A key of the lattice types. -/
def latticeKey (r : VRec) : Bool := 0x20 ≤ r.type_.toNat && r.type_.toNat ≤ 0x23

/-- The status of the first check of R248 that fails, or none. -/
def State.imageCheck (s : State) (q : Nat) (img : PImage) : Option (BitVec 8) :=
  let mapped (cas : Bool) (i : Nat) : Bool := s.rf (aExt q cas i) 1 0 == 1
  let count (cas : Bool) : Nat := ((s.extentsOf q).filter fun e => e.1 == cas).length
  if !img.sigOk then some St.verifyFailed
  else if img.part ≠ q
      ∨ ((List.range 63).any fun r => r + 1 != q && s.partState (r + 1) != 0 && s.rd (aPart (r + 1) 0x50) == img.rdomain)
  then some St.invalidField
  else if s.fuse.small ∧ img.cslots ≠ [] then some St.unsupported
  else if count false ≠ img.hslots.length ∨ count true ≠ img.cslots.length ∨ !img.hslots.all (mapped false)
      ∨ !img.cslots.all (mapped true) ∨ (s.procsOf q).length < img.procs.length then some St.invalidField
  else if !s.hasLattice ∧ img.keys.any (fun k => latticeKey k.2) then some St.unsupported
  else if !img.keysOk then some St.verifyFailed
  else none

/-- Number of a remapped entry. -/
def remap (m : List (Nat × Nat)) (i : Nat) : Option Nat := (m.find? fun t => t.1 == i).map (·.2)

/-- Restore DELIVERED work orders as ORPHAN at free indices (R218, R248). -/
def State.installWos (s : State) (q : Nat) : List (Nat × WoEnt) → List (Nat × Nat) → List (Nat × Nat) × State
  | [], m => (m, s)
  | (old, e) :: t, m =>
    let i := lowestFree s.host.wo 0
    (s.setWo i { e with state := .orphan, part := q, next := none, rd := .none }).installWos q t ((old, i) :: m)

/-- Restore exchanges at free indices: outbound ones as waiting for a path, inbound ones that their partition holds. -/
def State.installXts (s : State) (q : Nat) : List (Nat × XtEnt) → List (Nat × Nat) → List (Nat × Nat) × State
  | [], m => (m, s)
  | (old, e) :: t, m =>
    let x := lowestFree s.xchg.table 0
    if !e.inbound ∧ e.state ≠ .free then
      (s.setXt x { e with ctx := q, state := if e.state = .done then .done else .pathWait, deadline := none
                          restored := true, interim := false, rounds := 0, tried := [] }).installXts q t ((old, x) :: m)
    else if e.inbound ∧ e.state = .acked then
      (s.setXt x { e with ctx := q, port := 511, dups := [] }).installXts q t ((old, x) :: m)
    else s.installXts q t m

/-- A slot's content with its table indices remapped. -/
def remapKind (wo xt : List (Nat × Nat)) : InKind → InKind
  | .work e => .work ((remap wo e).getD e)
  | .message e => .message ((remap xt e).getD e)
  | .xcomplete e => .xcomplete ((remap xt e).getD e)
  | .xrestore e => .xrestore ((remap xt e).getD e)
  | k => k

/-- A host window with pending entries remapped, and those not restored removed. -/
def remapWin (wo : List (Nat × Nat)) (w : RWin) : RWin :=
  { w with outs := w.outs.filterMap fun t => match t.2 with
      | .pending e => (remap wo e).map fun i => (t.1, ROut.pending i)
      | o => some (t.1, o) }

/-- A peer window with pending entries remapped. -/
def remapPwin (xt : List (Nat × Nat)) (w : PWin) : PWin :=
  { w with outs := w.outs.filterMap fun t => match t.2 with
      | .pending e => (remap xt e).map fun i => (t.1, POut.pending i)
      | o => some (t.1, o) }

/-- Install the keys of an image under their original handles (R248). -/
def State.installKeys (s : State) (q : Nat) : List (Nat × VRec) → State
  | [] => s
  | (i, r) :: t =>
    let k := vKey q i
    let s := { s with cry := { s.cry with vault := s.cry.vault.set k r, gens := s.cry.gens.set k (r.gen + 1) } }
    (s.mirror' q (.vault q i (some r))).installKeys q t

/-- Set the partition registers of an image: RDOMAIN, WINBOX, WOQ, XTQ, SHARE and PARK. Quotas that break R230 here keep
their values. -/
def State.installRegs (s : State) (q : Nat) (img : PImage) : State :=
  let get (o : Nat) : Word := img.regs.get (regReset s.fuse.small (aPart q o)) o
  let s := (s.wr (aPart q 0x50) img.rdomain).wr (aPart q 0x10) (get 0x10)
  let s := if s.quotaOk q 0x18 (get 0x18) then s.wr (aPart q 0x18) (get 0x18) else s
  let s := if s.quotaOk q 0x20 (get 0x20) then s.wr (aPart q 0x20) (get 0x20) else s
  (s.wr (aPart q 0x28) (get 0x28)).wr (aPart q 0x30) (get 0x30)

/-- Install a checked image (R248): the partition is FROZEN with everything that it held. -/
def State.install (s : State) (q : Nat) (img : PImage) : State :=
  let s := (s.installRegs q img).installKeys q img.keys
  let (wo, s) := s.installWos q img.workOrders []
  let (xt, s) := s.installXts q img.exchanges []
  let fix (e : XtEnt) : XtEnt :=
    { e with attachedTo := e.attachedTo.bind (remap xt), cancelOf := e.cancelOf.bind (remap xt), next := none }
  let mine := xt.map (·.2)
  let s := mine.foldl (fun s x => s.setXt x (fix (s.xt x))) s
  let s := s.clearWindows q
  let s := img.hostWins.foldl (fun s t => s.setWin q t.1 (remapWin wo t.2)) s
  let s := { s with xchg := { s.xchg with pwins := s.xchg.pwins.set q (img.peerWins.map (remapPwin xt)) } }
  let b := img.inbox
  let s := s.setInbox q { b with
    slots := b.slots.vmap fun x => { x with kind := remapKind wo xt x.kind }
    waiting := b.waiting.map fun t => (remapKind wo xt t.1, t.2) }
  let s := s.applyRecs q (s.parts.migRecs.get [] q)
  let s := { s with parts := { s.parts with resume := s.parts.resume.set q img.procs } }
  let s := ((s.partGo q 4).wf (aPart q 8) 7 4 1).keepPart q 4
  mine.foldl (fun s x =>
    let e := s.xt x
    if e.state = .pathWait ∧ e.attachedTo = none then s.xRedrive x else s) s

/-- The COMMIT of the last IMAGE fragment that waits for its answer. -/
def State.imageWaiter (s : State) (q : Nat) : Option Nat :=
  (s.xtWhere fun e => e.inbound && e.ctx == 0 && e.state == .acked && e.xtype == 2 && migKind e.address == 3
    && migPart e.address == q).head?

/-- The migration's answer goes to its source, as a response or as MIGRATE_RSP (R249, R369). -/
def State.migAnswer (s : State) (q : Nat) (img : PImage) (st : BitVec 8) : State :=
  match s.imageWaiter q with
  | some x => s.inPosted x st 0 []
  | none => s.laneItem { ctx := q, tgen := BitVec.ofNat 32 s.tgen, body := .migrateRsp (.image img) st 0 }

/-- IMPORT_INSTALLED: the assembled image is checked and installed, or the partition is destroyed (R225, R248). The
Migration Key is erased (R247). -/
def State.opImportInstalled (q : Nat) (img : PImage) (s : State) : State :=
  if !s.importing q ∨ s.parts.migImage.find q ≠ some img then s
  else match s.imageCheck q img with
    | some st => (s.migAnswer q img st).destroy q
    | none =>
      let s := (s.install q img).migAnswer q img St.ok
      { s with parts := { s.parts with
          migKey := s.parts.migKey.filter (· ≠ q), migImage := s.parts.migImage.del q
          migBytes := s.parts.migBytes.del q, migRecs := s.parts.migRecs.del q } }

/-- A MIGRATE item (R249, R369): carried out as the transfer of its kind, and answered, the image's answer waiting for
its checks. -/
def State.migItem (s : State) (m : Mig) : State :=
  let rsp (s : State) (q : Nat) (st : BitVec 8) (r : Word) : State :=
    s.laneItem { ctx := q, tgen := BitVec.ofNat 32 s.tgen, body := .migrateRsp m st r }
  match m with
  | .memory q a ws =>
    if !s.importing q ∨ a % 0x10000 ≠ 0 ∨ !s.mapped q a (8 * ws.length) then rsp s q St.invalidField 0
    else rsp (s.writeTagged q a ws) q St.ok 0
  | .journal q rs =>
    if !s.importing q then rsp s q St.invalidField 0
    else rsp { s with parts := { s.parts with migRecs := s.parts.migRecs.upd [] q (· ++ rs) } } q St.ok 0
  | .image img =>
    if !s.importing img.part then rsp s img.part St.invalidField 0
    else { s with parts := { s.parts with migImage := s.parts.migImage.set img.part img } }
  | .status q => if q = 0 ∨ 63 < q then rsp s q St.invalidField 0 else rsp s q St.ok (s.peek (aPart q 8))

end Sys2Proof.Machine
end

