-- ==== Sys2Proof/Machine/DuplexOps.lean ====
section
/-!
DEFINITION. Duplex operation (16_duplex.md): roles and states, Courier items, Device Time, heartbeats, self-fence,
promotion, resync and handover; and the opening of admission, which boot shares (R435, R437, R438).
-/
namespace Sys2Proof.Machine

/-! ## Opening admission (R432, R435, R437) -/

/-- A restored outbound exchange: re-driven at once, or held until its partition has restored its data (R437). -/
def State.actRestored (s : State) (x : Nat) : State :=
  let e := s.xt x
  if e.inbound ∨ !e.restored ∨ e.attachedTo ≠ none then s
  else if e.ctx ≠ 0 ∧ (e.xtype = 1 ∨ e.xtype = 2 ∨ e.xtype = 3) then
    (s.setXt x { e with state := .pathWait, wait := true, deadline := none }).serve e.ctx (.xrestore x)
  else s.xRedrive x

/-- Clear a slot's marker (R421, R435). -/
def clearMarker (h : Option HibImage) : Option HibImage := h.map fun i => { i with marker := false }

/-- Clear the marker of the slot that the module resumed from. -/
def State.clearSlot (s : State) : State :=
  match s.boot.resumeSlot with
  | some false => { s with pwr := { s.pwr with slotA := clearMarker s.pwr.slotA } }
  | some true => { s with pwr := { s.pwr with slotB := clearMarker s.pwr.slotB } }
  | none => s

/-- Write a Work Order Table entry. -/
def State.putWo (s : State) (i : Nat) (e : WoEnt) : State :=
  { s with host := { s.host with wo := if e.state = WoSt.free then s.host.wo.del i else s.host.wo.set i e } }

/-- The work order outcomes that a promotion or a resume enters: POSTING and HELD (R378 step 3, R436); every entry is freed. -/
def State.promoteWos (s : State) : State :=
  s.host.wo.foldl (fun s t =>
    let e := t.2
    let s := if e.state = .posting ∨ e.state = .held then s.outcome e else s
    s.putWo t.1 {}) s

/-- Admission opens: the marker is cleared and only then restored exchanges are acted on (R435 step 5); the time of LOSSY
windows runs from here (R355). -/
def State.openAdmission (s : State) : State :=
  let s := s.clearSlot
  let held := s.boot.held
  let s := { s with
    boot := { s.boot with admission := true, opened := true, held := false, resumeSlot := none }
    jrn := { s.jrn with lossyFrom := if s.anyLossy then some s.time else none } }
  if held then (s.xchg.table.map (·.1)).foldl (fun s x => s.actRestored x) s.promoteWos else s

/-- Admission may open: boot has completed stage 10; HIB_READY is set where the first opening requires it (R411); and
restored promises of a duplex module have their role (R438). -/
def State.mayOpen (s : State) : Bool :=
  !s.boot.booting && !s.boot.admission
    && (s.boot.opened || s.rb (aClk 0x800) 5 || !s.rb (aClk 0x808) 10)
    && (!s.boot.held || !s.rb (aDpx 0) 0 || s.dpxState == 2 || s.dpx.confirmed)

/-- Open admission as soon as it may open. -/
def State.tryOpen (s : State) : State := if s.mayOpen then s.openAdmission else s

/-- The promises of a Hibernate image are discarded (R368, R438): every restored entry is freed and the marker
cleared. -/
def State.dropPromises (s : State) : State :=
  let s := (s.host.wo.map (·.1)).foldl (fun s i => s.freeWo i) s
  let s := (s.xchg.table.map (·.1)).foldl (fun s x => s.freeXt x) s
  let s := s.clearSlot
  { s with boot := { s.boot with held := false, resumeSlot := none }, dpx := { s.dpx with holds := false } }

/-! ## Roles (R367, R368) -/

/-- Enter a duplex state. -/
def State.dpxGo (s : State) (st : Nat) : State := s.wf (aDpx 0x10) 2 0 st

/-- HOLDS (R368). -/
def State.holdsNow (s : State) : Bool :=
  s.dpx.holds || (s.dpx.role != some false
    && (List.range 63).any fun q => s.partState (q + 1) == 2 || s.partState (q + 1) == 4)

/-- The partner's identity. -/
def State.partnerId (s : State) : BitVec 128 :=
  (s.rd (aDpx 0x20)).zeroExtend 128 <<< 64 ||| (s.rd (aDpx 0x18)).zeroExtend 128

/-- Send HELLO on the lowest-numbered ACTIVE lane (R369). -/
def State.sendHello (s : State) : State :=
  s.vl0Any (.hello { ident := s.fuse.ident, holds := s.holdsNow, role := s.rb (aClk 0x408) 17 })

/-- Enter FORMING (R367): items are numbered anew from 0 (R370). With `keep` the roles stay. -/
def State.enterForming (s : State) (keep : Bool) : State :=
  let s := if keep then s else (s.wr (aDpx 0x18) 0).wr (aDpx 0x20) 0
  let d := { s.dpx with
    role := if keep then s.dpx.role else none, hello := none, pairKey := false, timeOk := false, resynced := false
    held := [], ahead := [], endMsn := none, dropped := false, courierAt := s.time, sideAt := s.time, thetaRun := 0 }
  (({ s with dpx := d }.wr (aDpx 0x30) 0).wr (aDpx 0x38) 0 |>.dpxGo 1).sendHello

/-- A Courier lane is ACTIVE to a peer with MODULE set (R309, R367). -/
def State.courierUp (s : State) : Bool := s.activeLanes.any fun l => s.rb (aLink l 0x30) 33

/-- DUPLEX_FORMING. -/
def State.opDuplexForming (s : State) : State :=
  if s.dpxState = 0 ∧ s.rb (aDpx 0) 0 ∧ s.courierUp then s.enterForming false else s

/-- HELLO_TIMER. -/
def State.opHelloTimer (s : State) : State := if s.dpxState = 1 then s.sendHello else s

/-- Send one item of the resync: its bytes count in DPX_RESYNC (R382). -/
def State.sendSnap (s : State) (ctx : Nat) (c : Snap) : State :=
  let n := itemLen (.snapshot c)
  (s.mirror' ctx (.snapshot c)).wf (aDpx 0x40) 39 0 (s.rf (aDpx 0x40) 39 0 + n)

/-- The resync of R382: the active's snapshot items in order, then SNAPSHOT_END. -/
def State.resync (s : State) : State :=
  let s := (s.wr (aDpx 0x40) ((1 : Word) <<< 40)).raise 197 1
  let s := (s.cry.vault.filter fun t => !isVolatile t.2).foldl (fun s t =>
    s.sendSnap (t.1 / 16384) (.vault (t.1 / 16384) (t.1 % 16384) t.2)) s
  let s := (s.regs.filter fun t => 0x300000 ≤ t.1 ∧ t.1 < 0x33F000).foldl (fun s t =>
    s.sendSnap ((t.1 - 0x300000) / 0x1000 + 1) (.partReg t.1 (s.peek t.1))) s
  let s := s.host.wo.foldl (fun s t => s.sendSnap t.2.part (.workOrder t.1 t.2)) s
  let s := s.xchg.table.foldl (fun s t => s.sendSnap t.2.ctx (.exchange t.1 t.2)) s
  let s := s.host.wins.foldl (fun s t => s.sendSnap (t.1 / 512) (.hostWin t.1 t.2)) s
  let s := s.xchg.pwins.foldl (fun s t => t.2.foldl (fun s w => s.sendSnap t.1 (.peerWin t.1 w)) s) s
  let s := (s.dpx.partnerSeals.reverse ++ s.jrn.seals.reverse).foldl (fun s k => s.sendSnap 0 (.anchor k)) s
  let (n, s) := s.mirror 0 .snapshotEnd
  { s with dpx := { s.dpx with endMsn := n } }

/-- FORMING is complete when the roles, the Pair Key, Device Time and the resync are (R367). -/
def State.checkFormed (s : State) : State :=
  match s.dpx.role with
  | some r =>
    if s.dpxState = 1 ∧ s.dpx.pairKey ∧ s.dpx.timeOk ∧ s.dpx.resynced then
      (s.dpxGo (if r then 2 else 3)).tryOpen
    else s
  | none => s

/-- The role that the rules of R368 give this module, none on a conflict. -/
def State.resolveRole (s : State) (h : Hello) (tgen : Nat) : Option Bool :=
  let mine := s.holdsNow
  let strap := s.rb (aClk 0x408) 17
  if mine != h.holds then some mine
  else if mine then (if s.tgen = tgen then none else some (tgen < s.tgen))
  else if strap != h.role then some strap
  else some (s.fuse.ident.toNat < h.ident.toNat)

/-- Adopt the higher TGEN (R368). -/
def State.adoptTgen (s : State) (t : Nat) : State := if s.tgen < t then s.wf (aDpx 0x10) 63 32 t else s

/-- Adopt the TGEN of an item. A FENCED module learns of a higher one by a heartbeat, which marks it SUPERSEDED (R367). -/
def State.seeTgen (s : State) (t : Nat) : State := if s.dpxState = 4 then s else s.adoptTgen t

/-- A HELLO of the partner (R368, R384). -/
def State.hello (s : State) (h : Hello) (tgen : Nat) : State :=
  if s.dpxState ≠ 0 ∧ s.partnerId ≠ 0 ∧ s.partnerId ≠ h.ident then s.raise 199 1
  else if s.dpxState ≠ 1 then s
  else
    let s := (s.wr (aDpx 0x18) (h.ident.truncate 64)).wr (aDpx 0x20) ((h.ident >>> 64).truncate 64)
    let role := match s.dpx.role with
      | some r => some r
      | none => s.resolveRole h tgen
    match role with
    | none => ((s.dpxGo 0).wb (aDpx 0x10) 8 true).raise 199 0
    | some r =>
      let fresh := s.dpx.hello.isNone
      let s := if !r && (s.dpx.holds || s.boot.held) then s.dropPromises else s
      let d := { s.dpx with role := some r, hello := some (h, BitVec.ofNat 32 tgen), pairKey := true }
      let s := { s with dpx := { d with adopt := if r then d.adopt else none } }
      let s := s.adoptTgen tgen
      (if fresh && r then s.resync else s).checkFormed

/-! ## Device Time (R373) -/

/-- Step Device Time forward by `d` (R373): the Ledger's epoch ends at the first value of the new count and the next
carries RESUMED (R360). -/
def State.timeStep (s : State) (d : Nat) : State :=
  let s := { s with now := s.now + BitVec.ofNat 64 d, nowStage := s.nowStage + BitVec.ofNat 64 d }
  let s := if s.jrn.running then
      let s := s.endEpoch s.time s.time false false false
      ({ s with jrn := { s.jrn with resumed := true } }).ledger
    else s
  (s.satField (aDpx 0x28) 47 32).raise 196 1

/-- Measure the offset of a heartbeat (R373): RTT and θ, the forward step in FORMING, and TIME_DRIFT. -/
def State.measure (s : State) (b : Beat) : State :=
  if b.tEcho = 0 then s
  else
    let t := s.time
    let rtt := (t - b.tEcho).toNat - b.tHold.toNat
    let theta : Int := (t.toNat : Int) - ((b.tSend.toNat + rtt / 2 : Nat) : Int)
    let s := (s.wf (aDpx 0x28) 15 0 (theta % 65536).toNat).wf (aDpx 0x28) 31 16 (rtt % 65536)
    let s := { s with dpx := { s.dpx with theta := theta } }
    let far := decide (4 < theta.natAbs)
    if s.dpxState = 1 then
      if far then (if theta < 0 then s.timeStep theta.natAbs else s)
      else ({ s with dpx := { s.dpx with timeOk := true } }).checkFormed
    else if far then
      if s.dpx.thetaRun = 2 then ({ s with dpx := { s.dpx with thetaRun := 0 } }).raise 196 0
      else { s with dpx := { s.dpx with thetaRun := s.dpx.thetaRun + 1 } }
    else { s with dpx := { s.dpx with thetaRun := 0 } }

/-- TIME_SLEW: at one tick in 1,024 the standby's Device Time repeats a value while θ > 1, or advances by 2 while
θ < −1. -/
def State.opTimeSlew (s : State) : State :=
  if s.dpx.role ≠ some false ∨ (s.dpxState ≠ 3 ∧ s.dpxState ≠ 1) then s
  else if 1 < s.dpx.theta then
    { s with nowStage := s.now, dpx := { s.dpx with theta := s.dpx.theta - 1 } }
  else if s.dpx.theta < -1 then
    { s with now := s.now + 2, nowStage := s.now, dpx := { s.dpx with theta := s.dpx.theta + 1 } }
  else s

/-! ## Mirror items at the standby (R370–R372, R382) -/

/-- A seal from its bytes (R361). -/
def parseSeal (b : Bytes) : Seal :=
  let w (o n : Nat) : Nat := ofLe (slice b o n)
  let f := w 6 2
  let bit (i : Nat) : Bool := f / 2 ^ i % 2 == 1
  { sag := bit 0, synced := bit 1, hybrid := bit 2, genesis := bit 3, resumed := bit 4, reset := bit 5
    epoch := BitVec.ofNat 64 (w 8 8), start := BitVec.ofNat 64 (w 0x10 8), stop := BitVec.ofNat 64 (w 0x18 8)
    records := BitVec.ofNat 64 (w 0x20 8), changes := BitVec.ofNat 64 (w 0x28 8), ident := BitVec.ofNat 128 (w 0x30 16)
    racc := slice b 0x40 48, cacc := slice b 0x70 48, prev := slice b 0xA0 48, kcv := BitVec.ofNat 64 (w 0xD0 8)
    lastJsn := BitVec.ofNat 64 (w 0xD8 8), sigP384 := slice b 0x100 96
    sigMldsa := if bit 2 then slice b 0x160 3309 else [] }

/-- Take a seal of the partner: the records that it covers leave the takeover count (R379). -/
def State.takeSeal (s : State) (k : Seal) : State :=
  { s with dpx := { s.dpx with
      partnerSeals := k :: s.dpx.partnerSeals
      since := s.dpx.since.filter fun r => k.ident ≠ s.partnerId ∨ k.stop.toNat ≤ r.stamp.toNat } }

/-- Apply a mirrored JOURNAL item (R371, R372): the record is durable in the ring, a COMMIT with a window is applied to
it, and a COMMIT of a partition waits to be fed. -/
def State.mirrorRec (s : State) (r : JRec) : State :=
  let q := r.context.toNat
  let feed := r.kind == 1 && q != 0
  let e : MEnt := { r := r, applied := true, fed := !feed }
  let s := { s with dpx := { s.dpx with mirror := s.dpx.mirror ++ [e] } }
  let s := if r.kind = 1 ∧ (r.window = 1 ∨ r.window = 2) ∧ q ≠ 0 then s.applyRec q r else s
  let s := if feed then s.serve q (.feed r.jsn) else s
  if r.kind = 3 then s.takeSeal (parseSeal r.payload)
  else { s with dpx := { s.dpx with since := s.dpx.since ++ [r] } }

/-- Apply a mirrored register write (R371): SHARE, WOQ, XTQ and PARK are applied, with a CHANGE record of WRITER 0; others
are stored. -/
def State.mirrorReg (s : State) (a : Nat) (v : Word) : State :=
  let o := a % 0x1000
  if 0x300000 ≤ a ∧ a < 0x33F000 ∧ (o = 0x18 ∨ o = 0x20 ∨ o = 0x28 ∨ o = 0x30) then
    let before := s.peek a
    (s.wr a v).changeRec (changeBytes a before v v .steward false false 0xFF)
  else { s with dpx := { s.dpx with shadow := s.dpx.shadow.set a v } }

/-- Write a mirrored Exchange Table entry. -/
def State.putXt (s : State) (x : Nat) (e : XtEnt) : State :=
  { s with xchg := { s.xchg with table := if e.state = XtSt.free then s.xchg.table.del x else s.xchg.table.set x e } }

/-- Install a mirrored key change under its handle (R260). -/
def State.putKey (s : State) (dom idx : Nat) (r : Option VRec) : State :=
  let k := vKey dom idx
  match r with
  | some r => { s with cry := { s.cry with vault := s.cry.vault.set k r, gens := s.cry.gens.set k (r.gen + 1) } }
  | none => { s with cry := { s.cry with vault := s.cry.vault.del k } }

/-- Write a snapshot in place (R382). -/
def State.putSnap (s : State) (c : Snap) : State :=
  let s := s.wf (aDpx 0x40) 39 0 (s.rf (aDpx 0x40) 39 0 + itemLen (.snapshot c))
  match c with
  | .vault d i r => s.putKey d i (some r)
  | .partReg a v => s.mirrorReg a v
  | .workOrder i e => s.putWo i e
  | .exchange x e => s.putXt x e
  | .hostWin k w => { s with host := { s.host with wins := s.host.wins.set k w } }
  | .peerWin q w =>
    if (s.pwin q w.domain w.source).isSome then s.setPwin q w
    else { s with xchg := { s.xchg with pwins := s.xchg.pwins.set q (s.xchg.pwins.get [] q ++ [w]) } }
  | .anchor k => s.takeSeal k

/-- SNAPSHOT_END is applied: the standby's mirror is whole (R382). -/
def State.snapEnd (s : State) : State :=
  let s := ((s.wb (aDpx 0x40) 40 false).wb (aDpx 0x10) 6 false).raise 197 2
  ({ s with dpx := { s.dpx with resynced := true } }).checkFormed

/-- Apply one VL3 item's content. -/
def State.applyBody (s : State) (b : CBody) : State :=
  match b with
  | .journal r => s.mirrorRec r
  | .workOrder i e => s.putWo i e
  | .exchange x e => s.putXt x e
  | .partWrite a v => s.mirrorReg a v
  | .vault d i r => s.putKey d i r
  | .snapshot c => s.putSnap c
  | .snapshotEnd => s.snapEnd
  | .migrate m => s.migItem m
  | _ => s

/-- A JOURNAL item waits while the ring has no room for it (R372). -/
def State.itemFits (s : State) (b : CBody) : Bool :=
  match b with
  | .journal r => decide (s.ringUsed + recBlocks r ≤ 524288)
  | _ => true

/-- Apply the items ahead that have become contiguous, in MSN order (R370). -/
def State.drainItems : Nat → State → State
  | 0, s => s
  | f + 1, s =>
    let n := (s.rd (aDpx 0x30)).toNat
    match s.dpx.ahead.find? fun i => i.msn = n with
    | none => s
    | some i =>
      if s.itemFits i.body then
        let s := { s with dpx := { s.dpx with ahead := s.dpx.ahead.filter fun k => k.msn ≠ n } }
        let s := (s.wr (aDpx 0x30) (BitVec.ofNat 64 (n + 1))).wr (aDpx 0x38) (BitVec.ofNat 64 (n + 1))
        State.drainItems f (s.applyBody i.body)
      else s

/-- Apply what can be applied, and send MSN_APPLIED if it has advanced (R369, R370). -/
def State.drainAhead (s : State) : State :=
  let n := s.rd (aDpx 0x30)
  let s := State.drainItems s.dpx.ahead.length s
  if s.rd (aDpx 0x30) = n then s else s.vl0Any (.mirrorAck (s.rd (aDpx 0x38)).toNat)

/-- The standby takes a VL3 item (R370): one already applied is discarded; items are applied strictly in MSN order, and
each advance of MSN_APPLIED is sent. -/
def State.takeItem (s : State) (i : CItem) : State :=
  let n := (s.rd (aDpx 0x30)).toNat
  if !(s.dpxState = 3 ∨ (s.dpxState = 1 ∧ s.dpx.role = some false)) ∨ i.msn < n then s
  else
    State.drainAhead { s with dpx := { s.dpx with ahead := i :: s.dpx.ahead.filter fun k => k.msn ≠ i.msn } }

/-! ## Arrival of Courier frames -/

/-- The recorded peer identity of a lane is the partner's (R376). -/
def State.fromPartner (s : State) (l : Nat) : Bool :=
  s.rd (aLink l 0x10) == s.rd (aDpx 0x18) && s.rd (aLink l 0x18) == s.rd (aDpx 0x20)

/-- A Courier DATA frame with an item of KIND `kind` arrives on lane j: what the link layer does with it, then `f`. -/
def State.courierRx (s : State) (j kind : Nat) (fr : Frame) (f : State → CItem → State) : State :=
  match fr.body with
  | .item i => if itemKind i.body = kind then s.rxData (256 + j) fr 0 fun s => some (f s i) else s
  | .bytes _ => s

/-- HELLO. -/
def State.opHello (j : Nat) (fr : Frame) (s : State) : State :=
  s.courierRx j 0x10 fr fun s i => match i.body with
    | .hello h => s.hello h i.tgen.toNat
    | _ => s

/-- The rows of a VL3 item that the standby applies. -/
def State.opItem (kind j : Nat) (fr : Frame) (s : State) : State :=
  s.courierRx j kind fr fun s i => (s.seeTgen i.tgen.toNat).takeItem i

/-- MIGRATE_RSP: the answer reaches its source, which acts on it by EXPORT_CONFIRMED (R249). -/
def State.opMigrateRsp (j : Nat) (fr : Frame) (s : State) : State :=
  s.courierRx j 9 fr fun s i => s.seeTgen i.tgen.toNat

/-! ## Loss, self-fence and promotion (R367, R377–R381) -/

/-- Enter RELEASED once MSN_APPLIED covers every item (R383). -/
def State.checkHandover (s : State) : State :=
  if s.dpx.handover ∧ s.dpxState = 2 ∧ s.dpx.held = [] then
    (s.goodbye 3).dpxGo 7 |> fun s => { s with dpx := { s.dpx with handover := false } }
  else s

/-- MSN_APPLIED of the partner covers items below `n` (R370, R347). -/
def State.mirrorAcked (s : State) (n : Nat) : State :=
  if !(s.dpxState = 2 ∨ (s.dpxState = 1 ∧ s.dpx.role = some true)) ∨ n ≤ (s.rd (aDpx 0x38)).toNat
      ∨ (s.rd (aDpx 0x30)).toNat < n then s
  else
    let s := s.wr (aDpx 0x38) (BitVec.ofNat 64 n)
    let cover (m : Option Nat) : Bool := match m with
      | some k => decide (k < n)
      | none => false
    let late := s.jrn.ring.filter fun e => cover e.msn && !e.mirrored && decide (1600 < (s.time - e.r.stamp).toNat)
    let s := late.foldl (fun s _ => s.raise 102 0) s
    let ring := s.jrn.ring.map fun (e : JEnt) => if cover e.msn then { e with mirrored := true } else e
    let s := { s with jrn := { s.jrn with ring := ring }
                      dpx := { s.dpx with held := s.dpx.held.filter fun i => n ≤ i.msn } }
    let s := if !s.dpx.resynced && cover s.dpx.endMsn then
        let s := (s.wb (aDpx 0x40) 40 false).raise 197 2
        ({ s with dpx := { s.dpx with resynced := true } }).checkFormed
      else s
    s.ackAll.freeJournal.checkHandover

/-- MIRROR_ACK. -/
def State.opMirrorAck (j : Nat) (fr : Frame) (s : State) : State :=
  s.courierRx j 0x12 fr fun s i => match i.body with
    | .mirrorAck n => (s.seeTgen i.tgen.toNat).mirrorAcked n
    | _ => s

/-- The partner is gone or unheard: its items are dropped and what waited for it is acknowledged with SOLO. -/
def State.alone (s : State) (st : Nat) : State :=
  let s := ({ s with dpx := { s.dpx with held := [], endMsn := none } }).dpxGo st
  s.ackAll.freeJournal

/-- Inbound entries are freed and open outbound exchanges re-driven with their Receipt and XID (R378 steps 4 and 5). -/
def State.promoteXts (s : State) : State :=
  let xs := s.xchg.table
  let s := (xs.filter fun t => t.2.inbound).foldl (fun s t => s.putXt t.1 {}) s
  let out := xs.filter fun t => !t.2.inbound
  let s := out.foldl (fun s t => s.putXt t.1 { t.2 with restored := true, interim := false, outcome := none }) s
  out.foldl (fun s t =>
    if t.2.attachedTo = none ∧ t.2.state ≠ .cancelling then s.xRedrive t.1 else s) s

/-- Enter PROMOTING: steps 1 to 5 of R378. A migration under way is abandoned (R250), pending components are discarded
(R276). -/
def State.promote (s : State) (reason : Nat) : State :=
  let s := (s.dpxGo 6).raise 198 1
  let s := { s with dpx := { s.dpx with ahead := [], announced := reason }, cry := { s.cry with combos := [] } }
  let late := (s.dpx.mirror.filter fun e => !e.applied).map (·.r)
  let s := (List.range 63).foldl (fun s q => s.applyRecs (q + 1) late) s
  let m := s.dpx.mirror.map fun (e : MEnt) => { e with applied := true }
  let s := { s with dpx := { s.dpx with mirror := m } }
  let s := ((List.range 63).filter fun q => s.partState (q + 1) == 6).foldl (fun s q => s.destroy (q + 1)) s
  s.promoteWos.promoteXts

/-- The standby loses its partner: it promotes, or holds with MIRROR_BROKEN and STALE_PROMOTE clear (R367). -/
def State.standbyLost (s : State) (reason : Nat) : State :=
  if s.rb (aDpx 0x10) 6 && !s.rb (aDpx 0) 1 then s.dpxGo 5 else s.promote reason

/-- A GOODBYE of the partner (R367, R376). -/
def State.goodbyeRx (s : State) (reason : Nat) : State :=
  let s := (s.wf (aDpx 0x10) 15 12 reason).raise 198 2
  if s.dpxState = 2 then s.alone 0
  else if s.dpxState = 3 then s.standbyLost reason
  else if s.dpxState = 1 ∧ s.dpx.role = some false then s.dpxGo 5
  else s

/-- GOODBYE on a Courier lane. -/
def State.opGoodbye (j : Nat) (fr : Frame) (s : State) : State :=
  s.courierRx j 0x13 fr fun s i => match i.body with
    | .goodbye r => if s.fromPartner (256 + j) then (s.seeTgen i.tgen.toNat).goodbyeRx r else s
    | _ => s

/-- Ticks since a moment. -/
def State.since (s : State) (t : Word) : Nat := (s.time - t).toNat

/-- The Courier path falls silent. -/
def State.courierSilent (s : State) : State :=
  if s.rb (aDpx 0x10) 4 then (s.wb (aDpx 0x10) 4 false).raise 194 0 else s

/-- The sideband path falls silent. -/
def State.sideSilent (s : State) : State :=
  if s.rb (aDpx 0x10) 5 then (s.wb (aDpx 0x10) 5 false).raise 195 0 else s

/-- PATH_SILENT: one path has been silent for 100 µs while the other is heard (R367). -/
def State.opPathSilent (courier : Bool) (s : State) : State :=
  let c := s.since s.dpx.courierAt
  let d := s.since s.dpx.sideAt
  let (mine, other) := if courier then (c, d) else (d, c)
  if mine < 40000 ∨ 40000 ≤ other then s
  else
    let s := if courier then s.courierSilent else s.sideSilent
    if s.dpxState ≠ 2 ∧ s.dpxState ≠ 3 then s
    else
      let s := s.wb (aDpx 0x10) 3 true
      if !courier then (if s.dpxState = 2 then s.ackAll.freeJournal else s)
      else if s.dpxState = 2 then
        let s := if s.dpx.dropped then s else s.raise 197 0
        let s := { s with dpx := { s.dpx with held := [], dropped := true } }
        s.ackAll.freeJournal
      else
        let s := s.wb (aDpx 0x10) 6 true
        { s with dpx := { s.dpx with ahead := [] } }

/-- PATHS_HEARD: both paths are heard again: DEGRADED clears, and a mirror that lost items forms again with its roles
(R367). -/
def State.opPathsHeard (s : State) : State :=
  if (s.dpxState = 2 ∨ s.dpxState = 3) ∧ s.rb (aDpx 0x10) 3 ∧ s.rb (aDpx 0x10) 4 ∧ s.rb (aDpx 0x10) 5 then
    let s := s.wb (aDpx 0x10) 3 false
    if (s.dpxState = 2 ∧ s.dpx.dropped) ∨ (s.dpxState = 3 ∧ s.rb (aDpx 0x10) 6) then s.enterForming true
    else s.ackAll.freeJournal
  else s

/-- COMMIT and OUTCOME records that are staged and not acknowledged. -/
def unacked (ring : List JEnt) : List JEnt := ring.filter fun e => (e.r.kind == 1 || e.r.kind == 2) && !e.acked && !e.never

/-- The active fences itself: the first and the last unacknowledged entry go to DPX_FENCE_FIRST and DPX_FENCE_LAST
(R367, R377). -/
def State.selfFence (s : State) : State :=
  let un := unacked s.jrn.ring
  let s := match un.head?, un.getLast? with
    | some a, some z => (s.wr (aDpx 0x48) a.r.jsn).wr (aDpx 0x50) z.r.jsn
    | _, _ => s
  ((s.neverAck).dpxGo 4).raise 198 0

/-- SELF_FENCE: the active hears neither path for 60 µs (R367, R377). -/
def State.opSelfFence (s : State) : State :=
  if s.dpxState ≠ 2 ∨ s.since s.dpx.courierAt < 24000 ∨ s.since s.dpx.sideAt < 24000 then s else s.selfFence

/-- PARTNER_LOSS: neither path heard for 100 µs, by a standby or in FORMING (R367). -/
def State.opPartnerLoss (s : State) : State :=
  if s.since s.dpx.courierAt < 40000 ∨ s.since s.dpx.sideAt < 40000 then s
  else if s.dpxState = 3 then s.courierSilent.sideSilent.standbyLost 0
  else if s.dpxState = 1 then
    match s.dpx.role with
    | some true => s.courierSilent.sideSilent.alone 0
    | some false => s.courierSilent.sideSilent.dpxGo 5
    | none => s
  else s

/-- The takeover seal (R379). -/
def State.takeoverSeal (s : State) : Seal × State :=
  let last := (s.dpx.partnerSeals.find? fun k => k.ident == s.partnerId).getD {}
  let recs := s.dpx.since
  let top := recs.foldl (fun m r => max m r.stamp.toNat) 0
  let rr := recs.filter fun r => r.kind = 1 ∨ r.kind = 2
  let cc := recs.filter fun r => r.kind = 4
  s.signSeal
    { ident := s.partnerId, epoch := last.epoch + 1, start := last.stop, stop := BitVec.ofNat 64 (top + 1)
      records := BitVec.ofNat 64 rr.length, changes := BitVec.ofNat 64 cc.length
      racc := rr.foldl accumulate last.racc, cacc := cc.foldl accumulate last.cacc
      prev := sha384 (sealBytes last), kcv := (s.cry.vault.get {} ledgerKey).kcv
      lastJsn := match recs.getLast? with
        | some r => r.jsn
        | none => 0xFFFFFFFFFFFFFFFF }

/-- TAKEOVER is signalled (R381). -/
def State.takeover (s : State) : State :=
  let vec := s.rf (aDpx 0) 15 8
  let s := [0, 1].foldl (fun s p =>
    let s := s.sendMsix p 0 vec
    (List.range 63).foldl (fun s v => if s.vfPart p (v + 1) = 0 then s else s.sendMsix p (v + 1) 14) s) s
  { s with host := { s.host with takeovers := satInc s.host.takeovers 0xFFFF } }

/-- PROMOTION_COMPLETE: the takeover seal, unless GOODBYE with reason 2 announced the loss; admission opens; TGEN + 1;
SINGLE; TAKEOVER; the mirrored records that DESTAGED did not cover are this module's to destage (R378 steps 6 and 7, R379,
R381). -/
def State.opPromotionComplete (s : State) : State :=
  if s.dpxState ≠ 6 then s
  else
    let s := if s.dpx.announced = 2 then s
      else
        let (k, s) := s.takeoverSeal
        let s := s.stage { r := { kind := 3, payload := sealBytes k }, acked := true }
        { s with dpx := { s.dpx with partnerSeals := k :: s.dpx.partnerSeals } }
    let top := s.dpx.partnerDestaged
    let s := { s with dpx := { s.dpx with adopt := some (if top = 0 then 0 else top + 1) } }
    let s := s.wf (aDpx 0x10) 63 32 (s.tgen + 1)
    let s := ({ s with dpx := { s.dpx with role := none, since := [], announced := 0 } }).dpxGo 0
    s.tryOpen.takeover

/-! ## Heartbeats (R374–R376) -/

/-- The HEARTBEAT payload sent on a lane (R373, R374). -/
def State.beatFor (s : State) (l : Nat) : Beat :=
  let echo := (s.link.get {} l).beat
  { tSend := s.time
    tEcho := match echo with | some (t, _) => t | none => 0
    tHold := match echo with | some (_, r) => s.time - r | none => 0
    state := s.dpxState, holds := s.holdsNow, broken := s.rb (aDpx 0x10) 6, sideHeard := s.rb (aDpx 0x10) 5
    degraded := s.rb (aDpx 0x10) 3, msnApplied := (s.rd (aDpx 0x38)).toNat, destaged := s.rd (aJrn 0x18)
    epoch := s.rd (aJrn 0x110) }

/-- HEARTBEAT_TIMER: while LANTERN toggles, on the lowest-numbered ACTIVE lane of each Courier link. -/
def State.opHeartbeatTimer (s : State) : State :=
  if s.lanternStopped ∨ !s.pwr.powered then s
  else
    let n := s.dpx.hbSeq + 1
    let s := { s with dpx := { s.dpx with hbSeq := n } }
    let first (b : Nat) : Option Nat := ([0, 1, 2, 3].map (256 + b + ·)).find? s.linkActive
    [0, 4].foldl (fun s b => match first b with
      | some l => s.vl0Item l (BitVec.ofNat 64 n) (.heartbeat (s.beatFor l))
      | none => s) s

/-- SIDEBAND_TIMER: a heartbeat word while SIDEBAND_EN is set. -/
def State.opSidebandTimer (s : State) : State :=
  if s.lanternStopped ∨ !s.pwr.powered ∨ !s.rb (aDpx 0) 2 then s
  else s.emitPin (.sideband (sideWord 0x48 s.dpxState 0 (s.dpx.hbSeq % 65536) (s.fuse.ident.toNat % 2 ^ 32)))

/-- What a heartbeat of the partner changes in FENCED and HOLD (R367). -/
def State.partnerHeard (s : State) (st tgen : Nat) : State :=
  if s.dpxState = 4 then
    if s.tgen < tgen then (if s.rb (aDpx 0x10) 7 then s else (s.wb (aDpx 0x10) 7 true).raise 198 4)
    else if s.rb (aDpx 0x10) 7 ∨ st ≠ 3 ∨ tgen ≠ s.tgen then s
    else if s.dpx.dropped then s.enterForming true else s.dpxGo 2
  else if s.dpxState = 5 then
    if s.dpx.resynced && !s.rb (aDpx 0x10) 6 then s.dpxGo 3 else s.enterForming true
  else s

/-- HEARTBEAT: heard, with its offset measured, MSN_APPLIED and DESTAGED taken. -/
def State.heartbeat (s : State) (l : Nat) (b : Beat) (tgen : Nat) : State :=
  if !s.fromPartner l then s
  else
    let s := { s with link := s.link.upd {} l fun k => { k with beat := some (b.tSend, s.time) }
                      dpx := { s.dpx with courierAt := s.time } }
    let s := if s.rb (aDpx 0x10) 4 then s else (s.wb (aDpx 0x10) 4 true).raise 194 1
    let s := (s.partnerHeard b.state tgen).adoptTgen tgen
    let s := s.measure b
    let s := s.mirrorAcked b.msnApplied
    if s.dpxState = 3 ∨ (s.dpxState = 1 ∧ s.dpx.role = some false) then
      ({ s with dpx := { s.dpx with partnerDestaged := b.destaged } }).freeMirror.drainAhead
    else s

/-- HEARTBEAT on a Courier lane. -/
def State.opHeartbeat (j : Nat) (fr : Frame) (s : State) : State :=
  s.courierRx j 0x11 fr fun s i => match i.body with
    | .heartbeat b => s.heartbeat (256 + j) b i.tgen.toNat
    | _ => s

/-- SIDEBAND_WORD: checked, and heard when it is the partner's (R375, R376). -/
def State.opSidebandWord (chars : BitVec 72) (s : State) : State :=
  let b := leBytes 9 chars.toNat
  if crc8 (b.take 8) ≠ b.getD 8 0 then s.raise 195 2
  else if ofLe (slice b 4 4) ≠ s.partnerId.toNat % 2 ^ 32 then s
  else if b.getD 0 0 = 0x48 then
    let s := { s with dpx := { s.dpx with sideAt := s.time } }
    if s.rb (aDpx 0x10) 5 then s else (s.wb (aDpx 0x10) 5 true).raise 195 1
  else if b.getD 0 0 = 0x47 then s.goodbyeRx ((b.getD 1 0).toNat / 16)
  else s

/-! ## Mailboxes of the partner (R241, R243) -/

/-- MAILBOX: the partner's message. -/
def State.opMailbox (j : Nat) (fr : Frame) (s : State) : State :=
  s.courierRx j 0x14 fr fun s i => match i.body with
    | .mailbox ws n =>
      let b := s.mb .partnerIn
      if b.state = .posted then s.setMb .partnerIn { b with ignored := satInc b.ignored 0xFFFF }
      else if 1 ≤ n ∧ n ≤ 64 then
        let b := { b with msg := mbTable ws, len := n, state := .posted }
        (s.setMb .partnerIn b).mbNotify .partnerIn b
      else s
    | _ => s

/-- MAILBOX_ACK: the partner's acknowledgement, with its reply. -/
def State.opMailboxAck (j : Nat) (fr : Frame) (s : State) : State :=
  s.courierRx j 0x15 fr fun s i => match i.body with
    | .mailboxAck st de ws =>
      let b := s.mb .partnerOut
      if b.state = .posted then
        let b := { b with msg := mbTable ws, ackStatus := st, ackDetail := de, state := .done }
        (s.setMb .partnerOut b).mbNotice .partnerOut b
      else s
    | _ => s

/-! ## DPX_CTL -/

/-- CONFIRM_ALONE (R367, R383, R384, R438). -/
def State.confirmAlone (s : State) : State :=
  if s.dpxState = 4 ∧ !s.rb (aDpx 0x10) 7 then s.alone 0
  else if s.dpxState = 5 then s.promote 0
  else if s.dpxState = 1 then
    let s := s.alone 0
    ({ s with dpx := { s.dpx with confirmed := true } }).tryOpen
  else if s.dpxState = 0 ∧ s.boot.held then ({ s with dpx := { s.dpx with confirmed := true } }).tryOpen
  else s

/-- HANDOVER (R383). -/
def State.handover (s : State) : State :=
  if s.dpxState = 2 then ({ s with dpx := { s.dpx with handover := true } }).checkHandover else s

/-- A write of DPX_CTL. -/
def State.dpxCtl (s : State) (v : Word) (be : Byte) : State :=
  let s := if wrote1 v be 0 then s.confirmAlone else s
  if wrote1 v be 1 then s.handover else s

/-- CONFIRM_ALONE and HANDOVER: a management write of DPX_CTL. -/
def State.opDpxCtl (w : Writer) (v : Word) (be : Byte) (s : State) : State :=
  s.mgmt w (aDpx 8) v be fun s => s.dpxCtl v be

end Sys2Proof.Machine
end

