-- ==== Sys2Proof/Machine/PowerOps.lean ====
section
/-!
DEFINITION. Power, stored energy, removal, Hibernate and thermal control (18_power_hotplug.md), and what each reset scope
keeps (R427).
-/
namespace Sys2Proof.Machine

/-! ## HOLDUP (R410–R413) -/

/-- Integer square root by bits, `n` bits of result. -/
def isqrtBits (v : Nat) : Nat → Nat → Nat
  | 0, r => r
  | n + 1, r =>
    let t := r + 2 ^ n
    isqrtBits v n (if t * t ≤ v then t else r)

/-- Set PWR_STATUS.HOLDUP. -/
def State.holdupGo (s : State) (v : Nat) : State := s.wf (aClk 0x800) 4 3 v

/-- PWR_STATUS.HOLDUP. -/
def State.holdup (s : State) : Nat := s.rf (aClk 0x800) 4 3

/-- A capacitance of HOLDUP in microfarad that charging accepts (R410). -/
def capOk (c : Nat) : Bool := 2000 ≤ c && c ≤ 6000

/-- Charge to TARGET = min(54.0 V, √(13.8 J / C)) in millivolt (R410 step 3). -/
def State.chargeTo (s : State) (c : Nat) : State :=
  ((s.wf (aClk 0x820) 47 32 (min 54000 (isqrtBits (13800000000000 / max c 1) 18 0))).holdupGo 1)

/-- Charging begins with HOLDUP at `mv` (R410 step 1): a measurement, the kept capacitance, or the bleeder first. -/
def State.chargeStart (s : State) (mv : Nat) : State :=
  let s := s.wf (aClk 0x820) 15 0 mv
  let cap := s.rf (aClk 0x820) 31 16
  if mv < 10000 then ({ s with pwr := { s.pwr with measuring := true, bleeder := false } }).holdupGo 1
  else if capOk cap then ({ s with pwr := { s.pwr with measuring := false, bleeder := false } }).chargeTo cap
  else ({ s with pwr := { s.pwr with measuring := false, bleeder := true } }).holdupGo 0

/-- The charger is disabled (R410 step 2, R412). -/
def State.holdupOff (s : State) (ev : Nat) : State :=
  let s := ({ s with pwr := { s.pwr with measuring := false } }).holdupGo 3
  (s.wb (aClk 0x800) 5 false).raise 217 ev

/-- VAUX_GOOD (R414): the retention domain runs and REMOVE_OK is held low. -/
def State.opVauxGood (s : State) : State :=
  if s.rb (aClk 0x800) 0 then s else (s.wb (aClk 0x800) 0 true).emitPin (.pin "REMOVE_OK" false)

/-- VIN_GOOD (R413, R414): VIN has been at least 40 V for 10 ms with VAUX good; the bleeder is off. -/
def State.opVinGood (s : State) : State :=
  if !s.rb (aClk 0x800) 0 then s
  else ({ s with pwr := { s.pwr with bleeder := s.pwr.bleeder && s.rb (aClk 0x800) 2 } }).wb (aClk 0x800) 1 true

/-- SOFTSTART_DONE (R408, R410): power good; HOLDUP charging begins from `mv`. -/
def State.opSoftstart (mv : Nat) (s : State) : State :=
  if !s.rb (aClk 0x800) 0 ∨ !s.rb (aClk 0x800) 1 ∨ s.rb (aClk 0x800) 2 then s
  else (s.wb (aClk 0x800) 2 true).chargeStart mv

/-- HOLDUP_MEASURED (R410): HOLDUP has risen from 10 V to 30 V in `ticks`. -/
def State.opHoldupMeasured (ticks : Nat) (s : State) : State :=
  if !s.pwr.measuring ∨ s.holdup ≠ 1 then s
  else
    let c := min 65535 (ticks * 3 / 16000)
    let s := (s.wf (aClk 0x820) 31 16 c).wf (aClk 0x820) 15 0 30000
    let s := { s with pwr := { s.pwr with measuring := false } }
    if capOk c then s.chargeTo c else s.holdupOff 1

/-- HIB_READY (R410, R411): HOLDUP reaches 45.0 V; admission that waited for it opens. -/
def State.opHibReady (s : State) : State :=
  if s.pwr.measuring ∨ s.holdup ≠ 1 ∨ s.hibernating ∨ s.rf (aClk 0x820) 47 32 < 45000 then s
  else ((s.wb (aClk 0x800) 5 true).wf (aClk 0x820) 15 0 45000).tryOpen

/-- HOLDUP_TARGET (R410): HOLDUP is held at its target. -/
def State.opHoldupTarget (s : State) : State :=
  if s.pwr.measuring ∨ s.holdup ≠ 1 ∨ !s.rb (aClk 0x800) 5 then s
  else (s.holdupGo 2).wf (aClk 0x820) 15 0 (s.rf (aClk 0x820) 47 32)

/-- HOLDUP_LOW (R410): HOLDUP falls below 45.0 V while VIN is good and no Hibernate runs. -/
def State.opHoldupLow (mv : Nat) (s : State) : State :=
  if !s.rb (aClk 0x800) 5 ∨ !s.rb (aClk 0x800) 1 ∨ s.hibernating ∨ 45000 ≤ mv then s
  else
    let s := (s.wb (aClk 0x800) 5 false).wf (aClk 0x820) 15 0 mv
    (if s.holdup = 2 then s.holdupGo 1 else s).raise 217 1

/-- HOLDUP_SHORT (R412): the charger is switched off and HIB_READY cleared. -/
def State.opHoldupShort (s : State) : State :=
  if (s.holdup ≠ 1 ∧ s.holdup ≠ 2) ∨ s.hibernating then s else s.holdupOff 0

/-- HOLDUP_BLEED_DONE (R410 step 1): HOLDUP is below 10 V, at a value that is a reading (log entry 1), and the measurement
begins. -/
def State.opBleedDone (s : State) : State :=
  if !s.pwr.bleeder ∨ !s.rb (aClk 0x800) 1 ∨ !s.rb (aClk 0x800) 2 then s
  else
    let (v, s) := s.draw
    s.chargeStart (v.toNat % 10000)

/-! ## What survives (R427) -/

/-- A Key Vault record as its backup brings it back (R260, R261): none for a VOLATILE key or one whose creation is not
durable; a destruction that has not begun to be made durable is undone. -/
def backupRec (changes : List VChange) (k : Nat) (r : VRec) : Option VRec :=
  if isVolatile r || changes.any (fun c => vKey c.dom c.index == k && c.rec_.isSome) then none
  else some { r with destroying := false }

/-- The journal as the Strongroom keeps it: records written, none of which is still to be acknowledged, with the seals, the
change-stream ring and the destage position. Records that no seal covers are hashed anew. -/
def keepJrn (j : JrnSt) : JrnSt :=
  let stop : Word := match j.seals with
    | k :: _ => k.stop
    | [] => 0
  let acc (f : Seal → Bytes) : Bytes := match j.seals with
    | k :: _ => f k
    | [] => List.replicate 48 0
  { ring := (j.ring.filter (·.written)).map fun e =>
      { e with acked := true, ack := none, xent := none, msn := none, sealDue := none
               hashed := decide (e.r.stamp.toNat < stop.toNat) }
    batch := j.batch, sent := j.sent, batchNo := j.batchNo, seals := j.seals, changeRing := j.changeRing
    racc := acc fun k => k.racc, cacc := acc fun k => k.cacc
    remapped := j.remapped, sealedTo := j.sealedTo }

/-- Registers that a reset keeps: JRN_JSN, JRN_DESTAGED, RST_CAUSE, PWR_STATUS, PWR_HOLDUP, PWR_HIB and DPX_STATUS.TGEN, and
after a module reset FLT_STATUS, FLT_COUNT.TOTAL and FLT_LAST (R400). -/
def keepRegs (flt : Bool) (regs : Tbl Word) : Tbl Word :=
  regs.filterMap fun t =>
    let a := t.1
    if a = aJrn 0x10 ∨ a = aJrn 0x18 ∨ a = aClk 0x408 ∨ a = aClk 0x800 ∨ a = aClk 0x820 ∨ a = aClk 0x850 then some t
    else if a = aDpx 0x10 then some (a, maskOf 63 32 &&& t.2)
    else if flt ∧ 0x200000 ≤ a ∧ a < 0x204000 then
      let i := (a - 0x200000) / 0x40
      let o := a % 0x40
      if o = 0 ∨ o = 0x30 then some t
      else if o = 0x18 then some (a, (maskOf 63 32 &&& t.2) ||| BitVec.ofNat 64 (fltThresh i * 256))
      else none
    else none

/-- The block with everything at its reset value but what survives: fuses, the Strongroom's contents, the kept registers
(R427), and what has left the block and what waits in its queue. -/
def State.keep (s : State) (flt : Bool) : State :=
  { pending := s.pending, out := s.out, free := s.free, fuse := s.fuse, now := s.now, nowStage := s.nowStage
    regs := keepRegs flt s.regs
    cry := { vault := s.cry.vault.filterMap fun t => (backupRec s.cry.changes t.1 t.2).map fun r => (t.1, r)
             gens := s.cry.gens }
    jrn := keepJrn s.jrn
    flt := { log := s.flt.log }
    dpx := { mirror := s.dpx.mirror.map fun e => { e with fed := true }, partnerSeals := s.dpx.partnerSeals
             since := s.dpx.since, partnerDestaged := s.dpx.partnerDestaged, adopt := s.dpx.adopt }
    pwr := { powered := s.pwr.powered, measuring := s.pwr.measuring, bleeder := s.pwr.bleeder, phase := s.pwr.phase
             cause := s.pwr.cause, stopTick := s.pwr.stopTick, surprise := s.pwr.surprise, slotA := s.pwr.slotA
             slotB := s.pwr.slotB, hibSeq := s.pwr.hibSeq }
    boot := { bankA := s.boot.bankA, bankB := s.boot.bankB, patch := s.boot.patch, saved := s.boot.saved
              savedParts := s.boot.savedParts }
    pin := { s.pin with pinsHeld := false } }

/-- Power leaves the module: what the Strongroom and the retention domain hold stays. HOLDUP is no longer charged, and the
bleeder comes on where VIN is below 40 V (R413). PWR_THERM stays in the retention domain, which watches the sensors, and
PWR_VIN and FLT_LANTERN stay readable there (R463). -/
def State.powerOff (s : State) : State :=
  let old := s
  let s := { s with pwr := { s.pwr with powered := false, measuring := false, bleeder := !s.rb (aClk 0x800) 1 } }
  let s := [aClk 0x818, aClk 0x828, 0x204020].foldl (fun s a => s.wr a (old.rd a)) (s.keep false)
  let s := (s.wf (aClk 0x800) 10 2 0).wf (aClk 0x820) 47 32 0
  { s with boot := { s.boot with booting := false } }

/-- Latch the straps (R429) with a reset cause and source. -/
def State.latch (s : State) (st : Straps) (cause src : Nat) : State :=
  let v := b2n st.split + 2 * b2n st.role + 4 * st.boot.toNat
  ((s.wf (aClk 0x408) 19 16 v).wf (aClk 0x408) 3 0 cause).wf (aClk 0x408) 15 8 src

/-- Power-on (R427): everything to its reset state. -/
def State.powerOn (s : State) (st : Straps) : State :=
  let s := s.keep false
  let s := (s.wf (aClk 0x800) 10 6 0).latch st 1 0
  { s with pwr := { s.pwr with powered := true, phase := .idle, cause := 0, surprise := false } }

/-- POWER_GOOD (R414, R427, R429): soft-start is done while VAUX is good, and boot has not begun. -/
def State.opPowerGood (st : Straps) (s : State) : State :=
  if !s.rb (aClk 0x800) 0 ∨ !s.rb (aClk 0x800) 2 ∨ (s.pwr.powered ∧ s.rf (aClk 0x410) 3 0 ≠ 0) then s
  else s.powerOn st

/-! ## Hibernate (R416–R423) -/

/-- The Hibernate image of the state (R421): its body is the Hub Control SRAM (R183). -/
def State.hibImage (s : State) (cause : Nat) : HibImage :=
  { cause := cause, seq := s.pwr.hibSeq + 1, stopTick := s.pwr.stopTick, nextJsn := s.rd (aJrn 0x10)
    epoch := s.rd (aJrn 0x110) - 1, nextMsn := s.rd (aDpx 0x30), tgen := BitVec.ofNat 32 s.tgen, ident := s.fuse.ident
    wasActive := s.dpxState == 0 || s.dpxState == 2 || s.dpxState == 4 || (s.dpxState == 1 && s.dpx.role != some false)
    host := s.host, parts := s.parts, cryQueues := s.cry.queues, cmpQueues := s.cmp.queues, xchg := s.xchg
    surprise := s.pwr.surprise }

/-- The slot that the next image goes to: the one not written last (R421). -/
def State.nextSlot (s : State) : Bool := !s.rb (aClk 0x850) 3

/-- The state with a slot replaced. -/
def State.setSlot (s : State) (b : Bool) (i : Option HibImage) : State :=
  if b then { s with pwr := { s.pwr with slotB := i } } else { s with pwr := { s.pwr with slotA := i } }

/-- Start an image: the target slot's marker is cleared before its header is written (R421). -/
def State.imageStart (s : State) : State :=
  let b := s.nextSlot
  s.setSlot b (clearMarker (if b then s.pwr.slotB else s.pwr.slotA))

/-- Finish an image: header, body, then the marker (R421). -/
def State.imageEnd (s : State) (cause : Nat) : State :=
  let b := s.nextSlot
  let i := { s.hibImage cause with marker := true }
  let s := s.setSlot b (some i)
  let s := (s.wb (aClk 0x850) 3 b).wb (aClk 0x850) 4 true
  { s with pwr := { s.pwr with hibSeq := i.seq } }

/-- End the epoch with SAG at this tick; a nominal boundary passed while its window is open ends its epoch first (R360). -/
def State.sagEpoch (s : State) : State :=
  if !s.jrn.running then s
  else
    let s := if s.jrn.nominal.toNat < s.time.toNat then s.nominalEnd else s
    s.endEpoch s.time s.time true false false

/-- Every staged record completes its local write and is hashed (R419 step 5). -/
def State.writeStaged (s : State) : State :=
  let ring := s.jrn.ring.map fun (e : JEnt) => { e with written := true }
  ({ s with jrn := { s.jrn with ring := ring } }).ledger

/-- The compute dies and HBM3 are off: processors, caches and memory are lost, requests and runs abandoned (R419 steps 2
and 4, R44). -/
def State.computeOff (s : State) : State :=
  { s with core := {}, coh := {}, mem := {}
           cry := { s.cry with reqs := [] }, cmp := { s.cmp with reqs := [], runs := [], unsettled := [], syncs := [] } }

/-- Steps 1 to 4 of the Hibernate sequence (R419). The SAG epoch ends where a seal will be written (R426). -/
def State.hibStart (s : State) (cause : Nat) : State :=
  let s := s.neverAck
  let s := { s with pwr := { s.pwr with phase := .stopped, cause := cause, stopTick := s.time, drain := .none } }
  let s := (if s.boot.opened then s.sagEpoch else s).wf (aClk 0x800) 9 8 0
  ((s.goodbye 2).lanternStop 2 0).computeOff

/-- A Hibernate falls due (R416, R423, R425): during a promotion it waits; with HOLDUP disabled every rail collapses
(R426). -/
def State.hibDue (s : State) (cause : Nat) : State :=
  if s.holdup = 3 then s.powerOff
  else if s.dpxState = 6 then { s with pwr := { s.pwr with phase := .waitPromote, cause := cause } }
  else s.hibStart cause

/-- A Hibernate that waited for the promotion starts (R383, R423). -/
def State.hibAfterPromotion (s : State) : State :=
  if s.pwr.phase = .waitPromote ∧ s.dpxState ≠ 6 then s.hibStart s.pwr.cause else s

/-- No sag is detected: the module is unpowered, or a Hibernate is due or runs (R426). -/
def State.noSag (s : State) : Bool := !s.pwr.powered || s.pwr.phase != .idle

/-- REMOVE_OK has been given: no sag starts a Hibernate, and the carrier may remove VIN (R415, R426). -/
def State.mayRemove (s : State) : Bool := s.rf (aClk 0x800) 9 8 == 2

/-- SAG (R416, R417): detected by kind `k`; `vauxNear` when VAUX was below 3.1 V at a tick from 1 ms before on. After
REMOVE_OK it starts no Hibernate, and with VIN gone the module powers off (R415, R426). -/
def State.opSag (k : SagKind) (vauxNear : Bool) (s : State) : State :=
  if s.noSag ∨ (k = SagKind.vaux ∧ !s.rb (aClk 0x800) 1) then s
  else
    let s := (s.wb (aClk 0x800) 10 true).raise 216 0
    let s := if k = SagKind.vin then s.wb (aClk 0x800) 1 false else s
    let s := if k = SagKind.vaux ∨ vauxNear then s.wb (aClk 0x800) 0 false else s
    if s.mayRemove then (if k = SagKind.vin then s.powerOff else s)
    else
      let s := { s with pwr := { s.pwr with surprise := decide (k = SagKind.vaux) || vauxNear } }
      s.hibDue 1

/-- PROMOTION_COMPLETE, and the Hibernate that waited for it. -/
def State.opPromotionDone (s : State) : State := s.opPromotionComplete.hibAfterPromotion

/-- Record the end of a Hibernate in PWR_HIB (18_power_hotplug.md) and power off (R419 step 8). -/
def State.hibEnd (s : State) (complete : Bool) (ticks mj : Nat) : State :=
  let s := ((s.wf (aClk 0x850) 2 0 s.pwr.cause).wb (aClk 0x850) 4 complete).wb (aClk 0x850) 5 s.pwr.surprise
  let s := (s.wf (aClk 0x850) 31 8 ticks).wf (aClk 0x850) 47 32 mj
  ({ s with pwr := { s.pwr with phase := .off } }).powerOff

/-- HIBERNATE_RECORDS_WRITTEN (R419 steps 5 and 6): before admission has ever opened the sequence ends here without an image
(R426); its length and energy are then measured values (log entry 1). -/
def State.opHibRecords (s : State) : State :=
  if s.pwr.phase ≠ .stopped then s
  else
    let s := s.writeStaged
    if s.boot.opened then { s with pwr := { s.pwr with phase := .records } }
    else
      let (t, s) := s.draw
      let (m, s) := s.draw
      s.hibEnd false (t.toNat % 2 ^ 24) (m.toNat % 2 ^ 16)

/-- HIBERNATE_SEAL_WRITTEN (R419 step 6): the SAG seal is durable; the target slot's marker is cleared. -/
def State.opHibSeal (s : State) : State :=
  if s.pwr.phase ≠ .records then s
  else
    let s := s.writeStaged.writeStaged
    ({ s with pwr := { s.pwr with phase := .sealed } }).imageStart

/-- HIBERNATE_IMAGE_WRITTEN (R419 steps 7 and 8, R421). -/
def State.opHibImage (ticks mj : Nat) (s : State) : State :=
  if s.pwr.phase ≠ .sealed then s else (s.imageEnd s.pwr.cause).hibEnd true ticks mj

/-- HOLDUP_COLLAPSE (R426): before the marker is written HOLDUP falls below 36 V. Records not yet written are lost. -/
def State.opHoldupCollapse (s : State) : State :=
  if s.pwr.phase ≠ .stopped ∧ s.pwr.phase ≠ .records ∧ s.pwr.phase ≠ .sealed then s
  else
    let (t, s) := s.draw
    let (m, s) := s.draw
    s.hibEnd false (t.toNat % 2 ^ 24) (m.toNat % 2 ^ 16)

/-- VAUX_LOW (R414, R417): counted; within a Hibernate, up to 1 ms after the detection tick, it makes the sag a surprise
removal. -/
def State.opVauxLow (s : State) : State :=
  let s := (s.wb (aClk 0x800) 0 false).raise 220 0
  if s.hibernating ∧ s.pwr.phase ≠ .off ∧ s.pwr.cause = 1 ∧ s.time.toNat ≤ s.pwr.stopTick.toNat + 400000 then
    { s with pwr := { s.pwr with surprise := true } }
  else s

/-- VIN_RETURN_RESUME (R422): after step 8 VIN has stayed at or above 40 V with SAG_N high for 100 ms; power-on starts. The
charger starts from the level that HOLDUP has kept, a reading (log entry 1). -/
def State.opVinReturn (st : Straps) (s : State) : State :=
  if s.pwr.phase ≠ .off ∨ s.pwr.cause = 2 then s
  else
    let (mv, s) := s.draw
    let s := s.powerOn st
    (s.wf (aClk 0x800) 2 0 7).chargeStart (mv.toNat % 54001)

/-! ## Removal (R415) -/

/-- Start a removal (R415 steps 1 and 2). -/
def State.removeStart (s : State) : State :=
  if s.noSag ∨ s.pwr.drain ≠ .none then s
  else
    let s := (s.wf (aClk 0x800) 9 8 1).raise 222 0
    let s := { s with pwr := { s.pwr with drain := .draining } }
    if s.dpxState = 3 then s.goodbye 3 else s.handover

/-- REMOVE_REQ: a management write of PWR_CTL. -/
def State.opRemoveReq (w : Writer) (v : Word) (be : Byte) (s : State) : State :=
  s.mgmt w (aClk 0x810) v be fun s => if wrote1 v be 0 then s.removeStart else s

/-- No commit and no outbound exchange is open (R415 step 3). -/
def State.quiet (s : State) : Bool :=
  s.jrn.commits.isEmpty && s.jrn.ring.all (fun e => e.ack.isNone || e.acked || e.never)
    && s.xchg.table.all fun t => t.2.inbound

/-- REMOVE_DRAIN_END (R415 steps 3 to 6): the work has drained, or DRAIN_MS has passed in SINGLE. -/
def State.opRemoveDrainEnd (expired : Bool) (s : State) : State :=
  if s.pwr.drain ≠ .draining ∨ s.dpxState = 2 ∨ (s.dpxState = 0 ∧ !expired ∧ !s.quiet) then s
  else
    let s := { s with pwr := { s.pwr with stopTick := s.time } }
    let s := s.sagEpoch.writeStaged.writeStaged
    let s := if s.xchg.table.isEmpty && s.host.wo.isEmpty then s
      else
        let s := (s.imageStart.imageEnd 3).wf (aClk 0x850) 2 0 3
        s.wb (aClk 0x850) 5 false
    let s := (s.wf (aClk 0x800) 9 8 2).emitPin (.pin "REMOVE_OK" true)
    ({ s with pwr := { s.pwr with drain := .done } }).raise 222 1

/-! ## Meters and sensors (R407, R416, R424–R426) -/

/-- The throttle level applied to the pairs; a rise counts THROTTLE once (R424). -/
def State.applyLevel (s : State) : State :=
  let top := s.pwr.levels.foldl (fun m t => max m t.2) s.pwr.powerLevel
  let old := s.rf (aClk 0x800) 7 6
  let s := s.wf (aClk 0x800) 7 6 top
  if old < top then s.raise 219 0 else s

/-- POWER_PERIOD (R407): the period's average and the level that the next period runs at. -/
def State.opPowerPeriod (mv ma watts : Nat) (s : State) : State :=
  if !s.pwr.powered ∨ s.hibernating then s
  else
    let peak := max watts (s.rf (aClk 0x818) 63 48)
    let s := s.wr (aClk 0x818) (BitVec.ofNat 64 (mv + ma * 2 ^ 16 + watts * 2 ^ 32 + peak * 2 ^ 48))
    let lvl := if s.rf (aClk 0x808) 9 0 < watts then 1 else 0
    ({ s with pwr := { s.pwr with powerLevel := lvl } }).applyLevel

/-- A sensor's next throttle level (R424). -/
def nextLevel (thr t : Int) (lvl : Nat) : Nat :=
  if thr + 5 ≤ t then 2
  else if thr ≤ t then (if lvl = 2 ∧ t ≤ thr + 2 then 1 else max 1 lvl)
  else if lvl = 2 then 1
  else if lvl = 1 ∧ t ≤ thr - 3 then 0
  else lvl

/-- Readings of the 32 sensors: absent clusters and reserved sensors read 0 (R3, R424). -/
def State.readings (s : State) (temps : List (BitVec 8)) : List (BitVec 8) :=
  (List.range 32).map fun i =>
    if 29 ≤ i ∨ (s.fuse.small ∧ (i = 4 ∨ i = 5 ∨ i = 10 ∨ i = 11)) then 0 else temps.getD i 0

/-- Write PWR_TEMP from the readings. -/
def State.putTemps (s : State) (ts : List (BitVec 8)) : State :=
  (List.range 4).foldl (fun s j =>
    s.wr (aClk (0x830 + 8 * j)) (BitVec.ofNat 64 (ofLe ((ts.drop (8 * j)).take 8)))) s

/-- TEMP_ALERT_N: low while any sensor reads at least ALERT_C; each assertion counts (R424). -/
def State.tempAlert (s : State) (on : Bool) : State :=
  if s.pwr.tempAlert = on then s
  else
    let s := ({ s with pwr := { s.pwr with tempAlert := on } }).emitPin (.pin "TEMP_ALERT_N" (!on))
    if on then s.raise 219 2 else s

/-- THERMAL_SAMPLE (R424, R425). -/
def State.opThermal (temps : List (BitVec 8)) (s : State) : State :=
  if !s.pwr.powered ∨ s.hibernating then s
  else
    let ts := s.readings temps
    let thr : Int := s.rf (aClk 0x828) 15 8
    let some_ (c : Nat) : Bool := ts.any fun t => decide ((c : Int) ≤ t.toInt)
    let lv : Tbl Nat := (List.range 32).foldl (fun t i =>
      t.put 0 i (nextLevel thr (ts.getD i 0).toInt (s.pwr.levels.get 0 i))) s.pwr.levels
    let s := ({ s with pwr := { s.pwr with levels := lv } }.putTemps ts).applyLevel
    let s := s.tempAlert (some_ (s.rf (aClk 0x828) 7 0))
    if some_ (s.rf (aClk 0x828) 23 16) ∧ s.pwr.phase = .idle then (s.raise 219 1).hibDue 2 else s

/-- OVERTEMP_RESUME (R425): 10 s have passed and sensors 16 to 28 read below RESUME_C. -/
def State.opOvertempResume (temps : List (BitVec 8)) (st : Straps) (s : State) : State :=
  let ts := s.readings temps
  let c : Int := s.rf (aClk 0x828) 31 24
  let cool := (List.range 13).all fun i => decide ((ts.getD (16 + i) 0).toInt < c)
  if s.pwr.phase ≠ .off ∨ s.pwr.cause ≠ 2 ∨ !cool then s
  else
    let (mv, s) := s.draw
    let s := (s.powerOn st).putTemps ts
    (s.wf (aClk 0x800) 2 0 7).chargeStart (mv.toNat % 54001)

/-- VIN_LOW (R416): VIN below 40 V for 40,000 ticks without a sag; after REMOVE_OK the module powers off (R415). -/
def State.opVinLow (s : State) : State :=
  if s.noSag then s
  else
    let s := s.wb (aClk 0x800) 1 false
    if s.mayRemove then s.powerOff else s.raise 218 1

/-- VIN_HIGH (R416): VIN above 60 V for 800 ticks. -/
def State.opVinHigh (s : State) : State := if !s.pwr.powered then s else s.raise 218 0

/-- RAIL_FAULT (R426): a rail of a compute die is switched off. -/
def State.opRailFault (die : Nat) (s : State) : State :=
  if !s.pwr.powered ∨ s.hibernating ∨ s.pwr.railOff.contains die then s
  else ({ s with pwr := { s.pwr with railOff := die :: s.pwr.railOff } }).raise 221 0

end Sys2Proof.Machine
end

