-- ==== Sys2Proof/Machine/PinOps.lean ====
section
/-!
DEFINITION. The I3C telemetry target (R462, R463) and the test access port (R464).
-/
namespace Sys2Proof.Machine

/-! ## I3C -/

/-- The target has power from VAUX and its dynamic address is `a`. -/
def State.i3cOurs (s : State) (a : BitVec 7) : Bool := s.rb (aClk 0x800) 0 && s.pin.dynAddr == some a

/-- Bytes on the bus. -/
def State.i3cSend (s : State) (b : Bytes) : State := b.foldl (fun s x => s.emit (.i3cByte x)) s

/-- The register of a telemetry index (R463). -/
def telemetryReg (i : Nat) : Option Nat :=
  match i with
  | 0x00 => some 0x000
  | 0x01 => some 0x008
  | 0x02 => some 0x010
  | 0x03 => some (aClk 0x800)
  | 0x04 => some (aClk 0x818)
  | 0x05 => some (aClk 0x820)
  | 0x06 => some (aClk 0x830)
  | 0x07 => some (aClk 0x838)
  | 0x08 => some (aClk 0x840)
  | 0x09 => some (aClk 0x848)
  | 0x0A => some (aClk 0x850)
  | 0x0B => some (aClk 0x410)
  | 0x0C => some (aDpx 0x10)
  | 0x0D => some 0x204020
  | _ => none

/-- The value of a telemetry index: the registers that need VIN read 0 without it (R463). -/
def State.telemetry (s : State) (i : Nat) : Word :=
  match telemetryReg i with
  | none => 0
  | some a => if !s.pwr.powered ∧ (6 ≤ i ∧ i ≤ 9 ∨ i = 0xB ∨ i = 0xC) then 0 else s.peek a

/-- A protocol error that the target detects (R463). -/
def State.i3cError (s : State) : State := s.raise 251 0

/-- I3C_PRIVATE_WRITE. -/
def State.opI3cWrite (a : BitVec 7) (data : Bytes) (parityOk : Bool) (s : State) : State :=
  if !s.i3cOurs a then s
  else if !parityOk then s.i3cError
  else match data with
    | [] => s
    | b :: _ => { s with pin := { s.pin with index := b.toNat } }

/-- I3C_PRIVATE_READ of `count` bytes: register after register from the telemetry index, which has then passed every
register begun. -/
def State.opI3cRead (a : BitVec 7) (count : Nat) (s : State) : State :=
  if !s.i3cOurs a then s
  else
    let n := (count + 7) / 8
    let b := (List.range n).flatMap fun k => leBytes 8 (s.telemetry ((s.pin.index + k) % 256)).toNat
    { (s.i3cSend (b.take count)) with pin := { s.pin with index := (s.pin.index + n) % 256 } }

/-- The Provisional ID, most significant byte first: manufacturer, type selector 1, module identity bits [31:0] (R462). -/
def State.pid (s : State) : Bytes :=
  (leBytes 6 (s.fuse.ident.toNat % 2 ^ 32 + 2 ^ 32 + (Config.mipiId.toNat % 2 ^ 15) * 2 ^ 33)).reverse

/-- BCR, with no controller capability and no IBI (R462). -/
def bcr : Byte := Config.i3cConst 0 &&& 0x39

/-- ENTDAA: the target, still without a dynamic address, wins the arbitration and takes `da`. -/
def State.opEntdaa (da : BitVec 7) (won : Bool) (s : State) : State :=
  if !s.rb (aClk 0x800) 0 ∨ s.pin.dynAddr ≠ none ∨ !won then s
  else { (s.i3cSend (s.pid ++ [bcr, Config.i3cConst 1])) with pin := { s.pin with dynAddr := some da } }

/-- SETDASA from static address 0x2C. -/
def State.opSetdasa (sa da : BitVec 7) (s : State) : State :=
  if !s.rb (aClk 0x800) 0 ∨ s.pin.dynAddr ≠ none ∨ sa ≠ 0x2C then s
  else { s with pin := { s.pin with dynAddr := some da } }

/-- SETNEWDA. -/
def State.opSetnewda (a da : BitVec 7) (s : State) : State :=
  if !s.i3cOurs a then s else { s with pin := { s.pin with dynAddr := some da } }

/-- RSTDAA, broadcast or directed. -/
def State.opRstdaa (a : Option (BitVec 7)) (s : State) : State :=
  let ours := match a with
    | none => s.rb (aClk 0x800) 0
    | some a => s.i3cOurs a
  if ours then { s with pin := { s.pin with dynAddr := none } } else s

/-- A directed CCC that returns bytes. -/
def State.opGet (a : BitVec 7) (b : Bytes) (s : State) : State := if s.i3cOurs a then s.i3cSend b else s

/-- GETSTATUS: two bytes, whose value at this time is a reading (log entry 1). -/
def State.opGetStatus (a : BitVec 7) (s : State) : State :=
  if s.i3cOurs a then
    let (b, s) := s.drawBytes 2
    s.i3cSend b
  else s

/-- ENEC and DISEC: accepted without effect. -/
def State.opEvents (_a : Option (BitVec 7)) (_ev : Byte) (s : State) : State := s

/-! ## Test access port -/

/-- The instruction register's contents as TapSt.tapInstr numbers them: 0 BYPASS, 1 SAMPLE/PRELOAD, 2 IDCODE, 3 EXTEST,
4 CLAMP, 5 HIGHZ. -/
def State.tapGo (s : State) (i : Nat) : State := { s with pin := { s.pin with tapInstr := i } }

/-- TAP_ACTIVE: the port departs from Test-Logic-Reset, where IDCODE is the instruction. -/
def State.opTapActive (s : State) : State :=
  if !s.rb (aClk 0x800) 0 then s
  else (({ s with pin := { s.pin with tapActive := true } }).tapGo 2).raise 252 0

/-- BYPASS. -/
def State.opBypass (s : State) : State := if s.pin.tapActive then s.tapGo 0 else s

/-- SAMPLE/PRELOAD: the levels sampled at the contacts shift out (readings, log entry 1) while `shift` is preloaded. -/
def State.opSample (shift : List Bool) (s : State) : State :=
  if !s.pin.tapActive then s
  else
    let (b, s) := s.drawBytes (shift.length)
    let s := (s.tapGo 1).emit (.tapScan (b.map fun x => x.getLsbD 0))
    { s with pin := { s.pin with boundary := shift } }

/-- IDCODE, least significant bit first: 1, manufacturer, part, stepping. -/
def State.opIdcode (s : State) : State :=
  if !s.pin.tapActive then s
  else
    let part := if s.fuse.small then 0x6432 else 0x9648
    let v : Word := BitVec.ofNat 64 (1 + Config.jtagId.toNat * 2 + part * 2 ^ 12 + (s.fuse.stepping.toNat % 16) * 2 ^ 28)
    (s.tapGo 2).emit (.tapScan ((List.range 32).map v.getLsbD))

/-- An instruction that takes the pins: LANTERN stops first, as a LANTERN_STOP reaction of source 252. -/
def State.tapTake (s : State) (i : Nat) (b : List Bool) : State :=
  let s := (s.lanternStop 0 252).tapGo i
  { s with pin := { s.pin with boundary := b, pinsHeld := true } }

/-- EXTEST: `shift` goes to the pins. -/
def State.opExtest (shift : List Bool) (s : State) : State := if s.pin.tapActive then s.tapTake 3 shift else s

/-- CLAMP. -/
def State.opClamp (s : State) : State := if s.pin.tapActive then s.tapTake 4 s.pin.boundary else s

/-- HIGHZ. -/
def State.opHighz (s : State) : State := if s.pin.tapActive then s.tapTake 5 s.pin.boundary else s

end Sys2Proof.Machine
end

