-- ==== Sys2Proof/Machine/FltOps.lean ====
section
/-!
DEFINITION. The fault logic's tables and registers (17_faults.md): the events of each source and their classes, what a
detector does besides reporting, windows, FORCE, LANTERN and the Steward watchdog.
-/
namespace Sys2Proof.Machine

/-! ## Events (R402) -/

/-- How many events a source defines (R402; R223 for the PCI Express ports). -/
def fltEvents (i : Nat) : Nat :=
  if i < 48 then 7
  else if i < 72 then 3
  else if i < 80 then 1
  else if i < 96 then 6
  else if fltReserved i then 0
  else if i = 98 then 2
  else if i < 103 then 1
  else if i = 104 then 9
  else if i < 110 then 2
  else if i < 136 then 2
  else if i = 136 then 4
  else if i = 144 then 3
  else if i < 152 then 2
  else if i < 160 then 3
  else if i < 194 then 8
  else if i = 195 ∨ i = 197 then 3
  else if i = 198 then 5
  else if i < 200 then 2
  else if i = 207 ∨ i = 215 then 0
  else if i < 217 then 1
  else if i < 219 then 2
  else if i = 219 ∨ i = 222 then 3
  else if i = 249 ∨ i = 250 then 2
  else if i = 255 then 4
  else 1

/-- The class of an event (R387). -/
inductive FltClass where
  | corrected | uncorrected | informational
deriving DecidableEq, Repr

/-- Class U events (R402). -/
def classU (i e : Nat) : Bool :=
  if i < 48 then e == 2 || e == 3 || e == 5 || e == 6
  else if i < 72 then e == 1 || e == 2
  else if i < 77 then false
  else if i < 79 then true
  else if i = 79 then false
  else if i < 96 then e == 1 || e == 3
  else if i = 97 ∨ i = 99 then true
  else if i = 98 then e == 1
  else if 104 ≤ i ∧ i ≤ 108 then e == 1
  else if 112 ≤ i ∧ i ≤ 131 then e == 1
  else if i = 132 then e == 0
  else if i = 133 then e == 1
  else if i = 134 then e == 0
  else if 144 ≤ i ∧ i ≤ 159 then e == 1
  else if 160 ≤ i ∧ i ≤ 193 then e == 5 || e == 7
  else if i = 194 ∨ i = 195 ∨ i = 197 ∨ i = 199 then e == 0
  else if i = 198 then e != 3
  else if 200 ≤ i ∧ i ≤ 215 then (i - 200) % 8 == 0 || (i - 200) % 8 == 2
  else if i = 216 ∨ i = 217 ∨ i = 220 ∨ i = 221 then true
  else if i = 218 then e == 0
  else if i = 219 then e == 1
  else if i = 222 then e == 2
  else if 224 ≤ i ∧ i ≤ 230 then true
  else if i = 233 ∨ i = 234 ∨ i = 235 ∨ i = 242 ∨ i = 245 ∨ i = 248 ∨ i = 253 ∨ i = 254 then true
  else if i = 249 then e == 1
  else false

/-- Class I events (R402). -/
def classI (i e : Nat) : Bool :=
  if i < 48 then e == 1
  else if 80 ≤ i ∧ i ≤ 95 then e == 5
  else if i = 104 then e == 3 || e == 4 || e == 6
  else if i = 109 then e == 0
  else if i = 132 ∨ i = 135 ∨ i = 194 ∨ i = 195 ∨ i = 196 then e == 1
  else if i = 136 ∨ i = 250 ∨ i = 252 then true
  else if 152 ≤ i ∧ i ≤ 159 then e == 0
  else if i = 197 then e == 1 || e == 2
  else if i = 198 then e == 3
  else if i = 219 then e == 2
  else if i = 222 then e == 0 || e == 1
  else false

/-- The class of event `e` of source `i`. -/
def fltClass (i e : Nat) : FltClass :=
  if classI i e then .informational else if classU i e then .uncorrected else .corrected

/-- Sources with a BLOCK_RESET action (R402). -/
def hasBlockReset (i : Nat) : Bool :=
  i < 48 || (112 ≤ i && i ≤ 132) || (144 ≤ i && i ≤ 193) || (232 ≤ i && i ≤ 235)

/-! ## What a detector does besides reporting (R386) -/

/-- A free line whose home is slice n: any line below 2^39 has some home, so one near a free line is taken. -/
def lineOfSlice (v n : Nat) : Nat :=
  (((List.range 64).map fun k => v % 2 ^ 35 + k).find? fun l => homeOf l == n).getD n

/-- A free set bit of CLK_STATUS falls: the reference or a PLL has lost lock (R20). -/
def State.clkLost (s : State) (i : Nat) : State := s.wb (aClk 0) i false

/-- STR_ERR for an uncorrectable read. -/
def State.strUncorrected (s : State) : State := s.strErr 1

/-- A port of an octet or a lane, in state ACTIVE. -/
def State.activeOf (s : State) (i : Nat) : List Nat :=
  let ls := if i < 192 then (List.range 8).map (8 * (i - 160) + ·) else (List.range 4).map (256 + 4 * (i - 192) + ·)
  ls.filter s.linkActive

/-- A freely chosen member of a list (log entry 1). -/
def State.pick (s : State) (l : List Nat) : Option Nat × State :=
  match l with
  | [] => (none, s)
  | _ => let (v, s) := s.draw; (l[v.toNat % l.length]?, s)

/-- A detector reports event `e` of source `i`, and its block acts as it always does on such an event (R386). An event
whose action concerns an object that no operand names concerns one freely chosen among those there are. -/
def State.detect (s : State) (i e : Nat) : State :=
  if i < 48 ∧ e = 6 then
    let (v, s) := s.draw
    s.opCohLoss (homeOf (v.toNat % 2 ^ 39)) 2 i (v.toNat % 2 ^ 39)
  else if 48 ≤ i ∧ i < 72 ∧ e = 2 then
    let (v, s) := s.draw
    s.opCohLoss (i - 48) 1 i (lineOfSlice v.toNat (i - 48))
  else if i = 77 then
    let (v, s) := s.draw
    s.opCohLoss (homeOf (v.toNat % 2 ^ 39)) 3 48 (v.toNat % 2 ^ 39)
  else if i = 78 then
    if s.coh.lost then s
    else
      let (v, s) := s.draw
      let line := v.toNat % 2 ^ 39
      ((s.cohErr (homeOf line) 4 (48 + homeOf line) line).raise 78 0).loseCoherence 78
  else if i = 97 then s.strUncorrected.raise 97 0
  else if i = 132 ∧ e = 0 then s.opEntropyFail
  else if i = 132 then
    let (v, s) := s.draw
    s.reseed (v.toNat % 4)
  else if i = 133 ∧ e = 1 then
    let (k, s) := s.pick (s.cry.vault.map (·.1))
    match k with
    | some k => s.opKvUncorrected (k / 16384) (k % 16384)
    | none => s.raise 133 1
  else if 160 ≤ i ∧ i ≤ 193 ∧ e = 0 then
    let (l, s) := s.pick (s.activeOf i)
    match l with
    | some l => s.linkLeave l 4 3
    | none => s.raise i 0
  else if 160 ≤ i ∧ i ≤ 191 ∧ e = 7 then s.opOctetPllUnlock (i - 160)
  else if i = 198 ∧ e = 0 then
    if s.dpxState = 2 then s.selfFence else s.raise 198 0
  else if i = 198 ∧ e = 1 then if s.dpxState = 3 then s.promote 0 else s.raise 198 1
  else if i = 198 ∧ e = 2 then s.goodbyeRx 0
  else if i = 198 ∧ e = 4 then (if s.dpxState = 4 then s.wb (aDpx 0x10) 7 true else s).raise 198 4
  else if i = 200 ∨ i = 208 then if s.hostUp ((i - 200) / 8) then s.opLinkDown ((i - 200) / 8) else s.raise i 0
  else if i = 216 then if s.noSag then s else s.opSag .sagN false
  else if i = 217 then if e = 0 then s.opHoldupShort else (s.wb (aClk 0x800) 5 false).raise 217 1
  else if i = 218 then if e = 0 then s.opVinHigh else if s.mayRemove then s.raise 218 1 else s.opVinLow
  else if i = 219 ∧ e = 1 then if s.pwr.phase = .idle then (s.raise 219 1).hibDue 2 else s
  else if i = 220 then s.opVauxLow
  else if i = 221 then
    let (v, s) := s.draw
    s.opRailFault (v.toNat % 2)
  else if i = 222 ∧ e = 0 then s.removeStart
  else if i = 224 then (s.clkLost 0).raise 224 0
  else if i = 225 then (s.clkLost 1).raise 225 0
  else if i = 226 ∨ i = 227 then
    let p := i - 226
    let s := (s.clkLost (2 + p)).raise i 0
    if s.hostUp p then s.opLinkDown p else s
  else if i = 228 ∨ i = 229 then s.opOctetPllUnlock (32 + (i - 228))
  else if 232 ≤ i ∧ i ≤ 235 then s.raise i e
  else if i = 242 then (s.wb (aJrn 0x108) 1 true).raise 242 0
  else s.raise i e

/-- The sources that report nothing now: reserved and absent ones, and those of blocks without power (R401, R403). -/
def State.fltSilent (s : State) (i : Nat) : Bool :=
  fltReserved i || s.fltAbsent i
    || (!s.pwr.powered && !(i == 220 || i == 251 || i == 252 || i == 222))
    || (s.hibernating && (i < 96 || (112 ≤ i && i ≤ 131) || (144 ≤ i && i ≤ 159)))

/-- A word of a line of pair p's L2, or of slice n's L3, is uncorrectable and becomes POISON (R173); which word is a free
value. -/
def State.l2Poison (s : State) (p : Nat) : State :=
  let l := s.l2 p
  let (k, s) := s.pick ((l.lines.filter fun t => t.2.st != .i).map (·.1))
  match k with
  | some line =>
    let (v, s) := s.draw
    let ln : L2Line := l.lines.get {} line
    let ln : L2Line := { ln with data := setWord ln.data (v.toNat % 16) ⟨0, Tag.poison⟩ }
    (s.setL2 p { l with lines := l.lines.set line ln }).raise p 5
  | none => s

/-- The same in the L3 of a slice. -/
def State.l3Poison (s : State) (n : Nat) : State :=
  let (k, s) := s.pick ((s.coh.l3.filter fun t => t.2.valid && homeOf t.1 == n).map (·.1))
  match k with
  | some line =>
    let (v, s) := s.draw
    let ln : L3Line := s.coh.l3.get {} line
    let ln : L3Line := { ln with data := setWord ln.data (v.toNat % 16) ⟨0, Tag.poison⟩ }
    ({ s with coh := { s.coh with l3 := s.coh.l3.set line ln } }).raise (48 + n) 1
  | none => s

/-- FAULT_EVENT: a block detects an event (R388, R390). -/
def State.opFaultEvent (i e : Nat) (s : State) : State :=
  if fltEvents i ≤ e ∨ s.fltSilent i ∨ i = 255 then s
  else if i < 48 ∧ e = 5 then s.l2Poison i
  else if 48 ≤ i ∧ i < 72 ∧ e = 1 then s.l3Poison (i - 48)
  else s.detect i e

/-! ## Registers of the fault logic -/

/-- Events whose FORCE waits for an object, which the detector of the object then fails (R399). -/
def forceWaits (i e : Nat) : Bool :=
  (i < 48 && (e == 0 || e == 2 || e == 3 || e == 4 || e == 5))
    || (48 ≤ i && i < 72 && (e == 0 || e == 1))
    || (80 ≤ i && i < 96 && e ≤ 4)
    || (i == 98 && e == 0) || i == 99
    || (112 ≤ i && i ≤ 131) || (i == 134 && e == 0) || (144 ≤ i && i ≤ 151 && (e == 0 || e == 1))
    || (152 ≤ i && i ≤ 159 && e == 1) || (160 ≤ i && i ≤ 193 && e == 1)
    || i == 203 || i == 204 || i == 211 || i == 212 || i == 244

/-- Mark the reports of an event that `s` does not hold as injected. -/
def markForced (old : Nat) (i e : Nat) (q : List FltEv) : List FltEv :=
  q.take old ++ (q.drop old).map fun x => if x.src = i ∧ x.ev = e then { x with forced := true } else x

/-- FORCE acts at once: the detector does what it does on a real event (R399). -/
def State.forceNow (s : State) (i e : Nat) : State :=
  let n := s.flt.queue.length
  let s := (s.wb (aFlt i 0x10) 0 false).detect i e
  { s with flt := { s.flt with queue := markForced n i e s.flt.queue } }

/-- Apply a write to FLT_FORCE (R399). -/
def State.forceApply (s : State) (i : Nat) (v : Word) (be : Byte) : State :=
  let a := aFlt i 0x10
  let was := s.rb a 0
  let s := if was then s else s.applyRw a v be
  let e := s.rf a 11 8
  if was ∨ !wrote1 v be 0 ∨ fltEvents i ≤ e then s
  else if forceWaits i e then s.wb a 0 true
  else s.forceNow i e

/-- FLT_FORCE. -/
def State.opForce (w : Writer) (i : Nat) (v : Word) (be : Byte) (s : State) : State :=
  s.mgmt w (aFlt i 0x10) v be fun s => s.forceApply i v be

/-- A source is armed at this tick (R389): a new window 0; events held until the first arming are processed as its
events. -/
def State.arm (s : State) (i : Nat) : State :=
  let s := s.wr (aFlt i 0x38) s.time
  let s := s.wf (aFlt i 0x18) 7 0 0
  let mine := s.flt.early.filter fun x => x.src == i
  { s with flt := { s.flt with
      win := s.flt.win.set i 0, early := s.flt.early.filter fun x => x.src != i, queue := s.flt.queue ++ mine } }

/-- Apply a write to FLT_WINDOW (R389): K 9–29; an applied write re-arms the source. -/
def State.windowApply (s : State) (i : Nat) (v : Word) (be : Byte) : State :=
  let a := aFlt i 0x20
  let k := fld (s.merged a v be) 4 0
  if be.getLsbD 0 ∧ 9 ≤ k ∧ k ≤ 29 then (s.applyRw a v be).arm i else s

/-- FLT_WINDOW_WRITE. -/
def State.opWindow (w : Writer) (i : Nat) (v : Word) (be : Byte) (s : State) : State :=
  s.mgmt w (aFlt i 0x20) v be fun s => s.windowApply i v be

/-- FLT_STATUS_CLEAR (R392). -/
def State.opStatusClear (w : Writer) (i : Nat) (v : Word) (be : Byte) (s : State) : State :=
  s.mgmt w (aFlt i 0) v be fun s => s.applyRw (aFlt i 0) v be

/-- Apply a write to FLT_COUNT: a THRESH of 0 is ignored. -/
def State.threshApply (s : State) (i : Nat) (v : Word) (be : Byte) : State :=
  if fld (s.merged (aFlt i 0x18) v be) 15 8 = 0 then s else s.applyRw (aFlt i 0x18) v be

/-- Apply a write to FLT_REACT: bit 2 of both sets reads 0 where the source has no BLOCK_RESET action (R393). -/
def State.reactApply (s : State) (i : Nat) (v : Word) (be : Byte) : State :=
  let a := aFlt i 0x28
  let s := s.applyRw a v be
  if hasBlockReset i then s else (s.wb a 2 false).wb a 10 false

/-- Apply a write to FLT_WDT (R448): K 20–29; KICK restarts the period. -/
def State.wdtApply (s : State) (v : Word) (be : Byte) : State :=
  let a := 0x204028
  let old := s.rd a
  let s := s.applyRw a v be (s.rb 0x70 0)
  let k := s.rf a 12 8
  let s := if 20 ≤ k ∧ k ≤ 29 then s else s.wf a 12 8 (fld old 12 8)
  if wrote1 v be 0 ∨ (!old.getLsbD 1 ∧ s.rb a 1) then { s with flt := { s.flt with kicked := s.time } } else s

/-- KICK. -/
def State.opKick (w : Writer) (v : Word) (be : Byte) (s : State) : State :=
  s.mgmt w 0x204028 v be fun s => s.wdtApply v be

/-- WDT_EXPIRED: Steward firmware has not written KICK within the period. -/
def State.opWdtExpired (s : State) : State :=
  if !s.rb 0x204028 1 ∨ !s.pwr.powered ∨ (s.time - s.flt.kicked).toNat < 2 ^ s.rf 0x204028 12 8 then s
  else ({ s with flt := { s.flt with kicked := s.time } }).raise 248 0

/-- CAP_LOCK_FLT: a write of CAP_LOCK (R448). -/
def State.capLockApply (s : State) (v : Word) (be : Byte) : State := if wrote1 v be 0 then s.wb 0x70 0 true else s

/-- CAP_LOCK_FLT. -/
def State.opCapLock (w : Writer) (v : Word) (be : Byte) (s : State) : State :=
  s.mgmt w 0x70 v be fun s => s.capLockApply v be

/-- LANTERN_TOGGLE: the half-period ends while LANTERN toggles (R397). -/
def State.opLanternToggle (s : State) : State :=
  if !s.rb 0x204020 0 ∨ s.lanternStopped ∨ !s.pwr.powered then s
  else
    let l := !s.pwr.lantern
    { (s.emitPin (.pin "LANTERN" l)) with pwr := { s.pwr with lantern := l } }

end Sys2Proof.Machine
end

