-- ==== Sys2Proof/Machine/MgmtOps.lean ====
section
/-!
DEFINITION. Management writes by register (20_register_map.md R444–R448): what a write of each register of the management
space does, writes of a function page (R199) and of MSI-X control, pair resets (R428), and the reads that clear.
-/
namespace Sys2Proof.Machine

/-- Keep field [hi:lo] of register `a` where a write has left a value that `ok` refuses. -/
def State.keepField (s : State) (old : Word) (a hi lo : Nat) (ok : Nat → Bool) : State :=
  if ok (s.rf a hi lo) then s else s.wf a hi lo (fld old hi lo)

/-! ## Registers whose writes have rules of their own -/

/-- PART_CTL (R225): the command in CMD. -/
def State.partCtl (s : State) (q : Nat) (v : Word) (be : Byte) : State :=
  let st := s.partState q
  let go (ok : Bool) (t : State) : State := if ok then t else s.wb (aPart q 8) 11 true
  if !be.getLsbD 0 then s
  else match fld v 3 0 with
    | 1 => go (s.createOk q) (s.create q)
    | 2 => go (st == 1) (s.startPart q)
    | 3 => go (st == 2) (s.freezePart q 1)
    | 4 => go (st == 4) (s.thaw q)
    | 5 => go (st == 4) (s.export_ q)
    | 6 => go (st == 0) (s.import_ q)
    | 7 => go (st == 1 || st == 4) (s.destroy q)
    | 8 => go (st == 6) (s.destroy q)
    | _ => s

/-- CREATE, START, FREEZE, THAW, EXPORT, IMPORT, DESTROY and ABORT: a management write of PART_CTL with the command in
byte 0. -/
def State.opPartCtl (w : Writer) (q code : Nat) (be : Byte) (s : State) : State :=
  let v : Word := BitVec.ofNat 64 code
  if q = 0 then s else s.mgmt w (aPart q 0) v be fun s => s.partCtl q v be

/-- XT_PG_PORTS: a write that names one port twice, or a port that is absent, is ignored. -/
def State.pgPortsApply (s : State) (a : Nat) (v : Word) (be : Byte) : State :=
  let new := s.merged a v be
  let ps := (List.range 8).map fun i => fld new (8 * i + 7) (8 * i)
  let twice := (List.range 8).any fun i => (List.range i).any fun j => ps.getD i 0 == ps.getD j 0
  if twice || ps.any s.lkAbsent then s else s.applyRw a v be

/-- XT_PG_CFG (R342): a write that changes the OWNER of a group with open exchanges is ignored; ROUNDS 0 is. -/
def State.pgCfgApply (s : State) (a : Nat) (v : Word) (be : Byte) : State :=
  let g := (a - 0xE00008) / 16
  let old := s.rd a
  if fld (s.merged a v be) 13 8 ≠ fld old 13 8 ∧ s.xchg.table.any (fun t => t.2.group == g && t.2.state != .free) then s
  else (s.applyRw a v be).keepField old a 19 16 (· != 0)

/-- XT_PWIN: only in NONE, STOPPED and FROZEN; LOG2 0–12. -/
def State.pwinApply (s : State) (a : Nat) (v : Word) (be : Byte) : State :=
  let st := s.partState ((a - 0xE03000) / 8 + 1)
  if (st = 0 ∨ st = 1 ∨ st = 4) ∧ fld (s.merged a v be) 51 48 ≤ 12 then s.applyRw a v be else s

/-- JRN_CFG: BATCH_KIB 64–4,096, REBUILD_S 1–3,600. -/
def State.jrnCfg (s : State) (v : Word) (be : Byte) : State :=
  let a := aJrn 0
  let old := s.rd a
  (((s.applyRw a v be).keepField old a 28 16 fun n => 64 ≤ n && n ≤ 4096).keepField old a 47 32
    fun n => 1 ≤ n && n ≤ 3600).freeJournal

/-- LDG_CFG: EPOCH_LEN 40,000–400,000,000; HYBRID reads 0 without lattice engines. -/
def State.ldgCfg (s : State) (v : Word) (be : Byte) : State :=
  let a := aJrn 0x100
  let old := s.rd a
  let s := (s.applyRw a v be).keepField old a 28 0 fun n => 40000 ≤ n && n ≤ 400000000
  if s.hasLattice then s else s.wb a 30 false

/-- PWR_CFG (R407, R411, R415): LIMIT_W and DRAIN_MS within their ranges; LOCK; admission that waits for HOLDUP opens when
REQUIRE_HOLDUP is cleared. -/
def State.pwrCfg (s : State) (v : Word) (be : Byte) : State :=
  let a := aClk 0x808
  let old := s.rd a
  let s := s.applyRw a v be (old.getLsbD 32)
  let s := s.keepField old a 9 0 fun n => if s.fuse.small then 450 ≤ n && n ≤ 620 else 600 ≤ n && n ≤ 840
  let s := s.keepField old a 31 16 fun n => 1 ≤ n && n ≤ 60000
  let s := if wrote1 v be 32 then s.wb a 32 true else s
  s.tryOpen

/-- The order that PWR_THERM keeps: RESUME_C < ALERT_C ≤ THROTTLE_C, THROTTLE_C + 5 < OVERTEMP_C ≤ 115. -/
def thermOk (v : Word) : Bool :=
  fld v 31 24 < fld v 7 0 && fld v 7 0 ≤ fld v 15 8 && fld v 15 8 + 5 < fld v 23 16 && fld v 23 16 ≤ 115

/-- PWR_THERM: a write that breaks the order is ignored as a whole. -/
def State.thermApply (s : State) (v : Word) (be : Byte) : State :=
  let t := s.applyRw (aClk 0x828) v be (s.rb (aClk 0x808) 32)
  if thermOk (t.rd (aClk 0x828)) then t else s

/-- Start the reset of pair p (R428): only while its role is OFF or SPARE, or its partition is FROZEN. -/
def State.pairGo (s : State) (p : Nat) : State :=
  let r := s.rf (aPair p 0) 1 0
  let q := s.rf (aPair p 0) 13 8
  if s.pairPresent p ∧ !s.core.resetting.contains p ∧ (r = 0 ∨ r = 2 ∨ (q ≠ 0 ∧ s.partState q = 4)) then
    { s with core := { s.core with resetting := s.core.resetting ++ [p] } }
  else s

/-- RST_CTL: PAIR_GO resets the pair that PAIR names after the write, MODULE starts a module reset (R394). -/
def State.rstCtl (s : State) (v : Word) (be : Byte) : State :=
  let s := s.applyRw (aClk 0x400) v be
  let s := if wrote1 v be 16 then s.pairGo (s.rf (aClk 0x400) 13 8) else s
  if wrote1 v be 0 then s.startReset 3 0 else s

/-- The mailbox of MBX view k (R451). -/
def mbxOf (k : Nat) : MbId :=
  if k = 0 then .pf 0 else if k = 1 then .pf 1 else if k = 2 then .partnerIn else if k = 3 then .partnerOut
  else .part (Fin.ofNat 64 (k - 3))

/-- A register of an MBX view: the sender view of the mailbox to the partner, receiver views otherwise. -/
def State.mbxApply (s : State) (k o : Nat) (v : Word) (be : Byte) : State :=
  if o < 0x40 then s.mbMsg (mbxOf k) (k == 3) (o / 8) v be
  else if o = 0x40 then (if k = 3 then s.mbPost .partnerOut v be else s)
  else if o = 0x48 then (if k = 3 then s else s.mbAck (mbxOf k) v be)
  else s

/-- A register of partition q at offset `o` of its instance. -/
def State.partReg (s : State) (q o : Nat) (v : Word) (be : Byte) : State :=
  if o = 0 then s.partCtl q v be
  else if o = 0x10 ∨ o = 0x18 ∨ o = 0x20 then s.quotaWrite q o v be
  else if o = 0x28 then s.shareWrite q v be
  else if o = 0x40 then s.migWrite q v be
  else if o = 0x50 then if s.partState q = 0 then s.applyRw (aPart q o) v be else s
  else if 0x100 ≤ o ∧ o < 0x200 then s.mvslotWrite q ((o - 0x100) / 8) v be
  else if 0x800 ≤ o ∧ o < 0xC00 then s.extentWrite q false ((o - 0x800) / 8) v be
  else if 0xC00 ≤ o ∧ o < 0xF00 then s.extentWrite q true ((o - 0xC00) / 8) v be
  else s.applyRw (aPart q o) v be

/-- A register of pair p. -/
def State.pairReg (s : State) (p o : Nat) (v : Word) (be : Byte) : State :=
  if o = 0 then s.roleApply p v be
  else if o = 0x30 then s.pairTestApply p v be
  else if 0x100 ≤ o ∧ o < 0x600 then s.ckptApply p o v be
  else if 0x600 ≤ o ∧ o < 0x680 then s.l2lockApply (aPair p o) v be
  else if o = 0x680 then s.l2ctlApply p v be
  else s.applyRw (aPair p o) v be

/-- A register of fault source i. -/
def State.fltReg (s : State) (i o : Nat) (v : Word) (be : Byte) : State :=
  if o = 0x10 then s.forceApply i v be
  else if o = 0x18 then s.threshApply i v be
  else if o = 0x20 then s.windowApply i v be
  else if o = 0x28 then s.reactApply i v be
  else s.applyRw (aFlt i o) v be

/-- A register of the CLK/PWR block. -/
def State.clkReg (s : State) (o : Nat) (v : Word) (be : Byte) : State :=
  if o = 0x400 then s.rstCtl v be
  else if o = 0x808 then s.pwrCfg v be
  else if o = 0x810 then if wrote1 v be 0 then s.removeStart else s
  else if o = 0x828 then s.thermApply v be
  else s.applyRw (aClk o) v be

/-- A register of the XT block. -/
def State.xtReg (s : State) (o : Nat) (v : Word) (be : Byte) : State :=
  let a := aXt o
  if o < 0x2000 then if o % 16 = 0 then s.pgPortsApply a v be else s.pgCfgApply a v be
  else if o < 0x2100 then
    (s.applyRw a v be).keepField (s.rd a) a 31 0 fun n => 400000 ≤ n && n ≤ 4000000000
  else if 0x3000 ≤ o then s.pwinApply a v be
  else s.applyRw a v be

/-- What an applied write of the register at address `a` does. -/
def State.regApply (s : State) (a : Nat) (v : Word) (be : Byte) : State :=
  let o := a % 0x100000
  match a / 0x100000 with
  | 0x0 => if a = 0x70 then s.capLockApply v be else s
  | 0x1 => s.clkReg o v be
  | 0x2 => if o < 0x4000 then s.fltReg (o / 0x40) (o % 0x40) v be
           else if o = 0x4028 then s.wdtApply v be else s
  | 0x3 => s.partReg (o / 0x1000 + 1) (o % 0x1000) v be
  | 0x4 => if o = 8 then s.hifCfg 0 v be else if 0x108 ≤ o then s.vfBind 0 ((o - 0x100) / 8) v be else s
  | 0x5 => if o = 8 then s.hifCfg 1 v be else if 0x108 ≤ o then s.vfBind 1 ((o - 0x100) / 8) v be else s
  | 0x6 => s.mbxApply (o / 0x80) (o % 0x80) v be
  | 0x7 => s.pairReg (o / 0x1000) (o % 0x1000) v be
  | 0x8 => if o % 0x1000 = 0 then s.wayctlApply (o / 0x1000) v be else s
  | 0x9 => if o = 0 then (s.applyRw a v be).keepField (s.rd a) a 7 0 fun n => 1 ≤ n && n ≤ 168 else s.applyRw a v be
  | 0xC => s.movWrite (o / 0x40) (o % 0x40) v be 96
  | 0xD => if o % 0x400 = 0 then s.lkConfig (o / 0x400) v be else s.applyRw a v be
  | 0xE => s.xtReg o v be
  | 0xF => if o = 0 then s.jrnCfg v be
           else if o = 0x100 then s.ldgCfg v be
           else if o = 0x180 then
             let s := s.applyRw a v be
             s.ldgLoad (s.rf a 24 0)
           else s
  | 0x10 => if o = 8 then s.dpxCtl v be
            else if 0x1000 ≤ o ∧ (o - 0x1000) % 0x400 = 0 then s.lkConfig (256 + (o - 0x1000) / 0x400) v be
            else s.applyRw a v be
  | 0x11 => if o = 0x10 then s.ucsCtlApply v be else if o = 0x18 then s.ucsPeekApply v be else s
  | _ => s.applyRw a v be

/-- The write concerns a field that is absent on this variant (R165). -/
def State.absentField (s : State) (a : Nat) (v : Word) (be : Byte) : Bool :=
  s.fuse.small && 0x800000 ≤ a && a < 0x818000 && a % 0x1000 == 0 && be.getLsbD 4 && fld v 35 32 != 0

/-- A management write of any register. -/
def State.regWrite (s : State) (w : Writer) (a : Nat) (v : Word) (be : Byte) : State :=
  s.mgmt w a v be (fun s => s.regApply a v be) (s.absentField a v be)

/-! ## Function pages (R199, R202) -/

/-- A set-up register of a queue pair: only while it is DISABLED. -/
def State.setupWrite (s : State) (port fn qp o : Nat) (v : Word) (be : Byte) : State :=
  let r := s.qp port fn qp
  let mix (old m : Word) : Word := (old &&& ~~~ (beMask be &&& m)) ||| (v &&& beMask be &&& m)
  if o = 0x18 then
    let s1 := if wrote1 v be 1 then s.opQctlReset port fn qp else s
    if wrote1 v be 0 then s1.opQctlEnable port fn qp else s1
  else if r.mode ≠ .disabled then s
  else if o = 0 then s.setQp port fn qp { r with sqBase := mix r.sqBase (maskOf 63 12) }
  else if o = 8 then s.setQp port fn qp { r with cqBase := mix r.cqBase (maskOf 63 12) }
  else if o = 0x10 then s.setQp port fn qp { r with cfg := mix r.cfg 0x0000FFFFFFFF1F1F }
  else s

/-- A word of the MSI-X table: vector control bit 0 masks the vector, and a vector unmasked while pending is sent. -/
def State.msixWrite (s : State) (port fn i : Nat) (v : Word) (be : Byte) : State :=
  let k := fnKey port fn
  let m := s.host.msix.get {} k
  let old := m.table.get (if i % 2 = 1 then (1 : Word) <<< 32 else 0) i
  let new := (old &&& ~~~ (beMask be)) ||| (v &&& beMask be)
  let vec := i / 2
  let un := if i % 2 = 0 then m.unmasked
            else if new.getLsbD 32 then m.unmasked.filter (· ≠ vec)
            else if m.unmasked.contains vec then m.unmasked else m.unmasked ++ [vec]
  let s := { s with host := { s.host with
    msix := s.host.msix.set k { m with table := m.table.set i new, unmasked := un } } }
  s.flushMsix port fn

/-- A host's write of offset `o` of a function page (R199). -/
def State.pageReg (s : State) (port : Fin 2) (fn : Fin 64) (o : Nat) (v : Word) (be : Byte) : State :=
  let p := port.val
  let f := fn.val
  if !s.hostUp p ∨ !s.fnHere p f ∨ o % 8 ≠ 0 then s
  else if o < 0x400 then s.setupWrite p f (o / 0x40) (o % 0x40) v be
  else if 0x1000 ≤ o ∧ o < 0x1100 then
    if o % 16 = 0 then s.opSqDoorbell p f ((o - 0x1000) / 16) (v &&& beMask be)
    else s.opCqDoorbell p f ((o - 0x1000) / 16) (v &&& beMask be)
  else if 0x2000 ≤ o ∧ o < 0x2040 then
    s.mbMsg (if f = 0 then .pf port else .vf port fn) true ((o - 0x2000) / 8) v be
  else if o = 0x2040 then s.mbPost (if f = 0 then .pf port else .vf port fn) v be
  else if 0x4000 ≤ o ∧ o < (if f = 0 then 0x5000 else 0x4100) then s.msixWrite p f ((o - 0x4000) / 8) v be
  else s

/-- The MSI-X message control of a function: bit 15 enable, bit 14 function mask. -/
def State.msixCtl (s : State) (port : Fin 2) (fn : Fin 64) (v : Word) (be : Byte) : State :=
  let k := fnKey port.val fn.val
  let m := s.host.msix.get {} k
  if !s.hostUp port.val ∨ !s.fnHere port.val fn.val ∨ !be.getLsbD 1 then s
  else
    let m := { m with enabled := v.getLsbD 15, fnMask := v.getLsbD 14 }
    ({ s with host := { s.host with msix := s.host.msix.set k m } }).flushMsix port.val fn.val

/-- MGMT_WRITE. -/
def State.opMgmtWrite (w : Writer) (t : MTgt) (v : Word) (be : Byte) (s : State) : State :=
  match t with
  | .reg a => if a.toNat % 8 = 0 then s.regWrite w a.toNat v be else s
  | .page port fn o => s.pageReg port fn o.toNat v be
  | .msixCtl port fn => s.msixCtl port fn v be

/-! ## RST_CTL and pair reset (R428) -/

/-- MODULE and PAIR_GO: a write of RST_CTL. -/
def State.opRstCtl (w : Writer) (v : Word) (be : Byte) (s : State) : State :=
  s.mgmt w (aClk 0x400) v be fun s => s.rstCtl v be

/-- PAIR_RESET_DONE (R26, R428): the L2 is written back; L1, TLBs, predictor, checkpoint, gate and counters are in their
start state; the pair starts if its partition runs. -/
def State.opPairResetDone (p : Nat) (s : State) : State :=
  let l := s.l2 p
  let busy := l.miss ≠ [] ∨ l.wb ≠ [] ∨ l.wfull ≠ [] ∨ l.lines.any fun t => (s.coh.txn.find t.1).isSome
  if !s.core.resetting.contains p ∨ busy ∨ !s.pwr.powered ∨ s.hibernating then s
  else
    let s := l.lines.foldl (fun s t => if t.2.st = .m ∨ t.2.st = .o then s.recall t.1 else s) s
    let s := { s with
      coh := { s.coh with l2 := s.coh.l2.del p }
      core := { s.core with
        resetting := s.core.resetting.filter (· ≠ p)
        procs := (s.core.procs.del (2 * p)).del (2 * p + 1)
        images := ((s.core.images.del p).del (64 + 2 * p)).del (64 + 2 * p + 1)
        tlb := (s.core.tlb.del (2 * p)).del (2 * p + 1) } }
    let s := ((s.wr (aPair p 0x18) 0).wr (aPair p 0x20) 0).wr (aPair p 0x28) 0
    let st : Nat := s.rf (aPair p 8) 2 0
    let s : State := if st = 4 then s else (s.wf (aPair p 8) 4 3 0).wf (aPair p 8) 2 0 5
    if s.rf (aPair p 0) 1 0 = 1 ∧ s.partState (s.rf (aPair p 0) 13 8) = 2 then s.startPair p else s

/-! ## Reads that clear (R445) -/

/-- Fields of a register that a read of the enabled bytes clears: those that lie wholly within them. -/
def clearedBy (be : Byte) (fields : List (Nat × Nat)) : Word :=
  (fields.filter fun f => (maskOf f.1 f.2 &&& ~~~ (beMask be)) == 0).foldl (fun m f => m ||| maskOf f.1 f.2) 0

/-- A read of register `a` that clears the RC fields read wholly. -/
def State.readClear (s : State) (a : Nat) (be : Byte) (fields : List (Nat × Nat)) : State :=
  if s.hibernating || !s.pwr.powered then s
  else (s.emit (.readData (s.peek a &&& beMask be))).wr a (s.rd a &&& ~~~ (clearedBy be fields))

/-- PART_BP_READ. -/
def State.opBpRead (q : Nat) (be : Byte) (s : State) : State :=
  if q = 0 ∨ 63 < q then s else s.readClear (aPart q 0x38) be [(15, 0), (31, 16), (47, 32)]

/-- PWR_VIN_READ. -/
def State.opVinRead (be : Byte) (s : State) : State := s.readClear (aClk 0x818) be [(63, 48)]

end Sys2Proof.Machine
end

