-- ==== Sys2Proof/Machine/BootOps.lean ====
section
/-!
DEFINITION. Boot, recovery, resume and module reset (19_bringup.md).
-/
namespace Sys2Proof.Machine

/-! ## Firmware (R430, R431, R434) -/

/-- PART of this module's images (R143). -/
def State.partCode (s : State) : BitVec 16 := if s.fuse.small then 0x6432 else 0x9648

/-- The header of an image is valid for this module and its FW_REV is accepted (R431). -/
def State.fwHeaderOk (s : State) (i : FwImage) : Bool :=
  i.headerOk && i.part == s.partCode && decide (s.fuse.minFwRev.toNat ≤ i.rev.toNat)

/-- A firmware image is accepted (R431). -/
def State.fwOk (s : State) (i : Option FwImage) : Bool :=
  match i with
  | some i => s.fwHeaderOk i && i.sigsOk
  | none => false

/-- FW_REV of a bank, 0 for an erased one. -/
def fwRev (i : Option FwImage) : Nat :=
  match i with
  | some i => i.rev.toNat
  | none => 0

/-- Boot stops at the next stage (R431, R441); from stage 3 on LANTERN stops. -/
def State.bootFail (s : State) : State :=
  let s := s.wb (aClk 0x410) 7 true
  if 2 ≤ s.rf (aClk 0x410) 3 0 then s.lanternStop 4 0 else s

/-- The bank check of stage 2 (R431): each bank that is not accepted is counted; the accepted one with the higher FW_REV is
booted, bank A of two equal ones; with none, boot stops, or waits for a recovery message under STRAP_BOOT 0b10. -/
def State.bankCheck (s : State) : State :=
  let a := s.fwOk s.boot.bankA
  let b := s.fwOk s.boot.bankB
  let s := if a then s else s.raise 254 0
  let s := if b then s else s.raise 254 0
  let useB := b && (!a || decide (fwRev s.boot.bankA < fwRev s.boot.bankB))
  if a || b then
    (s.wb (aClk 0x410) 5 useB).wf 0x68 31 0 (fwRev (if useB then s.boot.bankB else s.boot.bankA))
  else if s.rf (aClk 0x408) 19 18 = 2 then { s with boot := { s.boot with recovering := true } }
  else s.bootFail

/-- RECOVERY_MESSAGE (R434): the message that PF0 of port A has posted names an image; `img` is what the ROM reads there. -/
def State.opRecovery (img : RecImage) (s : State) : State :=
  let b := s.mb (.pf 0)
  let opt := b.msg.get 0 2
  if !s.boot.recovering ∨ !s.pwr.powered ∨ b.state ≠ .posted then s
  else
    let st : BitVec 8 := match img.image with
      | none => St.hostReadFault
      | some i =>
        if b.len ≠ 24 ∨ !img.lengthOk ∨ opt &&& ~~~1 ≠ 0 ∨ !s.fwHeaderOk i then St.invalidField
        else if i.sigsOk then St.ok else St.verifyFailed
    let s := if st = St.ok then
        let rev := fwRev img.image
        let s := (s.wb (aClk 0x410) 4 true).wf 0x68 31 0 rev
        let boot := { s.boot with recovering := false }
        let boot := if !opt.getLsbD 0 then boot
          else if fwRev boot.bankB < fwRev boot.bankA then { boot with bankB := img.image }
          else { boot with bankA := img.image }
        { s with boot := boot }
      else s
    s.mbAck (.pf 0) (st.zeroExtend 64) 1

/-! ## Stages 1 to 6 (R432, R433) -/

/-- T0 (R433). -/
def State.t0 (s : State) : Nat :=
  let stamps := s.jrn.ring.map (·.r.stamp.toNat) ++ s.dpx.mirror.map (·.r.stamp.toNat)
  let ends := (s.jrn.seals ++ s.dpx.partnerSeals).map (·.stop.toNat)
  match stamps ++ ends with
  | [] => 0
  | l => l.foldl max 0 + 1

/-- Stage 1 ends: the root PLL has lock and Device Time starts at T0; stage 2 begins with the bank check, or with recovery
under STRAP_BOOT 0b01 and 0b11. -/
def State.stage1 (s : State) : State :=
  let t := s.t0
  let w := BitVec.ofNat 64 t
  let s := { s with now := w, nowStage := w, boot := { s.boot with ref := BitVec.ofNat 64 (t - 1) }
                    flt := { s.flt with kicked := w } }
  let s := s.wf (aClk 0) 1 0 3
  if s.rf (aClk 0x408) 18 18 = 1 then { s with boot := { s.boot with recovering := true } } else s.bankCheck

/-- Every source is armed (R389). -/
def State.armAll (s : State) : State :=
  let s := ((List.range 256).filter fun i => !fltReserved i).foldl (fun s i => s.wr (aFlt i 0x38) s.time) s
  { s with flt := { s.flt with armed := true, win := [], queue := s.flt.queue ++ s.flt.early, early := [] } }

/-- Stage 2 ends: stage 3 begins, LANTERN toggles and the fault sources are armed. -/
def State.stage2 (s : State) : State :=
  let s := s.wb 0x204020 0 true
  ({ s with pwr := { s.pwr with lantern := true } }.emitPin (.pin "LANTERN" true)).armAll

/-- Stage 3: the patch image is loaded (R144) and UCS_CTL.LOCK set. -/
def State.stage3 (s : State) : State :=
  let img : PatchImg := match s.boot.patch with
    | some p => p
    | none => { headerOk := false }
  let s := s.regWrite .steward (aUcs 0x10) ((1 : Word) <<< 32) 0xFF
  (s.patchLoad (some img)).regWrite .steward (aUcs 0x10) ((1 : Word) <<< 33) 0xFF

/-- Stage 4: the lane PLLs of the ports have lock. The Key Vault is what its backup holds (R427). -/
def State.stage4 (s : State) : State :=
  let s := s.wf (aClk 0) 5 2 15
  s.wf (aClk 0) 39 8 (if s.fuse.small then 0xFFFF else 0xFFFFFFFF)

/-- Stage 5: both HBM3 stacks are trained and every sector holds zero (R181). -/
def State.stage5 (s : State) : State := { s.wf 0x900008 9 8 3 with mem := {} }

/-! ## Stage 7 (R440) -/

/-- The role that the saved configuration restores for a pair: a spare that failed its test is FENCED, a fenced pair that
passed becomes SPARE; with no saved role the two highest present pairs of a die are spares. -/
def State.bootRole (s : State) (f : BootFacts) (p : Nat) (saved : Option Word) : Option Word :=
  match saved with
  | some v =>
    if (fld v 1 0 = 2 ∨ fld v 1 0 = 3) ∧ f.failedPairs.contains p then some (setFld v 1 0 3)
    else if fld v 1 0 = 3 ∧ f.passedPairs.contains p then some 2
    else some v
  | none =>
    if s.boot.saved.any fun t => 0x700000 ≤ t.1 && t.1 < 0x730000 && t.1 % 0x1000 == 0 then none
    else if ((List.range 24).map (p / 24 * 24 + ·)).countP (fun r => p < r && s.pairPresent r) < 2 ∧ s.pairPresent p then
      some (if f.failedPairs.contains p then 3 else 2)
    else none

/-- Write back one kept register, without its LOCK bit. -/
def State.replay (s : State) (a : Nat) (v : Word) : State :=
  let v := match lockBit a with
    | some i => setBit v i false
    | none => v
  s.regWrite .steward a v 0xFF

/-- Set a kept LOCK bit. -/
def State.replayLock (s : State) (a : Nat) (v : Word) : State :=
  match lockBit a with
  | some i => if v.getLsbD i then s.regWrite .steward a ((1 : Word) <<< i) ((1 : Byte) <<< (i / 8)) else s
  | none => s

/-- Stage 7: pair roles, the saved configuration in address order with LOCK bits last, and CREATE of every partition to be
restored. -/
def State.stage7 (s : State) (f : BootFacts) : State :=
  let role (p : Nat) : Option (Nat × Word) :=
    (s.bootRole f p (s.boot.saved.find (aPair p 0))).map fun v => (aPair p 0, v)
  let saved : Tbl Word := ((List.range 48).filterMap role).foldl (fun t e => t.set e.1 e.2) s.boot.saved
  let keep := s.boot.savedParts
  let s := saved.foldl (fun s t => s.replay t.1 t.2) s
  let s := saved.foldl (fun s t => s.replayLock t.1 t.2) s
  let s := keep.foldl (fun s t => s.regWrite .steward (aPart t.1 0) 1 0xFF) s
  { s with boot := { s.boot with savedParts := keep } }

/-! ## Stage 8 (R435, R436) -/

/-- A queue pair as it resumes: FROZEN, or DISABLED if it was RESETTING or DISABLED. -/
def resumeQp (r : Qp) : Qp :=
  match r.mode with
  | .disabled => r
  | .resetting =>
    if r.fnReset then { cause := r.cause }
    else { r with mode := .disabled, sqHead := 0, sqFetch := 0, sqTail := 0, cqHead := 0, cqTail := 0, unsignalled := 0
                  firstUnsig := none, waitCounted := false }
  | _ => { r with mode := .frozen, cause := 6, waitCounted := false }

/-- A work order as it resumes: it waits, marked SAG_RESUMED, to have its outcome entered and to be freed. -/
def resumeWo (e : WoEnt) : WoEnt :=
  { e with sagResumed := true, rd := .none, next := none, resp := [], outs := [], slot := none }

/-- An open outbound exchange as it resumes. -/
def resumeXt (e : XtEnt) : XtEnt :=
  { e with restored := true, sagResumed := true, deadline := none, interim := false, outcome := none, wait := false
           tried := [] }

/-- The image that the module resumes from: the valid slot with the higher SEQ, if its identity matches. -/
def State.resumable (s : State) : Option (Bool × HibImage) :=
  let valid (i : Option HibImage) : Option HibImage := i.filter (·.marker)
  let best : Option (Bool × HibImage) := match valid s.pwr.slotA, valid s.pwr.slotB with
    | some a, some b => if a.seq.toNat < b.seq.toNat then some (true, b) else some (false, a)
    | some a, none => some (false, a)
    | none, some b => some (true, b)
    | none, none => none
  best.filter fun t => t.2.ident == s.fuse.ident

/-- Load an image (R435 steps 1 and 2, R436). -/
def State.resume (s : State) (slot : Bool) (i : HibImage) : State :=
  let s := { s with
    host := { s.host with qps := i.host.qps.vmap resumeQp, wo := i.host.wo.vmap resumeWo }
    xchg := { s.xchg with
      table := (i.xchg.table.filter fun (t : Nat × XtEnt) => !t.2.inbound).map fun (t : Nat × XtEnt) => (t.1, resumeXt t.2)
      probeSeq := i.xchg.probeSeq, migSeq := i.xchg.migSeq }
    boot := { s.boot with held := true, resumeSlot := some slot, ref := i.stopTick }
    dpx := { s.dpx with holds := i.wasActive } }
  let s := if (s.rd (aJrn 0x10)).toNat < i.nextJsn.toNat then s.wr (aJrn 0x10) i.nextJsn else s
  let s := s.wr (aDpx 0x30) i.nextMsn
  let s := s.adoptTgen i.tgen.toNat
  let s := s.wb (aClk 0x410) 6 true
  let s := if s.rf (aClk 0x408) 3 0 = 1 then s.wf (aClk 0x408) 3 0 2 else s
  if i.surprise then s.raise 222 2 else s

/-- Stage 8. Without a valid image nothing is resumed, and records that were being destaged are destaged again from the
position reached (R354). -/
def State.stage8 (s : State) : State :=
  let d := s.rd (aJrn 0x18)
  let batch : Option Batch := match s.jrn.sent.filter fun b => !b.partner with
    | [] => s.jrn.batch
    | _ => some { firstJsn := d + 1 }
  let adopt := if s.jrn.sent.any (·.partner) then some (s.dpx.partnerDestaged + 1) else s.dpx.adopt
  match s.resumable with
  | some (b, i) => s.resume b i
  | none => { s with jrn := { s.jrn with sent := [], batch := batch }, dpx := { s.dpx with adopt := adopt } }

/-! ## Stages 9 and 10 -/

/-- A Ledger key in key domain 0. -/
def State.ledgerKeyNew (s : State) (idx ty : Nat) : State :=
  let (rnd, s) := s.drawBytes 64
  let m := Config.keyGen ty 2 rnd
  let k := vKey 0 idx
  let gen := s.cry.gens.get 1 k
  let r : VRec := { gen := gen, type_ := BitVec.ofNat 8 ty, param := 2, material := m, kcv := kcvOf ty 2 m
                    created := s.time }
  { s with cry := { s.cry with vault := s.cry.vault.set k r, gens := s.cry.gens.set k (gen + 1) } }

/-- Ledger initialisation (R439, R360): keys, JSN from 0, the genesis seal of an epoch of length 0 at this tick; epoch 1
starts there. -/
def State.ledgerInit (s : State) : State :=
  let s := s.ledgerKeyNew ledgerKey 0x10
  let s := if s.hasLattice then s.ledgerKeyNew ledgerKeyPq 0x20 else s
  let s := if s.jrn.ring = [] then s.wr (aJrn 0x10) 0 else s
  let z := List.replicate 48 (0 : Byte)
  let s := { s with jrn := { s.jrn with racc := z, cacc := z } }
  let s := s.writeSeal { genesis := true, start := s.time, stop := s.time, due := s.time }
  let l := BitVec.ofNat 64 (s.rf (aJrn 0x100) 28 0)
  let s := (s.wr (aJrn 0x110) 1).wr (aJrn 0x118) s.time
  { s with jrn := { s.jrn with len := l, nominal := s.time + l, running := true, resumed := false, marks := [] } }

/-- Ledger restart (R360): the first epoch carries RESUMED, follows the latest seal and starts at its END. -/
def State.ledgerRestart (s : State) (k : Seal) : State :=
  let l := BitVec.ofNat 64 (s.rf (aJrn 0x100) 28 0)
  let s := (s.wr (aJrn 0x110) (k.epoch + 1)).wr (aJrn 0x118) k.stop
  ({ s with jrn := { s.jrn with len := l, nominal := s.time + l, running := true, resumed := true, marks := [] } }).ledger

/-- Stage 9: the Ledger runs, and duplex forming begins if DPX_CFG.ENABLE is set. -/
def State.stage9 (s : State) : State :=
  let s := match s.jrn.seals with
    | k :: _ => s.ledgerRestart k
    | [] => s.ledgerInit
  (s.wb (aJrn 0x108) 0 true).opDuplexForming

/-- Stage 10: each restored partition is brought to its saved state, and admission opens. -/
def State.stage10 (s : State) : State :=
  let keep := s.boot.savedParts
  let s := (keep.filter fun t => t.2 == 2 || t.2 == 4).foldl (fun s t => s.regWrite .steward (aPart t.1 0) 2 0xFF) s
  let s := (keep.filter fun t => t.2 == 4).foldl (fun s t => s.regWrite .steward (aPart t.1 0) 3 0xFF) s
  ({ s with boot := { s.boot with booting := false } }).tryOpen

/-- BOOT_STAGE_DONE (R432): stage STAGE + 1 completes `ms` milliseconds after power good or the end of the module reset. -/
def State.opBootStage (ms : Nat) (f : BootFacts) (s : State) : State :=
  if !s.pwr.powered ∨ !s.boot.booting ∨ s.boot.recovering ∨ s.rb (aClk 0x410) 7 ∨ s.hibernating ∨ s.flt.reset.isSome then s
  else
    let n := s.rf (aClk 0x410) 3 0 + 1
    if n = 5 ∧ !(f.hbm0 && f.hbm1) then (s.wf 0x900008 9 8 (b2n f.hbm0 + 2 * b2n f.hbm1)).bootFail
    else
      let s := (s.wf (aClk 0x410) 3 0 n).wf (aClk 0x410) 47 16 ms
      match n with
      | 1 => s.stage1
      | 2 => s.stage2
      | 3 => s.stage3
      | 4 => s.stage4
      | 5 => s.stage5
      | 6 => s
      | 7 => s.stage7 f
      | 8 => s.stage8
      | 9 => s.stage9
      | _ => s.stage10

/-! ## Module reset (R394, R427) -/

/-- The RESET seal is durable, or none is due (R360). -/
def State.resetSealed (s : State) : Bool :=
  !s.jrn.running || (match s.jrn.seals with
    | k :: _ => k.reset && s.jrn.marks.isEmpty && s.jrn.ring.all fun e => e.sealEnd != some k.stop || e.written
    | [] => false)

/-- MODULE_RESET_BEGIN: the sequence of R394 has sealed its epoch, or 2 ms have passed since it began. What is staged
completes its local write; HOLDUP, if it was disabled, is charged again (R412). -/
def State.opModuleReset (st : Straps) (s : State) : State :=
  match s.flt.reset with
  | none => s
  | some (cause, src) =>
    let due := match s.flt.log with
      | some (_, _, t) => decide (t.toNat + 800000 ≤ s.time.toNat)
      | none => true
    if s.pwr.phase ≠ .idle ∨ !s.pwr.powered ∨ !(s.resetSealed || due) then s
    else
      let s := s.writeStaged
      let s := (((s.keep true).latch st cause src).satField (aClk 0x408) 63 32).wf (aClk 0x800) 10 6 0
      if s.holdup = 3 then s.chargeStart (s.rf (aClk 0x820) 15 0) else s

end Sys2Proof.Machine
end

