-- ==== Sys2Proof/Machine/Settle.lean ====
section
/-!
DEFINITION. The fault logic takes the events that a command has raised (R388–R396, R401, R404): windows, counting and
reactions. Every command ends here.
-/
namespace Sys2Proof.Machine

/-- The source has been armed since power-on or module reset (R389). -/
def State.fltArmed (s : State) (i : Nat) : Bool := s.flt.armed || (s.flt.win.find i).isSome

/-- The window of a stamp (R389, R390); events held until the arming belong to window 0. -/
def State.fltWindow (s : State) (i : Nat) (t : Word) : Nat :=
  let arm := (s.rd (aFlt i 0x38)).toNat
  if t.toNat < arm then 0 else (t.toNat - arm) / 2 ^ s.rf (aFlt i 0x20) 4 0

/-- INT of a reaction set (R393, R396). -/
def State.reactInt (s : State) (i e : Nat) : State :=
  let s := s.emit (.stewardInt i e)
  let r := s.rd (aFlt i 0x28)
  let s := if bitOf r 16 then s.sendMsix 0 0 (fld r 31 24) else s
  if bitOf r 17 then s.sendMsix 1 0 (fld r 31 24) else s

/-- NMI of a reaction set (R395). -/
def State.reactNmi (s : State) (i : Nat) : State :=
  if i < 48 ∧ s.rf (aPair i 0) 1 0 = 1 ∧ s.rf (aPair i 0) 13 8 ≠ 0 then s.sendNmi (2 * i) nmiReaction i
  else s.emit (.stewardNmi i)

/-- BLOCK_RESET of a pair: the pair fences (R402, R37 step 2). A pair that runs no processor has nothing to drain. -/
def State.resetPairBlock (s : State) (p : Nat) : State :=
  if s.rf (aPair p 8) 2 0 = 3 ∨ s.rf (aPair p 8) 2 0 = 4 then s
  else
    let cs := (if s.split then [2 * p, 2 * p + 1] else [2 * p]).filter fun c => (s.proc c).running && !s.coreFenced c
    match cs with
    | [] => (s.wf (aPair p 8) 2 0 4).opRole .steward p 3 1
    | _ => cs.foldl (fun s c => s.fence c false) s

/-- Every engine of a group that is not OFFLINE yet goes OFFLINE (R402, R279). -/
def State.resetGroup (s : State) (i : Nat) : State :=
  ((List.range 112).filter fun e => engineSrc e == i).foldl
    (fun s e => if s.rb (aCry (8 * e)) 1 then s else s.engineError e) s

/-- Each running run of eight channels ends before its next chunk (R402). -/
def State.resetChannels (s : State) (i : Nat) : State :=
  { s with cmp := { s.cmp with runs := s.cmp.runs.map fun (t : Nat × MovRun) =>
      (t.1, if t.1 / 8 = i - 152 then { t.2 with fail := true } else t.2) } }

/-- RETRAIN of every link of an octet or lane group (R402, R308). -/
def State.resetLinks (s : State) (i : Nat) : State :=
  let ls := if i < 192 then (List.range 8).map (8 * (i - 160) + ·) else (List.range 4).map (256 + 4 * (i - 192) + ·)
  ls.foldl (fun s l => s.linkLeave l 4 12) s

/-- The BLOCK_RESET action of a source (R402). -/
def State.blockReset (s : State) (i : Nat) : State :=
  if i < 48 then s.resetPairBlock i
  else if 112 ≤ i ∧ i ≤ 131 then s.resetGroup i
  else if i = 132 then s.wb (aCry 0x408) 0 false
  else if 144 ≤ i ∧ i ≤ 151 then if s.rb (0xB00000 + 8 * (i - 144)) 1 then s else s.zqError (i - 144)
  else if 152 ≤ i ∧ i ≤ 159 then s.resetChannels i
  else if 160 ≤ i ∧ i ≤ 193 then s.resetLinks i
  else if 232 ≤ i ∧ i ≤ 235 then (s.wb (aUcs 0x10) 34 true).ucsDisable
  else s

/-- A reaction set, in the order of R394; during Hibernate only LANTERN_STOP and INT (R401). -/
def State.react (s : State) (i e set : Nat) : State :=
  let w : Word := BitVec.ofNat 64 set
  let s := if bitOf w 4 then s.lanternStop 0 i else s
  let s := if bitOf w 0 then s.reactInt i e else s
  if s.hibernating then s
  else if bitOf w 3 then s.startReset 4 i
  else
    let s := if bitOf w 1 then s.reactNmi i else s
    if bitOf w 2 then s.blockReset i else s

/-- FLT_LAST of an event. -/
def lastWord (x : FltEv) (masked severe : Bool) : Word :=
  BitVec.ofNat 64 (x.ev % 16 + b2n x.forced * 2 ^ 4 + b2n masked * 2 ^ 5 + b2n severe * 2 ^ 6
    + x.tick.toNat % 2 ^ 56 * 2 ^ 8)

/-- The procedure of R390 up to its reaction: the state, and the reaction set that follows. -/
def State.countEvent (s : State) (x : FltEv) : State × Option Nat :=
  let i := x.src
  let a := aFlt i 0x18
  let j := s.fltWindow i x.tick
  let s := if s.flt.win.get 0 i ≠ j then
      ({ s with flt := { s.flt with win := s.flt.win.set i j } }).wf a 7 0 0 else s
  let s := (s.wb (aFlt i 0) x.ev true).satField a 63 32
  let masked := s.rb (aFlt i 8) x.ev || classI i x.ev
  if masked then (s.wr (aFlt i 0x30) (lastWord x true false), none)
  else
    let n := satInc (s.rf a 7 0) 255
    let s := s.wf a 7 0 n
    let severe := classU i x.ev || decide (s.rf a 15 8 ≤ n)
    (s.wr (aFlt i 0x30) (lastWord x false severe),
      some (if severe then s.rf (aFlt i 0x28) 12 8 else s.rf (aFlt i 0x28) 4 0))

/-- Take one event (R389, R390). -/
def State.takeEvent (s : State) (x : FltEv) : State :=
  if fltReserved x.src || s.fltAbsent x.src then s
  else if !s.fltArmed x.src then { s with flt := { s.flt with early := s.flt.early ++ [x] } }
  else
    let (s, r) := s.countEvent x
    match r with
    | some set => s.react x.src x.ev set
    | none => s

/-- The order in which events of one source are processed (R388). -/
def fltBefore (x y : FltEv) : Bool :=
  x.tick.toNat < y.tick.toNat
    || (x.tick == y.tick && (x.ev < y.ev || (x.ev == y.ev && !x.forced && y.forced)))

/-- The event that is processed next: the first of the source whose report is the oldest (R388). -/
def fltNext : FltEv → List FltEv → FltEv
  | x, [] => x
  | x, y :: t => fltNext (if y.src = x.src ∧ fltBefore y x then y else x) t

/-- Take the events one after another, those included that the reactions raise. -/
def settleN : Nat → State → State
  | 0, s => s
  | n + 1, s =>
    match s.flt.queue with
    | [] => s
    | x :: t =>
      let y := fltNext x t
      settleN n (({ s with flt := { s.flt with queue := s.flt.queue.erase y } }).takeEvent y)

/-- The state at the end of a command. Events beyond the bound, which no command reaches, are taken by the next one. -/
def settle (s : State) : State := settleN 4096 s

/-- The outcome of a command. -/
def fin (s : State) : Host.Outcome State Fault Refusal := .next (settle s)

end Sys2Proof.Machine
end

