-- ==== Sys2Proof/Machine/ExecAtom.lean ====
section
/-!
DEFINITION. Atomics, device and engine instructions (R104, R105): one meaning per row, over the shared operations.
-/
namespace Sys2Proof.Machine

/-- AADD (R104). -/
def execAadd (c : Fin 96) (d a b : BitVec 5) (s : State) : Host.Outcome State Fault Refusal :=
  fin (atomic 0 d.toNat a.toNat b.toNat s c.val)
/-- AAND (R104). -/
def execAand (c : Fin 96) (d a b : BitVec 5) (s : State) : Host.Outcome State Fault Refusal :=
  fin (atomic 1 d.toNat a.toNat b.toNat s c.val)
/-- AOR (R104). -/
def execAor (c : Fin 96) (d a b : BitVec 5) (s : State) : Host.Outcome State Fault Refusal :=
  fin (atomic 2 d.toNat a.toNat b.toNat s c.val)
/-- AXOR (R104). -/
def execAxor (c : Fin 96) (d a b : BitVec 5) (s : State) : Host.Outcome State Fault Refusal :=
  fin (atomic 3 d.toNat a.toNat b.toNat s c.val)
/-- ASWAP (R104). -/
def execAswap (c : Fin 96) (d a b : BitVec 5) (s : State) : Host.Outcome State Fault Refusal :=
  fin (atomic 4 d.toNat a.toNat b.toNat s c.val)
/-- ACAS (R104). -/
def execAcas (c : Fin 96) (d a b : BitVec 5) (s : State) : Host.Outcome State Fault Refusal :=
  fin (atomic 5 d.toNat a.toNat b.toNat s c.val)
/-- AMIN (R104). -/
def execAmin (c : Fin 96) (d a b : BitVec 5) (s : State) : Host.Outcome State Fault Refusal :=
  fin (atomic 6 d.toNat a.toNat b.toNat s c.val)
/-- AMAX (R104). -/
def execAmax (c : Fin 96) (d a b : BitVec 5) (s : State) : Host.Outcome State Fault Refusal :=
  fin (atomic 7 d.toNat a.toNat b.toNat s c.val)
/-- AMINU (R104). -/
def execAminu (c : Fin 96) (d a b : BitVec 5) (s : State) : Host.Outcome State Fault Refusal :=
  fin (atomic 8 d.toNat a.toNat b.toNat s c.val)
/-- AMAXU (R104). -/
def execAmaxu (c : Fin 96) (d a b : BitVec 5) (s : State) : Host.Outcome State Fault Refusal :=
  fin (atomic 9 d.toNat a.toNat b.toNat s c.val)
/-- IOLD (R105). -/
def execIold (c : Fin 96) (d a : BitVec 5) (imm : BitVec 15) (s : State) : Host.Outcome State Fault Refusal :=
  fin (iold d.toNat a.toNat (sx imm) s c.val)
/-- IOST (R105). -/
def execIost (c : Fin 96) (d a : BitVec 5) (imm : BitVec 15) (s : State) : Host.Outcome State Fault Refusal :=
  fin (s.long c.val 1 (sIost d.toNat a.toNat (sx imm)))
/-- CQPOST (R105). -/
def execCqpost (c : Fin 96) (d x : BitVec 5) (t : BitVec 3) (s : State) : Host.Outcome State Fault Refusal :=
  fin (s.long c.val 1 (sPost 0 d.toNat x.toNat t.toNat))
/-- ZQPOST (R105). -/
def execZqpost (c : Fin 96) (d x : BitVec 5) (t : BitVec 3) (s : State) : Host.Outcome State Fault Refusal :=
  fin (s.long c.val 1 (sPost 0x800 d.toNat x.toNat t.toNat))
/-- MVGO (R105). -/
def execMvgo (c : Fin 96) (d x : BitVec 5) (t : BitVec 3) (s : State) : Host.Outcome State Fault Refusal :=
  fin (s.long c.val 1 (sMvgo d.toNat x.toNat t.toNat))
/-- MVSYNC (R105). -/
def execMvsync (c : Fin 96) (d x : BitVec 5) (t : BitVec 3) (s : State) : Host.Outcome State Fault Refusal :=
  fin (mvsync d.toNat x.toNat t.toNat s c.val)
/-- JCOMMIT (R345). -/
def execJcommit (c : Fin 96) (d x : BitVec 5) (t : BitVec 3) (s : State) : Host.Outcome State Fault Refusal :=
  fin (s.long c.val 1 (sJcommit d.toNat x.toNat t.toNat))

end Sys2Proof.Machine
end

