-- ==== Sys2Proof/Machine/ExecBoot.lean ====
section
/-!
DEFINITION. Boot, reset and the register map (19_bringup.md, 20_register_map.md): one meaning per row, over the shared operations.
-/
namespace Sys2Proof.Machine

/-- POWER_GOOD (R427). -/
def execPowerGood (st : Straps) (s : State) : Host.Outcome State Fault Refusal := fin (s.opPowerGood st)
/-- BOOT_STAGE_DONE (R432). -/
def execBootStageDone (ms : BitVec 32) (facts : BootFacts) (s : State) : Host.Outcome State Fault Refusal :=
  fin (s.opBootStage ms.toNat facts)
/-- RECOVERY_MESSAGE (R434). -/
def execRecoveryMessage (img : RecImage) (s : State) : Host.Outcome State Fault Refusal := fin (s.opRecovery img)
/-- MODULE (R394). -/
def execModuleReset (w : Writer) (v : Word) (be : Byte) (s : State) : Host.Outcome State Fault Refusal :=
  fin (s.opRstCtl w v be)
/-- PAIR_GO (R428). -/
def execPairGo (w : Writer) (v : Word) (be : Byte) (s : State) : Host.Outcome State Fault Refusal :=
  fin (s.opRstCtl w v be)
/-- MGMT_WRITE (R446). -/
def execMgmtWrite (w : Writer) (t : MTgt) (v : Word) (be : Byte) (s : State) : Host.Outcome State Fault Refusal :=
  fin (s.opMgmtWrite w t v be)
/-- PART_BP_READ (R445). -/
def execPartBpRead (q : Fin 64) (be : Byte) (s : State) : Host.Outcome State Fault Refusal :=
  fin (s.opBpRead q.val be)
/-- PWR_VIN_READ (R445). -/
def execPwrVinRead (be : Byte) (s : State) : Host.Outcome State Fault Refusal := fin (s.opVinRead be)

end Sys2Proof.Machine
end

