-- ==== Sys2Proof/Machine/ExecCmp.lean ====
section
/-!
DEFINITION. Compression engines and Block Mover (12_compression_mover.md): one meaning per row, over the shared operations.
-/
namespace Sys2Proof.Machine

/-- COMPRESS (R282). -/
def execCompress (q : Fin 64) (n : Fin 32) (ce : Fin 8) (s : State) : Host.Outcome State Fault Refusal :=
  fin (s.opCompress 1 q.val n.val ce.val)
/-- DECOMPRESS (R287). -/
def execDecompress (q : Fin 64) (n : Fin 32) (ce : Fin 8) (s : State) : Host.Outcome State Fault Refusal :=
  fin (s.opCompress 2 q.val n.val ce.val)
/-- COMPRESS_ENGINE_DONE (R286). -/
def execCompressEngineDone (ce : Fin 8) (s : State) : Host.Outcome State Fault Refusal :=
  fin (s.opCompressDone ce.val)
/-- COMPRESS_ENGINE_ERROR (R289). -/
def execCompressEngineError (ce : Fin 8) (s : State) : Host.Outcome State Fault Refusal :=
  fin (s.opCompressError ce.val)
/-- MOVER_CHUNK (R291). -/
def execMoverChunk (ch : Fin 64) (s : State) : Host.Outcome State Fault Refusal := fin (s.opMoverChunk ch.val)
/-- MOVER_ABORT (R294). -/
def execMoverAbort (ch : Fin 64) (s : State) : Host.Outcome State Fault Refusal := fin (s.opMoverAbort ch.val)
/-- MOVER_SYNC_RETURN (R293). -/
def execMoverSyncReturn (ch : Fin 64) (c : Fin 96) (s : State) : Host.Outcome State Fault Refusal :=
  fin (s.opSyncReturn ch.val c.val)

end Sys2Proof.Machine
end

