-- ==== Sys2Proof/Machine/ExecCoh.lean ====
section
/-!
DEFINITION. Caches and coherence (07_caches_coherence.md): one meaning per row, over the shared operations.
-/
namespace Sys2Proof.Machine

/-- HOME_READSHARED (R159). -/
def execHomeReadshared (p : Fin 48) (line : BitVec 39) (s : State) : Host.Outcome State Fault Refusal :=
  fin (s.opHomeMiss .readShared p.val line.toNat)
/-- HOME_READOWN (R159). -/
def execHomeReadown (p : Fin 48) (line : BitVec 39) (s : State) : Host.Outcome State Fault Refusal :=
  fin (s.opHomeMiss .readOwn p.val line.toNat)
/-- HOME_UPGRADE (R159). -/
def execHomeUpgrade (p : Fin 48) (line : BitVec 39) (s : State) : Host.Outcome State Fault Refusal :=
  fin (s.opHomeMiss .upgrade p.val line.toNat)
/-- HOME_WRITEBACK (R159). -/
def execHomeWriteback (p : Fin 48) (line : BitVec 39) (s : State) : Host.Outcome State Fault Refusal :=
  fin (s.opHomeWriteBack p.val line.toNat)
/-- HOME_EVICTCLEAN (R159). -/
def execHomeEvictclean (p : Fin 48) (line : BitVec 39) (s : State) : Host.Outcome State Fault Refusal :=
  fin (s.opHomeEvictClean p.val line.toNat)
/-- HOME_WRITEFULL (R154). -/
def execHomeWritefull (p : Fin 48) (line : BitVec 39) (s : State) : Host.Outcome State Fault Refusal :=
  fin (s.opHomeMiss .writeFull p.val line.toNat)
/-- HOME_RELEASE (R154). -/
def execHomeRelease (p : Fin 48) (line : BitVec 39) (s : State) : Host.Outcome State Fault Refusal :=
  fin (s.opHomeRelease p.val line.toNat)
/-- HOME_CLEAN (R169). -/
def execHomeClean (p : Fin 48) (line : BitVec 39) (s : State) : Host.Outcome State Fault Refusal :=
  fin (s.opHomeOther (fun r => decide (r = .clean)) p.val line.toNat)
/-- HOME_FLUSH (R169). -/
def execHomeFlush (p : Fin 48) (line : BitVec 39) (s : State) : Host.Outcome State Fault Refusal :=
  fin (s.opHomeOther (fun r => decide (r = .flush)) p.val line.toNat)
/-- HOME_FAR_ATOMIC (R159). -/
def execHomeFarAtomic (p : Fin 48) (line : BitVec 39) (s : State) : Host.Outcome State Fault Refusal :=
  fin (s.opHomeOther isFar p.val line.toNat)
/-- HOME_SNOOP_ANSWER (R159). -/
def execHomeSnoopAnswer (p : Fin 48) (line : BitVec 39) (s : State) : Host.Outcome State Fault Refusal :=
  fin (s.opSnoopAnswer p.val line.toNat)
/-- L2_SNPSHARED (R158). -/
def execL2Snpshared (p : Fin 48) (line : BitVec 39) (s : State) : Host.Outcome State Fault Refusal :=
  fin (s.opSnpShared p.val line.toNat)
/-- L2_SNPCLEAN (R158). -/
def execL2Snpclean (p : Fin 48) (line : BitVec 39) (s : State) : Host.Outcome State Fault Refusal :=
  fin (s.opSnpClean p.val line.toNat)
/-- L2_SNPINV (R158). -/
def execL2Snpinv (p : Fin 48) (line : BitVec 39) (s : State) : Host.Outcome State Fault Refusal :=
  fin (s.opSnpInv p.val line.toNat)
/-- L2_GRANT (R158). -/
def execL2Grant (p : Fin 48) (line : BitVec 39) (way : Fin 16) (s : State) : Host.Outcome State Fault Refusal :=
  fin (s.opGrant p.val line.toNat way.val)
/-- L2_READY (R154). -/
def execL2Ready (p : Fin 48) (line : BitVec 39) (s : State) : Host.Outcome State Fault Refusal :=
  fin (s.opReady p.val line.toNat)
/-- L2_WBACK (R170). -/
def execL2Wback (p : Fin 48) (line : BitVec 39) (s : State) : Host.Outcome State Fault Refusal :=
  fin (s.opWback p.val line.toNat)
/-- L2_NACK (R160). -/
def execL2Nack (p : Fin 48) (line : BitVec 39) (s : State) : Host.Outcome State Fault Refusal :=
  fin (s.opNack p.val line.toNat)
/-- L2_NACK_RETRY (R160). -/
def execL2NackRetry (p : Fin 48) (line : BitVec 39) (s : State) : Host.Outcome State Fault Refusal :=
  fin (s.opNackRetry p.val line.toNat)
/-- EVICTION_WRITE_ACCEPTED (R157). -/
def execEvictionWriteAccepted (sl : Fin 24) (line : BitVec 39) (s : State) : Host.Outcome State Fault Refusal :=
  fin (s.opEvictionAccepted sl.val line.toNat)
/-- COHERENCE_TIMEOUT (R171). -/
def execCoherenceTimeout (agent : BitVec 8) (line : BitVec 39) (s : State) : Host.Outcome State Fault Refusal :=
  fin (s.opCohTimeout agent.toNat line.toNat)
/-- COHERENCE_LOSS (R172). -/
def execCoherenceLoss (sl : Fin 24) (cause : BitVec 4) (agent : BitVec 8) (line : BitVec 39) (s : State) : Host.Outcome State Fault Refusal :=
  fin (s.opCohLoss sl.val cause.toNat agent.toNat line.toNat)
/-- CAS_WAYS_WRITE (R167). -/
def execCasWaysWrite (w : Writer) (sl : Fin 24) (v : Word) (be : Byte) (s : State) : Host.Outcome State Fault Refusal :=
  fin (s.opCasWays w sl.val v be)
/-- CAS_CONVERT_DONE (R167). -/
def execCasConvertDone (sl : Fin 24) (s : State) : Host.Outcome State Fault Refusal := fin (s.opConvertDone sl.val)
/-- CAS_RELEASE_DONE (R167). -/
def execCasReleaseDone (sl : Fin 24) (s : State) : Host.Outcome State Fault Refusal := fin (s.opReleaseDone sl.val)
/-- PRED_CLEAR (R162). -/
def execPredClear (w : Writer) (p : Fin 48) (v : Word) (be : Byte) (s : State) : Host.Outcome State Fault Refusal :=
  fin (s.opPredClear w p.val v be)

end Sys2Proof.Machine
end

