-- ==== Sys2Proof/Machine/ExecCry.lean ====
section
/-!
DEFINITION. Crypto complex (11_crypto_complex.md): one meaning per row, over the shared operations.
-/
namespace Sys2Proof.Machine

/-- CQ_RESET_DONE (R270). -/
def execCqResetDone (q : Fin 64) (n : Fin 32) (s : State) : Host.Outcome State Fault Refusal :=
  fin (s.opCqResetDone q.val n.val)
/-- EC_SIGN (R264). -/
def execEcSign (q : Fin 64) (n : Fin 32) (e : Fin 112) (s : State) : Host.Outcome State Fault Refusal :=
  fin (s.opCrypto 0x10 q.val n.val e.val none)
/-- EC_VERIFY (R264). -/
def execEcVerify (q : Fin 64) (n : Fin 32) (e : Fin 112) (s : State) : Host.Outcome State Fault Refusal :=
  fin (s.opCrypto 0x11 q.val n.val e.val none)
/-- EC_DH (R264). -/
def execEcDh (q : Fin 64) (n : Fin 32) (e : Fin 112) (s : State) : Host.Outcome State Fault Refusal :=
  fin (s.opCrypto 0x12 q.val n.val e.val none)
/-- EC_KEYGEN (R264). -/
def execEcKeygen (q : Fin 64) (n : Fin 32) (e : Fin 112) (s : State) : Host.Outcome State Fault Refusal :=
  fin (s.opCrypto 0x13 q.val n.val e.val none)
/-- ED_SIGN (R264). -/
def execEdSign (q : Fin 64) (n : Fin 32) (e : Fin 112) (s : State) : Host.Outcome State Fault Refusal :=
  fin (s.opCrypto 0x14 q.val n.val e.val none)
/-- ED_VERIFY (R264). -/
def execEdVerify (q : Fin 64) (n : Fin 32) (e : Fin 112) (s : State) : Host.Outcome State Fault Refusal :=
  fin (s.opCrypto 0x15 q.val n.val e.val none)
/-- ED_KEYGEN (R264). -/
def execEdKeygen (q : Fin 64) (n : Fin 32) (e : Fin 112) (s : State) : Host.Outcome State Fault Refusal :=
  fin (s.opCrypto 0x16 q.val n.val e.val none)
/-- RSA_SIGN (R264). -/
def execRsaSign (q : Fin 64) (n : Fin 32) (e : Fin 112) (s : State) : Host.Outcome State Fault Refusal :=
  fin (s.opCrypto 0x18 q.val n.val e.val none)
/-- RSA_VERIFY (R264). -/
def execRsaVerify (q : Fin 64) (n : Fin 32) (e : Fin 112) (s : State) : Host.Outcome State Fault Refusal :=
  fin (s.opCrypto 0x19 q.val n.val e.val none)
/-- RSA_ENCRYPT (R264). -/
def execRsaEncrypt (q : Fin 64) (n : Fin 32) (e : Fin 112) (s : State) : Host.Outcome State Fault Refusal :=
  fin (s.opCrypto 0x1A q.val n.val e.val none)
/-- RSA_DECRYPT (R264). -/
def execRsaDecrypt (q : Fin 64) (n : Fin 32) (e : Fin 112) (s : State) : Host.Outcome State Fault Refusal :=
  fin (s.opCrypto 0x1B q.val n.val e.val none)
/-- MLDSA_KEYGEN (R264). -/
def execMldsaKeygen (q : Fin 64) (n : Fin 32) (e : Fin 112) (s : State) : Host.Outcome State Fault Refusal :=
  fin (s.opCrypto 0x20 q.val n.val e.val none)
/-- MLDSA_SIGN (R265). -/
def execMldsaSign (q : Fin 64) (n : Fin 32) (e : Fin 112) (s : State) : Host.Outcome State Fault Refusal :=
  fin (s.opCrypto 0x21 q.val n.val e.val none)
/-- MLDSA_VERIFY (R265). -/
def execMldsaVerify (q : Fin 64) (n : Fin 32) (e : Fin 112) (s : State) : Host.Outcome State Fault Refusal :=
  fin (s.opCrypto 0x22 q.val n.val e.val none)
/-- MLKEM_KEYGEN (R264). -/
def execMlkemKeygen (q : Fin 64) (n : Fin 32) (e : Fin 112) (s : State) : Host.Outcome State Fault Refusal :=
  fin (s.opCrypto 0x24 q.val n.val e.val none)
/-- MLKEM_ENCAPS (R264). -/
def execMlkemEncaps (q : Fin 64) (n : Fin 32) (e : Fin 112) (s : State) : Host.Outcome State Fault Refusal :=
  fin (s.opCrypto 0x25 q.val n.val e.val none)
/-- MLKEM_DECAPS (R264). -/
def execMlkemDecaps (q : Fin 64) (n : Fin 32) (e : Fin 112) (s : State) : Host.Outcome State Fault Refusal :=
  fin (s.opCrypto 0x26 q.val n.val e.val none)
/-- HYBRID_SIGN (R272). -/
def execHybridSign (q : Fin 64) (n : Fin 32) (e : Fin 112) (e2 : Fin 112) (s : State) : Host.Outcome State Fault Refusal :=
  fin (s.opCrypto 0x28 q.val n.val e.val (some e2.val))
/-- HYBRID_VERIFY (R272). -/
def execHybridVerify (q : Fin 64) (n : Fin 32) (e : Fin 112) (e2 : Fin 112) (s : State) : Host.Outcome State Fault Refusal :=
  fin (s.opCrypto 0x29 q.val n.val e.val (some e2.val))
/-- AES_ENC (R264). -/
def execAesEnc (q : Fin 64) (n : Fin 32) (e : Fin 112) (s : State) : Host.Outcome State Fault Refusal :=
  fin (s.opCrypto 0x30 q.val n.val e.val none)
/-- AES_DEC (R264). -/
def execAesDec (q : Fin 64) (n : Fin 32) (e : Fin 112) (s : State) : Host.Outcome State Fault Refusal :=
  fin (s.opCrypto 0x31 q.val n.val e.val none)
/-- GCM_SEAL (R264). -/
def execGcmSeal (q : Fin 64) (n : Fin 32) (e : Fin 112) (s : State) : Host.Outcome State Fault Refusal :=
  fin (s.opCrypto 0x32 q.val n.val e.val none)
/-- GCM_OPEN (R269). -/
def execGcmOpen (q : Fin 64) (n : Fin 32) (e : Fin 112) (s : State) : Host.Outcome State Fault Refusal :=
  fin (s.opCrypto 0x33 q.val n.val e.val none)
/-- TDEA_ENC (R264). -/
def execTdeaEnc (q : Fin 64) (n : Fin 32) (e : Fin 112) (s : State) : Host.Outcome State Fault Refusal :=
  fin (s.opCrypto 0x34 q.val n.val e.val none)
/-- TDEA_DEC (R264). -/
def execTdeaDec (q : Fin 64) (n : Fin 32) (e : Fin 112) (s : State) : Host.Outcome State Fault Refusal :=
  fin (s.opCrypto 0x35 q.val n.val e.val none)
/-- HASH (R264). -/
def execHash (q : Fin 64) (n : Fin 32) (e : Fin 112) (s : State) : Host.Outcome State Fault Refusal :=
  fin (s.opCrypto 0x38 q.val n.val e.val none)
/-- HMAC_GEN (R264). -/
def execHmacGen (q : Fin 64) (n : Fin 32) (e : Fin 112) (s : State) : Host.Outcome State Fault Refusal :=
  fin (s.opCrypto 0x3A q.val n.val e.val none)
/-- HMAC_VER (R264). -/
def execHmacVer (q : Fin 64) (n : Fin 32) (e : Fin 112) (s : State) : Host.Outcome State Fault Refusal :=
  fin (s.opCrypto 0x3B q.val n.val e.val none)
/-- CMAC_GEN (R264). -/
def execCmacGen (q : Fin 64) (n : Fin 32) (e : Fin 112) (s : State) : Host.Outcome State Fault Refusal :=
  fin (s.opCrypto 0x3C q.val n.val e.val none)
/-- CMAC_VER (R264). -/
def execCmacVer (q : Fin 64) (n : Fin 32) (e : Fin 112) (s : State) : Host.Outcome State Fault Refusal :=
  fin (s.opCrypto 0x3D q.val n.val e.val none)
/-- MAC3_GEN (R264). -/
def execMac3Gen (q : Fin 64) (n : Fin 32) (e : Fin 112) (s : State) : Host.Outcome State Fault Refusal :=
  fin (s.opCrypto 0x3E q.val n.val e.val none)
/-- MAC3_VER (R264). -/
def execMac3Ver (q : Fin 64) (n : Fin 32) (e : Fin 112) (s : State) : Host.Outcome State Fault Refusal :=
  fin (s.opCrypto 0x3F q.val n.val e.val none)
/-- PIN_XLATE (R271). -/
def execPinXlate (q : Fin 64) (n : Fin 32) (e : Fin 112) (s : State) : Host.Outcome State Fault Refusal :=
  fin (s.opCrypto 0x40 q.val n.val e.val none)
/-- KEY_GEN (R264). -/
def execKeyGen (q : Fin 64) (n : Fin 32) (e : Fin 112) (s : State) : Host.Outcome State Fault Refusal :=
  fin (s.opCrypto 0x50 q.val n.val e.val none)
/-- KEY_DERIVE (R264). -/
def execKeyDerive (q : Fin 64) (n : Fin 32) (e : Fin 112) (s : State) : Host.Outcome State Fault Refusal :=
  fin (s.opCrypto 0x51 q.val n.val e.val none)
/-- KEY_IMPORT (R273). -/
def execKeyImport (q : Fin 64) (n : Fin 32) (e : Fin 112) (s : State) : Host.Outcome State Fault Refusal :=
  fin (s.opCrypto 0x52 q.val n.val e.val none)
/-- KEY_EXPORT (R273). -/
def execKeyExport (q : Fin 64) (n : Fin 32) (e : Fin 112) (s : State) : Host.Outcome State Fault Refusal :=
  fin (s.opCrypto 0x53 q.val n.val e.val none)
/-- KEY_DESTROY (R261). -/
def execKeyDestroy (q : Fin 64) (n : Fin 32) (s : State) : Host.Outcome State Fault Refusal :=
  fin (s.opKeyDestroy q.val n.val)
/-- KEY_INFO (R258). -/
def execKeyInfo (q : Fin 64) (n : Fin 32) (s : State) : Host.Outcome State Fault Refusal :=
  fin (s.opKeyInfo q.val n.val)
/-- KEY_LOOKUP (R274). -/
def execKeyLookup (q : Fin 64) (n : Fin 32) (s : State) : Host.Outcome State Fault Refusal :=
  fin (s.opKeyLookup q.val n.val)
/-- KEY_PUBLIC (R264). -/
def execKeyPublic (q : Fin 64) (n : Fin 32) (s : State) : Host.Outcome State Fault Refusal :=
  fin (s.opKeyPublic q.val n.val)
/-- RANDOM (R256). -/
def execRandom (q : Fin 64) (n : Fin 32) (e : Fin 112) (s : State) : Host.Outcome State Fault Refusal :=
  fin (s.opCrypto 0x60 q.val n.val e.val none)
/-- CRYPTO_ENGINE_DONE (R267). -/
def execCryptoEngineDone (e : Fin 112) (s : State) : Host.Outcome State Fault Refusal := fin (s.opEngineDone e.val)
/-- CRYPTO_ENGINE_ERROR (R279). -/
def execCryptoEngineError (e : Fin 112) (s : State) : Host.Outcome State Fault Refusal :=
  fin (s.opEngineError e.val)
/-- DRBG_RESEED (R256). -/
def execDrbgReseed (i : Fin 4) (s : State) : Host.Outcome State Fault Refusal := fin (s.opDrbgReseed i.val)
/-- ENTROPY_FAIL (R256). -/
def execEntropyFail (s : State) : Host.Outcome State Fault Refusal := fin (s.opEntropyFail)
/-- ENTROPY_RESTART (R256). -/
def execEntropyRestart (s : State) : Host.Outcome State Fault Refusal := fin (s.opEntropyRestart)
/-- KEY_ERASE (R261). -/
def execKeyErase (dom : Fin 64) (index : Fin 16384) (s : State) : Host.Outcome State Fault Refusal :=
  fin (s.opKeyErase dom.val index.val)
/-- VAULT_CHANGE_DURABLE (R260). -/
def execVaultChangeDurable (dom : Fin 64) (index : Fin 16384) (backupOk : Bool) (s : State) : Host.Outcome State Fault Refusal :=
  fin (s.opVaultDurable dom.val index.val backupOk)
/-- KV_UNCORRECTED (R279). -/
def execKvUncorrected (dom : Fin 64) (index : Fin 16384) (s : State) : Host.Outcome State Fault Refusal :=
  fin (s.opKvUncorrected dom.val index.val)
/-- KEY_COMPONENT (R276). -/
def execKeyComponent (wo : Fin 32768) (d : Desc) (rd : HostRd) (s : State) : Host.Outcome State Fault Refusal :=
  fin (s.opKeyCmd 0x40 wo.val d rd fun s a b => s.cmdComponent wo.val a b)
/-- KEY_COMBINE (R276). -/
def execKeyCombine (wo : Fin 32768) (d : Desc) (rd : HostRd) (s : State) : Host.Outcome State Fault Refusal :=
  fin (s.opKeyCmd 0x41 wo.val d rd fun s a b => s.cmdCombine wo.val a b)
/-- KEY_COMPONENT_CLEAR (R276). -/
def execKeyComponentClear (wo : Fin 32768) (d : Desc) (rd : HostRd) (s : State) : Host.Outcome State Fault Refusal :=
  fin (s.opKeyCmd 0x42 wo.val d rd fun s a _ => s.cmdClear wo.val a)
/-- KEY_LOAD_BLOCK (R275). -/
def execKeyLoadBlock (wo : Fin 32768) (d : Desc) (rd : HostRd) (s : State) : Host.Outcome State Fault Refusal :=
  fin (s.opKeyCmd 0x43 wo.val d rd fun s a b => s.cmdLoad wo.val a b)
/-- KEY_UNLOAD_BLOCK (R275). -/
def execKeyUnloadBlock (wo : Fin 32768) (d : Desc) (rd : HostRd) (s : State) : Host.Outcome State Fault Refusal :=
  fin (s.opKeyCmd 0x44 wo.val d rd fun s a b => s.cmdUnload wo.val a b)
/-- KEY_DELETE (R275). -/
def execKeyDelete (wo : Fin 32768) (d : Desc) (rd : HostRd) (s : State) : Host.Outcome State Fault Refusal :=
  fin (s.opKeyCmd 0x45 wo.val d rd fun s a b => s.cmdDelete wo.val a b)
/-- KEY_QUERY (R275). -/
def execKeyQuery (wo : Fin 32768) (d : Desc) (rd : HostRd) (s : State) : Host.Outcome State Fault Refusal :=
  fin (s.opKeyCmd 0x46 wo.val d rd fun s a b => s.cmdQuery wo.val a b)
/-- COMPONENT_EXPIRY (R276). -/
def execComponentExpiry (dom : Fin 64) (s : State) : Host.Outcome State Fault Refusal :=
  fin (s.opComponentExpiry dom.val)

end Sys2Proof.Machine
end

