-- ==== Sys2Proof/Machine/ExecDec.lean ====
section
/-!
DEFINITION. Unit-of-work and packed-decimal instructions (R106, R107): one meaning per row, over the shared operations.
-/
namespace Sys2Proof.Machine

/-- MOVB (R77). -/
def execMovb (c : Fin 96) (d x : BitVec 5) (t : BitVec 3) (s : State) : Host.Outcome State Fault Refusal :=
  fin (s.micro c.val 0x100 (uMovb d.toNat x.toNat t.toNat))
/-- FILLB (R106). -/
def execFillb (c : Fin 96) (d x : BitVec 5) (t : BitVec 3) (s : State) : Host.Outcome State Fault Refusal :=
  fin (s.micro c.val 0x101 (uFillb d.toNat x.toNat t.toNat))
/-- CMPB (R106). -/
def execCmpb (c : Fin 96) (d x : BitVec 5) (t : BitVec 3) (s : State) : Host.Outcome State Fault Refusal :=
  fin (s.micro c.val 0x102 (uCmpb d.toNat x.toNat t.toNat))
/-- SCANB (R106). -/
def execScanb (c : Fin 96) (d x : BitVec 5) (t : BitVec 3) (s : State) : Host.Outcome State Fault Refusal :=
  fin (s.micro c.val 0x103 (uScanb d.toNat x.toNat t.toNat))
/-- MAPB (R106). -/
def execMapb (c : Fin 96) (d x : BitVec 5) (t : BitVec 3) (s : State) : Host.Outcome State Fault Refusal :=
  fin (s.micro c.val 0x104 (uMapb d.toNat x.toNat t.toNat))
/-- CRCB (R106). -/
def execCrcb (c : Fin 96) (d x : BitVec 5) (t : BitVec 3) (s : State) : Host.Outcome State Fault Refusal :=
  fin (s.micro c.val 0x105 (uCrcb d.toNat x.toNat t.toNat))
/-- DADD (R107). -/
def execDadd (c : Fin 96) (l1 l2 b1 b2 : BitVec 5) (s : State) : Host.Outcome State Fault Refusal :=
  fin (s.micro c.val 0xD00 (dAdd false l1.toNat l2.toNat b1.toNat b2.toNat))
/-- DSUB (R107). -/
def execDsub (c : Fin 96) (l1 l2 b1 b2 : BitVec 5) (s : State) : Host.Outcome State Fault Refusal :=
  fin (s.micro c.val 0xD01 (dAdd true l1.toNat l2.toNat b1.toNat b2.toNat))
/-- DMUL (R131). -/
def execDmul (c : Fin 96) (l1 l2 b1 b2 : BitVec 5) (s : State) : Host.Outcome State Fault Refusal :=
  fin (s.micro c.val 0xD02 (dMul l1.toNat l2.toNat b1.toNat b2.toNat))
/-- DDIV (R131). -/
def execDdiv (c : Fin 96) (l1 l2 b1 b2 : BitVec 5) (s : State) : Host.Outcome State Fault Refusal :=
  fin (s.micro c.val 0xD03 (dDiv l1.toNat l2.toNat b1.toNat b2.toNat))
/-- DREM (R131). -/
def execDrem (c : Fin 96) (l1 l2 b1 b2 : BitVec 5) (s : State) : Host.Outcome State Fault Refusal :=
  fin (s.micro c.val 0xD04 (dRem l1.toNat l2.toNat b1.toNat b2.toNat))
/-- DSRR (R130). -/
def execDsrr (c : Fin 96) (l1 l2 b1 b2 : BitVec 5) (s : State) : Host.Outcome State Fault Refusal :=
  fin (s.micro c.val 0xD05 (dSrr l1.toNat l2.toNat b1.toNat b2.toNat))
/-- DCMP (R107). -/
def execDcmp (c : Fin 96) (l1 l2 b1 b2 : BitVec 5) (s : State) : Host.Outcome State Fault Refusal :=
  fin (s.micro c.val 0xD06 (dCmp l1.toNat l2.toNat b1.toNat b2.toNat))
/-- DZADD (R107). -/
def execDzadd (c : Fin 96) (l1 l2 b1 b2 : BitVec 5) (s : State) : Host.Outcome State Fault Refusal :=
  fin (s.micro c.val 0xD07 (dZadd l1.toNat l2.toNat b1.toNat b2.toNat))
/-- DTEST (R107). -/
def execDtest (c : Fin 96) (l1 l2 b1 b2 : BitVec 5) (s : State) : Host.Outcome State Fault Refusal :=
  fin (s.micro c.val 0xD08 (dTest l1.toNat l2.toNat b1.toNat b2.toNat))
/-- CVDB (R132). -/
def execCvdb (c : Fin 96) (l1 l2 b1 b2 : BitVec 5) (s : State) : Host.Outcome State Fault Refusal :=
  fin (s.micro c.val 0xD09 (dCvdb l1.toNat l2.toNat b1.toNat b2.toNat))
/-- CVBD (R132). -/
def execCvbd (c : Fin 96) (l1 l2 b1 b2 : BitVec 5) (s : State) : Host.Outcome State Fault Refusal :=
  fin (s.micro c.val 0xD0A (dCvbd l1.toNat l2.toNat b1.toNat b2.toNat))
/-- PACKA (R132). -/
def execPacka (c : Fin 96) (l1 l2 b1 b2 : BitVec 5) (s : State) : Host.Outcome State Fault Refusal :=
  fin (s.micro c.val 0xD0B (dPacka l1.toNat l2.toNat b1.toNat b2.toNat))
/-- UNPKA (R132). -/
def execUnpka (c : Fin 96) (l1 l2 b1 b2 : BitVec 5) (s : State) : Host.Outcome State Fault Refusal :=
  fin (s.micro c.val 0xD0C (dUnpka l1.toNat l2.toNat b1.toNat b2.toNat))

end Sys2Proof.Machine
end

