-- ==== Sys2Proof/Machine/ExecDpx.lean ====
section
/-!
DEFINITION. Duplex operation (16_duplex.md): one meaning per row, over the shared operations.
-/
namespace Sys2Proof.Machine

/-- DUPLEX_FORMING (R367). -/
def execDuplexForming (s : State) : Host.Outcome State Fault Refusal := fin (s.opDuplexForming)
/-- HELLO_TIMER (R369). -/
def execHelloTimer (s : State) : Host.Outcome State Fault Refusal := fin (s.opHelloTimer)
/-- HELLO (R368). -/
def execHello (j : Fin 8) (fr : Frame) (s : State) : Host.Outcome State Fault Refusal := fin (s.opHello j.val fr)
/-- HEARTBEAT_TIMER (R374). -/
def execHeartbeatTimer (s : State) : Host.Outcome State Fault Refusal := fin (s.opHeartbeatTimer)
/-- SIDEBAND_TIMER (R375). -/
def execSidebandTimer (s : State) : Host.Outcome State Fault Refusal := fin (s.opSidebandTimer)
/-- HEARTBEAT (R373). -/
def execHeartbeat (j : Fin 8) (fr : Frame) (s : State) : Host.Outcome State Fault Refusal :=
  fin (s.opHeartbeat j.val fr)
/-- TIME_SLEW (R373). -/
def execTimeSlew (s : State) : Host.Outcome State Fault Refusal := fin (s.opTimeSlew)
/-- SIDEBAND_WORD (R376). -/
def execSidebandWord (chars : BitVec 72) (s : State) : Host.Outcome State Fault Refusal :=
  fin (s.opSidebandWord chars)
/-- GOODBYE (R376). -/
def execGoodbye (j : Fin 8) (fr : Frame) (s : State) : Host.Outcome State Fault Refusal :=
  fin (s.opGoodbye j.val fr)
/-- MIRROR_ACK (R370). -/
def execMirrorAck (j : Fin 8) (fr : Frame) (s : State) : Host.Outcome State Fault Refusal :=
  fin (s.opMirrorAck j.val fr)
/-- JOURNAL_ITEM (R371). -/
def execJournalItem (j : Fin 8) (fr : Frame) (s : State) : Host.Outcome State Fault Refusal :=
  fin (s.opItem 1 j.val fr)
/-- WORK_ORDER_ITEM (R369). -/
def execWorkOrderItem (j : Fin 8) (fr : Frame) (s : State) : Host.Outcome State Fault Refusal :=
  fin (s.opItem 2 j.val fr)
/-- EXCHANGE_ITEM (R369). -/
def execExchangeItem (j : Fin 8) (fr : Frame) (s : State) : Host.Outcome State Fault Refusal :=
  fin (s.opItem 3 j.val fr)
/-- PART_WRITE_ITEM (R371). -/
def execPartWriteItem (j : Fin 8) (fr : Frame) (s : State) : Host.Outcome State Fault Refusal :=
  fin (s.opItem 4 j.val fr)
/-- VAULT_ITEM (R260). -/
def execVaultItem (j : Fin 8) (fr : Frame) (s : State) : Host.Outcome State Fault Refusal :=
  fin (s.opItem 5 j.val fr)
/-- SNAPSHOT (R382). -/
def execSnapshot (j : Fin 8) (fr : Frame) (s : State) : Host.Outcome State Fault Refusal :=
  fin (s.opItem 6 j.val fr)
/-- SNAPSHOT_END (R382). -/
def execSnapshotEnd (j : Fin 8) (fr : Frame) (s : State) : Host.Outcome State Fault Refusal :=
  fin (s.opItem 7 j.val fr)
/-- MIGRATE (R249). -/
def execMigrate (j : Fin 8) (fr : Frame) (s : State) : Host.Outcome State Fault Refusal := fin (s.opItem 8 j.val fr)
/-- MIGRATE_RSP (R249). -/
def execMigrateRsp (j : Fin 8) (fr : Frame) (s : State) : Host.Outcome State Fault Refusal :=
  fin (s.opMigrateRsp j.val fr)
/-- MAILBOX (R243). -/
def execMailbox (j : Fin 8) (fr : Frame) (s : State) : Host.Outcome State Fault Refusal :=
  fin (s.opMailbox j.val fr)
/-- MAILBOX_ACK (R243). -/
def execMailboxAck (j : Fin 8) (fr : Frame) (s : State) : Host.Outcome State Fault Refusal :=
  fin (s.opMailboxAck j.val fr)
/-- PATH_SILENT (R367). -/
def execPathSilent (courier : Bool) (s : State) : Host.Outcome State Fault Refusal := fin (s.opPathSilent courier)
/-- PATHS_HEARD (R367). -/
def execPathsHeard (s : State) : Host.Outcome State Fault Refusal := fin (s.opPathsHeard)
/-- SELF_FENCE (R377). -/
def execSelfFence (s : State) : Host.Outcome State Fault Refusal := fin (s.opSelfFence)
/-- PARTNER_LOSS (R367). -/
def execPartnerLoss (s : State) : Host.Outcome State Fault Refusal := fin (s.opPartnerLoss)
/-- PROMOTION_COMPLETE (R378). -/
def execPromotionComplete (s : State) : Host.Outcome State Fault Refusal := fin (s.opPromotionDone)
/-- CONFIRM_ALONE (R367). -/
def execConfirmAlone (w : Writer) (v : Word) (be : Byte) (s : State) : Host.Outcome State Fault Refusal :=
  fin (s.opDpxCtl w v be)
/-- HANDOVER (R383). -/
def execHandover (w : Writer) (v : Word) (be : Byte) (s : State) : Host.Outcome State Fault Refusal :=
  fin (s.opDpxCtl w v be)

end Sys2Proof.Machine
end

