-- ==== Sys2Proof/Machine/ExecFlow.lean ====
section
/-!
DEFINITION. Branches, loops and paired words (R64, R65, R90, R91, R95, R100): one meaning per row, over the shared operations.
-/
namespace Sys2Proof.Machine

/-- B (R100). -/
def execB (c : Fin 96) (disp : BitVec 25) (s : State) : Host.Outcome State Fault Refusal :=
  fin (s.long c.val 0 (iB (sx disp)))
/-- CALL (R100). -/
def execCall (c : Fin 96) (d : BitVec 5) (imm : BitVec 20) (s : State) : Host.Outcome State Fault Refusal :=
  fin (s.long c.val 0 (iCall d.toNat (sx imm)))
/-- BC (R95). -/
def execBc (c : Fin 96) (cond : BitVec 3) (disp : BitVec 22) (s : State) : Host.Outcome State Fault Refusal :=
  fin (s.long c.val 0 (iBc cond (sx disp)))
/-- CB (R95). -/
def execCb (c : Fin 96) (cond : BitVec 3) (a b : BitVec 5) (disp : BitVec 12) (s : State) : Host.Outcome State Fault Refusal :=
  fin (s.long c.val 0 (iCb cond a.toNat b.toNat (sx disp)))
/-- LOOP (R64). -/
def execLoop (c : Fin 96) (d : BitVec 5) (imm : BitVec 20) (s : State) : Host.Outcome State Fault Refusal :=
  fin (s.long c.val 0 (iLoop d.toNat (sx imm)))
/-- BR (R100). -/
def execBr (c : Fin 96) (d a b : BitVec 5) (s : State) : Host.Outcome State Fault Refusal :=
  fin (s.long c.val 0 (iBr d.toNat a.toNat b.toNat))
/-- CALLR (R100). -/
def execCallr (c : Fin 96) (d a b : BitVec 5) (s : State) : Host.Outcome State Fault Refusal :=
  fin (s.long c.val 0 (iCallr d.toNat a.toNat b.toNat))
/-- LEXIT (R65). -/
def execLexit (c : Fin 96) (d x : BitVec 5) (t : BitVec 3) (s : State) : Host.Outcome State Fault Refusal :=
  fin (s.long c.val 0 (iLexit d.toNat x.toNat t.toNat))
/-- SHORT_NOP (R90). -/
def execShortNop (c : Fin 96) (d a : BitVec 5) (s : State) : Host.Outcome State Fault Refusal :=
  fin (s.insn c.val 2 2 (pairOp (0#5 ++ d ++ a) 0))
/-- PAIRED_WORD (R91). -/
def execPairedWord (c : Fin 96) (slotA slotB : BitVec 15) (s : State) : Host.Outcome State Fault Refusal :=
  fin (s.insn c.val 2 2 (pairOp slotA slotB))

end Sys2Proof.Machine
end

