-- ==== Sys2Proof/Machine/ExecFlt.lean ====
section
/-!
DEFINITION. Fault logic (17_faults.md): one meaning per row, over the shared operations.
-/
namespace Sys2Proof.Machine

/-- FAULT_EVENT (R390). -/
def execFaultEvent (src : Fin 256) (ev : Fin 16) (s : State) : Host.Outcome State Fault Refusal :=
  fin (s.opFaultEvent src.val ev.val)
/-- MODULE_RESET_BEGIN (R394). -/
def execModuleResetBegin (st : Straps) (s : State) : Host.Outcome State Fault Refusal := fin (s.opModuleReset st)
/-- LANTERN_TOGGLE (R459). -/
def execLanternToggle (s : State) : Host.Outcome State Fault Refusal := fin (s.opLanternToggle)
/-- FLT_WINDOW_WRITE (R389). -/
def execFltWindowWrite (w : Writer) (src : Fin 256) (v : Word) (be : Byte) (s : State) : Host.Outcome State Fault Refusal :=
  fin (s.opWindow w src.val v be)
/-- FLT_FORCE (R399). -/
def execFltForce (w : Writer) (src : Fin 256) (v : Word) (be : Byte) (s : State) : Host.Outcome State Fault Refusal :=
  fin (s.opForce w src.val v be)
/-- FLT_STATUS_CLEAR (R392). -/
def execFltStatusClear (w : Writer) (src : Fin 256) (v : Word) (be : Byte) (s : State) : Host.Outcome State Fault Refusal :=
  fin (s.opStatusClear w src.val v be)
/-- KICK (R397). -/
def execKick (w : Writer) (v : Word) (be : Byte) (s : State) : Host.Outcome State Fault Refusal :=
  fin (s.opKick w v be)
/-- WDT_EXPIRED (R402). -/
def execWdtExpired (s : State) : Host.Outcome State Fault Refusal := fin (s.opWdtExpired)
/-- CAP_LOCK_FLT (R448). -/
def execCapLockFlt (w : Writer) (v : Word) (be : Byte) (s : State) : Host.Outcome State Fault Refusal :=
  fin (s.opCapLock w v be)

end Sys2Proof.Machine
end

