-- ==== Sys2Proof/Machine/ExecFp.lean ====
section
/-!
DEFINITION. Binary floating point (R102, R103): one meaning per row, over the shared operations.
-/
namespace Sys2Proof.Machine

/-- FADD (R114). -/
def execFadd (c : Fin 96) (fmt : BitVec 2) (d a b : BitVec 5) (s : State) : Host.Outcome State Fault Refusal :=
  fin (s.long c.val 0 (fAdd false fmt.toNat d.toNat a.toNat b.toNat))
/-- FSUB (R114). -/
def execFsub (c : Fin 96) (fmt : BitVec 2) (d a b : BitVec 5) (s : State) : Host.Outcome State Fault Refusal :=
  fin (s.long c.val 0 (fAdd true fmt.toNat d.toNat a.toNat b.toNat))
/-- FMUL (R114). -/
def execFmul (c : Fin 96) (fmt : BitVec 2) (d a b : BitVec 5) (s : State) : Host.Outcome State Fault Refusal :=
  fin (s.long c.val 0 (fMul fmt.toNat d.toNat a.toNat b.toNat))
/-- FDIV (R113). -/
def execFdiv (c : Fin 96) (fmt : BitVec 2) (d a b : BitVec 5) (s : State) : Host.Outcome State Fault Refusal :=
  fin (s.long c.val 0 (fDiv fmt.toNat d.toNat a.toNat b.toNat))
/-- FSQRT (R113). -/
def execFsqrt (c : Fin 96) (fmt : BitVec 2) (d a b : BitVec 5) (s : State) : Host.Outcome State Fault Refusal :=
  fin (s.long c.val 0 (fSqrt fmt.toNat d.toNat a.toNat b.toNat))
/-- FMIN (R121). -/
def execFmin (c : Fin 96) (fmt : BitVec 2) (d a b : BitVec 5) (s : State) : Host.Outcome State Fault Refusal :=
  fin (s.long c.val 0 (fMinMax false fmt.toNat d.toNat a.toNat b.toNat))
/-- FMAX (R121). -/
def execFmax (c : Fin 96) (fmt : BitVec 2) (d a b : BitVec 5) (s : State) : Host.Outcome State Fault Refusal :=
  fin (s.long c.val 0 (fMinMax true fmt.toNat d.toNat a.toNat b.toNat))
/-- FABS (R119). -/
def execFabs (c : Fin 96) (fmt : BitVec 2) (d a b : BitVec 5) (s : State) : Host.Outcome State Fault Refusal :=
  fin (s.long c.val 0 (fSign Fmt.fabs fmt.toNat d.toNat a.toNat b.toNat))
/-- FNEG (R119). -/
def execFneg (c : Fin 96) (fmt : BitVec 2) (d a b : BitVec 5) (s : State) : Host.Outcome State Fault Refusal :=
  fin (s.long c.val 0 (fSign Fmt.fneg fmt.toNat d.toNat a.toNat b.toNat))
/-- FCPYS (R119). -/
def execFcpys (c : Fin 96) (fmt : BitVec 2) (d a b : BitVec 5) (s : State) : Host.Outcome State Fault Refusal :=
  fin (s.long c.val 0 (fSign Fmt.fcpys fmt.toNat d.toNat a.toNat b.toNat))
/-- FCMP (R121). -/
def execFcmp (c : Fin 96) (fmt : BitVec 2) (d a b : BitVec 5) (s : State) : Host.Outcome State Fault Refusal :=
  fin (s.long c.val 0 (fCmp false fmt.toNat d.toNat a.toNat b.toNat))
/-- FCMPS (R121). -/
def execFcmps (c : Fin 96) (fmt : BitVec 2) (d a b : BitVec 5) (s : State) : Host.Outcome State Fault Refusal :=
  fin (s.long c.val 0 (fCmp true fmt.toNat d.toNat a.toNat b.toNat))
/-- FCVT_D_S (R122). -/
def execFcvtDS (c : Fin 96) (fmt : BitVec 2) (d a _b : BitVec 5) (s : State) : Host.Outcome State Fault Refusal :=
  fin (s.long c.val 0 (fCvt true fmt.toNat d.toNat a.toNat))
/-- FCVT_S_D (R122). -/
def execFcvtSD (c : Fin 96) (fmt : BitVec 2) (d a _b : BitVec 5) (s : State) : Host.Outcome State Fault Refusal :=
  fin (s.long c.val 0 (fCvt false fmt.toNat d.toNat a.toNat))
/-- FCVT_L (R122). -/
def execFcvtL (c : Fin 96) (fmt : BitVec 2) (d a _b : BitVec 5) (s : State) : Host.Outcome State Fault Refusal :=
  fin (s.long c.val 0 (fToInt true fmt.toNat d.toNat a.toNat))
/-- FCVT_LU (R122). -/
def execFcvtLu (c : Fin 96) (fmt : BitVec 2) (d a _b : BitVec 5) (s : State) : Host.Outcome State Fault Refusal :=
  fin (s.long c.val 0 (fToInt false fmt.toNat d.toNat a.toNat))
/-- FCVT_FL (R122). -/
def execFcvtFl (c : Fin 96) (fmt : BitVec 2) (d a _b : BitVec 5) (s : State) : Host.Outcome State Fault Refusal :=
  fin (s.long c.val 0 (fOfInt true fmt.toNat d.toNat a.toNat))
/-- FCVT_FLU (R122). -/
def execFcvtFlu (c : Fin 96) (fmt : BitVec 2) (d a _b : BitVec 5) (s : State) : Host.Outcome State Fault Refusal :=
  fin (s.long c.val 0 (fOfInt false fmt.toNat d.toNat a.toNat))
/-- FMV_FG (R102). -/
def execFmvFg (c : Fin 96) (fmt : BitVec 2) (d a _b : BitVec 5) (s : State) : Host.Outcome State Fault Refusal :=
  fin (s.long c.val 0 (fMvFg fmt.toNat d.toNat a.toNat))
/-- FMV_GF (R102). -/
def execFmvGf (c : Fin 96) (fmt : BitVec 2) (d a _b : BitVec 5) (s : State) : Host.Outcome State Fault Refusal :=
  fin (s.long c.val 0 (fMvGf fmt.toNat d.toNat a.toNat))
/-- FMV (R102). -/
def execFmv (c : Fin 96) (fmt : BitVec 2) (d a _b : BitVec 5) (s : State) : Host.Outcome State Fault Refusal :=
  fin (s.long c.val 0 (fMv fmt.toNat d.toNat a.toNat))
/-- FMADD (R103). -/
def execFmadd (c : Fin 96) (fmt : BitVec 2) (d a b k : BitVec 5) (s : State) : Host.Outcome State Fault Refusal :=
  fin (s.long c.val 0 (fFma false false fmt.toNat d.toNat a.toNat b.toNat k.toNat))
/-- FMSUB (R103). -/
def execFmsub (c : Fin 96) (fmt : BitVec 2) (d a b k : BitVec 5) (s : State) : Host.Outcome State Fault Refusal :=
  fin (s.long c.val 0 (fFma true false fmt.toNat d.toNat a.toNat b.toNat k.toNat))
/-- FNMADD (R120). -/
def execFnmadd (c : Fin 96) (fmt : BitVec 2) (d a b k : BitVec 5) (s : State) : Host.Outcome State Fault Refusal :=
  fin (s.long c.val 0 (fFma false true fmt.toNat d.toNat a.toNat b.toNat k.toNat))
/-- FNMSUB (R120). -/
def execFnmsub (c : Fin 96) (fmt : BitVec 2) (d a b k : BitVec 5) (s : State) : Host.Outcome State Fault Refusal :=
  fin (s.long c.val 0 (fFma true true fmt.toNat d.toNat a.toNat b.toNat k.toNat))

end Sys2Proof.Machine
end

