-- ==== Sys2Proof/Machine/ExecHost.lean ====
section
/-!
DEFINITION. Host interface (09_host_interface.md): one meaning per row, over the shared operations.
-/
namespace Sys2Proof.Machine

/-- SQ_DOORBELL (R214). -/
def execSqDoorbell (port : Fin 2) (fn : Fin 64) (qp : Fin 16) (v : Word) (s : State) : Host.Outcome State Fault Refusal :=
  fin (s.opSqDoorbell port.val fn.val qp.val v)
/-- CQ_DOORBELL (R215). -/
def execCqDoorbell (port : Fin 2) (fn : Fin 64) (qp : Fin 16) (v : Word) (s : State) : Host.Outcome State Fault Refusal :=
  fin (s.opCqDoorbell port.val fn.val qp.val v)
/-- DESCRIPTOR_FETCH (R213). -/
def execDescriptorFetch (port : Fin 2) (fn : Fin 64) (qp : Fin 16) (wo : Fin 32768) (s : State) : Host.Outcome State Fault Refusal :=
  fin (s.opFetch port.val fn.val qp.val wo.val)
/-- WORK (R207). -/
def execWork (wo : Fin 32768) (d : Desc) (s : State) : Host.Outcome State Fault Refusal := fin (s.opWork wo.val d)
/-- NOP_DESCRIPTOR (R206). -/
def execNopDescriptor (wo : Fin 32768) (d : Desc) (s : State) : Host.Outcome State Fault Refusal :=
  fin (s.opNopDesc wo.val d)
/-- CHAIN_READ_DONE (R205). -/
def execChainReadDone (wo : Fin 32768) (ents : List (BitVec 128)) (s : State) : Host.Outcome State Fault Refusal :=
  fin (s.opChainRead wo.val ents)
/-- SEGIN_READ_DONE (R207). -/
def execSeginReadDone (wo : Fin 32768) (data : Bytes) (slot : Nat) (s : State) : Host.Outcome State Fault Refusal :=
  fin (s.opSeginRead wo.val data slot)
/-- COMPLETION_TIMEOUT (R196). -/
def execCompletionTimeout (wo : Fin 32768) (s : State) : Host.Outcome State Fault Refusal :=
  fin (s.opCompletionTimeout wo.val)
/-- RESPONSE_SEND (R217). -/
def execResponseSend (wo : Fin 32768) (s : State) : Host.Outcome State Fault Refusal :=
  fin (s.opResponseSend wo.val)
/-- CHAIN_REREAD_DONE (R217). -/
def execChainRereadDone (wo : Fin 32768) (ents : List (BitVec 128)) (s : State) : Host.Outcome State Fault Refusal :=
  fin (s.opChainReread wo.val ents)
/-- COALESCE_TIMER (R216). -/
def execCoalesceTimer (port : Fin 2) (fn : Fin 64) (qp : Fin 16) (s : State) : Host.Outcome State Fault Refusal :=
  fin (s.opCoalesce port.val fn.val qp.val)
/-- QCTL_ENABLE (R220). -/
def execQctlEnable (port : Fin 2) (fn : Fin 64) (qp : Fin 16) (s : State) : Host.Outcome State Fault Refusal :=
  fin (s.opQctlEnable port.val fn.val qp.val)
/-- QCTL_RESET (R222). -/
def execQctlReset (port : Fin 2) (fn : Fin 64) (qp : Fin 16) (s : State) : Host.Outcome State Fault Refusal :=
  fin (s.opQctlReset port.val fn.val qp.val)
/-- QUEUE_RESET_DONE (R222). -/
def execQueueResetDone (port : Fin 2) (fn : Fin 64) (qp : Fin 16) (s : State) : Host.Outcome State Fault Refusal :=
  fin (s.opQueueResetDone port.val fn.val qp.val)
/-- PCIE_LINK_DOWN (R221). -/
def execPcieLinkDown (port : Fin 2) (s : State) : Host.Outcome State Fault Refusal := fin (s.opLinkDown port.val)
/-- PCIE_LINK_UP (R197). -/
def execPcieLinkUp (port : Fin 2) (speed : Fin 8) (width : Fin 16) (s : State) : Host.Outcome State Fault Refusal :=
  fin (s.opLinkUp port.val speed.val width.val)
/-- PERST (R221). -/
def execPerst (port : Fin 2) (s : State) : Host.Outcome State Fault Refusal := fin (s.opPortReset port.val)
/-- HOT_RESET (R221). -/
def execHotReset (port : Fin 2) (s : State) : Host.Outcome State Fault Refusal := fin (s.opHotReset port.val)
/-- FUNCTION_LEVEL_RESET (R220). -/
def execFunctionLevelReset (port : Fin 2) (fn : Fin 64) (s : State) : Host.Outcome State Fault Refusal :=
  fin (s.opFlr port.val fn.val)
/-- VF_ENABLE_CLEAR (R220). -/
def execVfEnableClear (port : Fin 2) (s : State) : Host.Outcome State Fault Refusal := fin (s.opVfClear port.val)
/-- NUMVFS_WRITE (R194). -/
def execNumvfsWrite (port : Fin 2) (n : BitVec 16) (s : State) : Host.Outcome State Fault Refusal :=
  fin (s.opNumVfs port.val n.toNat)
/-- PCIE_ERROR_DETECTED (R223). -/
def execPcieErrorDetected (port : Fin 2) (k : Fin 8) (wo : Option (Fin 32768)) (s : State) : Host.Outcome State Fault Refusal :=
  fin (s.opPcieError port.val k.val wo)
/-- HIF_VFBIND_WRITE (R200). -/
def execHifVfbindWrite (w : Writer) (port : Fin 2) (vf : Fin 64) (v : Word) (be : Byte) (s : State) : Host.Outcome State Fault Refusal :=
  fin (s.opVfBind w port.val vf.val v be)
/-- HIF_CFG_LOCK (R448). -/
def execHifCfgLock (w : Writer) (port : Fin 2) (v : Word) (be : Byte) (s : State) : Host.Outcome State Fault Refusal :=
  fin (s.opHifCfg w port.val v be)

end Sys2Proof.Machine
end

