-- ==== Sys2Proof/Machine/ExecInt.lean ====
section
/-!
DEFINITION. Integer, logical, compare, move and immediate instructions (R97, R98, R101): one meaning per row, over the shared operations.
-/
namespace Sys2Proof.Machine

/-- ADD (R97). -/
def execAdd (c : Fin 96) (d a b : BitVec 5) (s : State) : Host.Outcome State Fault Refusal :=
  fin (s.long c.val 0 (iAdd d.toNat a.toNat b.toNat))
/-- SUB (R97). -/
def execSub (c : Fin 96) (d a b : BitVec 5) (s : State) : Host.Outcome State Fault Refusal :=
  fin (s.long c.val 0 (iSub d.toNat a.toNat b.toNat))
/-- ADDU (R110). -/
def execAddu (c : Fin 96) (d a b : BitVec 5) (s : State) : Host.Outcome State Fault Refusal :=
  fin (s.long c.val 0 (iAddu d.toNat a.toNat b.toNat))
/-- SUBU (R110). -/
def execSubu (c : Fin 96) (d a b : BitVec 5) (s : State) : Host.Outcome State Fault Refusal :=
  fin (s.long c.val 0 (iSubu d.toNat a.toNat b.toNat))
/-- ADDC (R110). -/
def execAddc (c : Fin 96) (d a b : BitVec 5) (s : State) : Host.Outcome State Fault Refusal :=
  fin (s.long c.val 0 (iAddc d.toNat a.toNat b.toNat))
/-- SUBB (R110). -/
def execSubb (c : Fin 96) (d a b : BitVec 5) (s : State) : Host.Outcome State Fault Refusal :=
  fin (s.long c.val 0 (iSubb d.toNat a.toNat b.toNat))
/-- MUL (R111). -/
def execMul (c : Fin 96) (d a b : BitVec 5) (s : State) : Host.Outcome State Fault Refusal :=
  fin (s.long c.val 0 (iMul d.toNat a.toNat b.toNat))
/-- MULH (R111). -/
def execMulh (c : Fin 96) (d a b : BitVec 5) (s : State) : Host.Outcome State Fault Refusal :=
  fin (s.long c.val 0 (iMulh d.toNat a.toNat b.toNat))
/-- MULHU (R111). -/
def execMulhu (c : Fin 96) (d a b : BitVec 5) (s : State) : Host.Outcome State Fault Refusal :=
  fin (s.long c.val 0 (iMulhu d.toNat a.toNat b.toNat))
/-- MULW (R111). -/
def execMulw (c : Fin 96) (d a b : BitVec 5) (s : State) : Host.Outcome State Fault Refusal :=
  fin (s.long c.val 0 (iMulw prodS d.toNat a.toNat b.toNat))
/-- MULWU (R111). -/
def execMulwu (c : Fin 96) (d a b : BitVec 5) (s : State) : Host.Outcome State Fault Refusal :=
  fin (s.long c.val 0 (iMulw prodU d.toNat a.toNat b.toNat))
/-- DIV (R112). -/
def execDiv (c : Fin 96) (d a b : BitVec 5) (s : State) : Host.Outcome State Fault Refusal :=
  fin (s.long c.val 0 (iDiv d.toNat a.toNat b.toNat))
/-- DIVU (R112). -/
def execDivu (c : Fin 96) (d a b : BitVec 5) (s : State) : Host.Outcome State Fault Refusal :=
  fin (s.long c.val 0 (iDivu d.toNat a.toNat b.toNat))
/-- REM (R97). -/
def execRem (c : Fin 96) (d a b : BitVec 5) (s : State) : Host.Outcome State Fault Refusal :=
  fin (s.long c.val 0 (iRem d.toNat a.toNat b.toNat))
/-- REMU (R97). -/
def execRemu (c : Fin 96) (d a b : BitVec 5) (s : State) : Host.Outcome State Fault Refusal :=
  fin (s.long c.val 0 (iRemu d.toNat a.toNat b.toNat))
/-- AND (R97). -/
def execAndd (c : Fin 96) (d a b : BitVec 5) (s : State) : Host.Outcome State Fault Refusal :=
  fin (s.long c.val 0 (iLogic (· &&& ·) d.toNat a.toNat b.toNat))
/-- OR (R97). -/
def execOrr (c : Fin 96) (d a b : BitVec 5) (s : State) : Host.Outcome State Fault Refusal :=
  fin (s.long c.val 0 (iLogic (· ||| ·) d.toNat a.toNat b.toNat))
/-- XOR (R97). -/
def execXorr (c : Fin 96) (d a b : BitVec 5) (s : State) : Host.Outcome State Fault Refusal :=
  fin (s.long c.val 0 (iLogic (· ^^^ ·) d.toNat a.toNat b.toNat))
/-- ANDN (R97). -/
def execAndn (c : Fin 96) (d a b : BitVec 5) (s : State) : Host.Outcome State Fault Refusal :=
  fin (s.long c.val 0 (iLogic (fun u v => u &&& ~~~ v) d.toNat a.toNat b.toNat))
/-- NOT (R97). -/
def execNott (c : Fin 96) (d a b : BitVec 5) (s : State) : Host.Outcome State Fault Refusal :=
  fin (s.long c.val 0 (iNot d.toNat a.toNat b.toNat))
/-- SHL (R97). -/
def execShl (c : Fin 96) (d a b : BitVec 5) (s : State) : Host.Outcome State Fault Refusal :=
  fin (s.long c.val 0 (iShift .shl d.toNat a.toNat b.toNat))
/-- SHR (R97). -/
def execShr (c : Fin 96) (d a b : BitVec 5) (s : State) : Host.Outcome State Fault Refusal :=
  fin (s.long c.val 0 (iShift .shr d.toNat a.toNat b.toNat))
/-- SRA (R97). -/
def execSra (c : Fin 96) (d a b : BitVec 5) (s : State) : Host.Outcome State Fault Refusal :=
  fin (s.long c.val 0 (iShift .sra d.toNat a.toNat b.toNat))
/-- ROTL (R97). -/
def execRotl (c : Fin 96) (d a b : BitVec 5) (s : State) : Host.Outcome State Fault Refusal :=
  fin (s.long c.val 0 (iShift .rotl d.toNat a.toNat b.toNat))
/-- CMP (R97). -/
def execCmp (c : Fin 96) (d a b : BitVec 5) (s : State) : Host.Outcome State Fault Refusal :=
  fin (s.long c.val 0 (iCmp ccSigned d.toNat a.toNat b.toNat))
/-- CMPU (R97). -/
def execCmpu (c : Fin 96) (d a b : BitVec 5) (s : State) : Host.Outcome State Fault Refusal :=
  fin (s.long c.val 0 (iCmp ccUnsigned d.toNat a.toNat b.toNat))
/-- MOV (R97). -/
def execMov (c : Fin 96) (d a b : BitVec 5) (s : State) : Host.Outcome State Fault Refusal :=
  fin (s.long c.val 0 (iMov d.toNat a.toNat b.toNat))
/-- CLZ (R97). -/
def execClz (c : Fin 96) (d a b : BitVec 5) (s : State) : Host.Outcome State Fault Refusal :=
  fin (s.long c.val 0 (opU1 (fun v => BitVec.ofNat 64 (clz v)) d.toNat a.toNat b.toNat))
/-- CTZ (R97). -/
def execCtz (c : Fin 96) (d a b : BitVec 5) (s : State) : Host.Outcome State Fault Refusal :=
  fin (s.long c.val 0 (opU1 (fun v => BitVec.ofNat 64 (ctz v)) d.toNat a.toNat b.toNat))
/-- POPC (R97). -/
def execPopc (c : Fin 96) (d a b : BitVec 5) (s : State) : Host.Outcome State Fault Refusal :=
  fin (s.long c.val 0 (opU1 (fun v => BitVec.ofNat 64 (popc v)) d.toNat a.toNat b.toNat))
/-- SEXTB (R97). -/
def execSextb (c : Fin 96) (d a b : BitVec 5) (s : State) : Host.Outcome State Fault Refusal :=
  fin (s.long c.val 0 (opU1 (fun v => sx (v.truncate 8 : BitVec 8)) d.toNat a.toNat b.toNat))
/-- SEXTH (R97). -/
def execSexth (c : Fin 96) (d a b : BitVec 5) (s : State) : Host.Outcome State Fault Refusal :=
  fin (s.long c.val 0 (opU1 (fun v => sx (v.truncate 16 : BitVec 16)) d.toNat a.toNat b.toNat))
/-- SEXTW (R97). -/
def execSextw (c : Fin 96) (d a b : BitVec 5) (s : State) : Host.Outcome State Fault Refusal :=
  fin (s.long c.val 0 (opU1 (fun v => sx (v.truncate 32 : BitVec 32)) d.toNat a.toNat b.toNat))
/-- MIN (R97). -/
def execMin (c : Fin 96) (d a b : BitVec 5) (s : State) : Host.Outcome State Fault Refusal :=
  fin (s.long c.val 0 (opU2 (pick ltS) d.toNat a.toNat b.toNat))
/-- MAX (R97). -/
def execMax (c : Fin 96) (d a b : BitVec 5) (s : State) : Host.Outcome State Fault Refusal :=
  fin (s.long c.val 0 (opU2 (pick gtS) d.toNat a.toNat b.toNat))
/-- MINU (R97). -/
def execMinu (c : Fin 96) (d a b : BitVec 5) (s : State) : Host.Outcome State Fault Refusal :=
  fin (s.long c.val 0 (opU2 (pick ltU) d.toNat a.toNat b.toNat))
/-- MAXU (R97). -/
def execMaxu (c : Fin 96) (d a b : BitVec 5) (s : State) : Host.Outcome State Fault Refusal :=
  fin (s.long c.val 0 (opU2 (pick gtU) d.toNat a.toNat b.toNat))
/-- TXUP (R97). -/
def execTxup (c : Fin 96) (d a b : BitVec 5) (s : State) : Host.Outcome State Fault Refusal :=
  fin (s.long c.val 0 (iText upByte d.toNat a.toNat b.toNat))
/-- TXLOW (R97). -/
def execTxlow (c : Fin 96) (d a b : BitVec 5) (s : State) : Host.Outcome State Fault Refusal :=
  fin (s.long c.val 0 (iText lowByte d.toNat a.toNat b.toNat))
/-- MOVS (R54). -/
def execMovs (c : Fin 96) (d a b : BitVec 5) (s : State) : Host.Outcome State Fault Refusal :=
  fin (s.long c.val 0 (iMovs d.toNat a.toNat b.toNat))
/-- GETTAG (R101). -/
def execGettag (c : Fin 96) (d a b : BitVec 5) (s : State) : Host.Outcome State Fault Refusal :=
  fin (s.long c.val 0 (iGettag d.toNat a.toNat b.toNat))
/-- SETTAG (R101). -/
def execSettag (c : Fin 96) (d a b : BitVec 5) (s : State) : Host.Outcome State Fault Refusal :=
  fin (s.long c.val 0 (iSettag d.toNat a.toNat b.toNat))
/-- RCPT (R101). -/
def execRcpt (c : Fin 96) (d a b : BitVec 5) (s : State) : Host.Outcome State Fault Refusal :=
  fin (s.long c.val 0 (iRcpt d.toNat a.toNat b.toNat))
/-- ADDI (R98). -/
def execAddi (c : Fin 96) (d a : BitVec 5) (imm : BitVec 15) (s : State) : Host.Outcome State Fault Refusal :=
  fin (s.long c.val 0 (iAddi d.toNat a.toNat (sx imm)))
/-- ANDI (R98). -/
def execAndi (c : Fin 96) (d a : BitVec 5) (imm : BitVec 15) (s : State) : Host.Outcome State Fault Refusal :=
  fin (s.long c.val 0 (iLogicI (· &&& ·) d.toNat a.toNat (imm.zeroExtend 64)))
/-- ORI (R98). -/
def execOri (c : Fin 96) (d a : BitVec 5) (imm : BitVec 15) (s : State) : Host.Outcome State Fault Refusal :=
  fin (s.long c.val 0 (iLogicI (· ||| ·) d.toNat a.toNat (imm.zeroExtend 64)))
/-- XORI (R98). -/
def execXori (c : Fin 96) (d a : BitVec 5) (imm : BitVec 15) (s : State) : Host.Outcome State Fault Refusal :=
  fin (s.long c.val 0 (iLogicI (· ^^^ ·) d.toNat a.toNat (imm.zeroExtend 64)))
/-- CMPI (R98). -/
def execCmpi (c : Fin 96) (d a : BitVec 5) (imm : BitVec 15) (s : State) : Host.Outcome State Fault Refusal :=
  fin (s.long c.val 0 (iCmpI ccSigned d.toNat a.toNat (sx imm)))
/-- CMPUI (R98). -/
def execCmpui (c : Fin 96) (d a : BitVec 5) (imm : BitVec 15) (s : State) : Host.Outcome State Fault Refusal :=
  fin (s.long c.val 0 (iCmpI ccUnsigned d.toNat a.toNat (imm.zeroExtend 64)))
/-- SHI (R98). -/
def execShi (c : Fin 96) (d a : BitVec 5) (imm : BitVec 15) (s : State) : Host.Outcome State Fault Refusal :=
  fin (s.long c.val 0 (iShi d.toNat a.toNat imm))
/-- INS16 (R98). -/
def execIns16 (c : Fin 96) (d : BitVec 5) (rsv k : BitVec 2) (imm : BitVec 16) (s : State) : Host.Outcome State Fault Refusal :=
  fin (s.long c.val 0 (iIns16 d.toNat rsv.toNat k.toNat imm))
/-- MOVI (R98). -/
def execMovi (c : Fin 96) (d : BitVec 5) (imm : BitVec 20) (s : State) : Host.Outcome State Fault Refusal :=
  fin (s.long c.val 0 (iMovi d.toNat (sx imm)))
/-- LA (R98). -/
def execLa (c : Fin 96) (d a : BitVec 5) (imm : BitVec 15) (s : State) : Host.Outcome State Fault Refusal :=
  fin (s.long c.val 0 (iLa d.toNat a.toNat (sx imm)))

end Sys2Proof.Machine
end

