-- ==== Sys2Proof/Machine/ExecJrn.lean ====
section
/-!
DEFINITION. Durable commit, Strongroom and Ledger (15_journal_ledger.md): one meaning per row, over the shared operations.
-/
namespace Sys2Proof.Machine

/-- COMMIT_STAGE (R345). -/
def execCommitStage (s : State) : Host.Outcome State Fault Refusal := fin (s.opCommitStage)
/-- STRONGROOM_WRITE_DONE (R352). -/
def execStrongroomWriteDone (jsn : Word) (remap fail : Bool) (s : State) : Host.Outcome State Fault Refusal :=
  fin (s.opStrongroomWriteDone jsn remap fail)
/-- BATCH_TIMER (R354). -/
def execBatchTimer (x : Fin 65536) (ce : Option (Fin 8)) (s : State) : Host.Outcome State Fault Refusal :=
  fin (s.opBatchTimer x.val (ce.map Fin.val))
/-- EPOCH_SYNC_EDGE (R359). -/
def execEpochSyncEdge (s : State) : Host.Outcome State Fault Refusal := fin (s.opEpochSyncEdge)
/-- EPOCH_DECISION (R359). -/
def execEpochDecision (s : State) : Host.Outcome State Fault Refusal := fin (s.opEpochDecision)
/-- RECEIPT_WINDOW_REBUILD (R355). -/
def execReceiptWindowRebuild (q : Fin 64) (recs : List JRec) (gaps : Nat) (s : State) : Host.Outcome State Fault Refusal :=
  fin (s.opRebuild q.val recs gaps)
/-- LDG_READ (R364). -/
def execLdgRead (w : Writer) (v : Word) (be : Byte) (s : State) : Host.Outcome State Fault Refusal :=
  fin (s.opLdgRead w v be)

end Sys2Proof.Machine
end

