-- ==== Sys2Proof/Machine/ExecLink.lean ====
section
/-!
DEFINITION. Channel links (13_channel_links.md): one meaning per row, over the shared operations.
-/
namespace Sys2Proof.Machine

/-- PORT_ENABLE (R308). -/
def execPortEnable (w : Writer) (l : Fin 264) (v : Word) (be : Byte) (s : State) : Host.Outcome State Fault Refusal :=
  fin (s.opLinkConfig w l.val v be)
/-- PORT_DISABLE (R308). -/
def execPortDisable (w : Writer) (l : Fin 264) (v : Word) (be : Byte) (s : State) : Host.Outcome State Fault Refusal :=
  fin (s.opLinkConfig w l.val v be)
/-- RETRAIN (R308). -/
def execRetrain (w : Writer) (l : Fin 264) (v : Word) (be : Byte) (s : State) : Host.Outcome State Fault Refusal :=
  fin (s.opLinkConfig w l.val v be)
/-- TRAINING_DONE (R308). -/
def execTrainingDone (l : Fin 264) (s : State) : Host.Outcome State Fault Refusal := fin (s.opTrainingDone l.val)
/-- TRAINING_TIMEOUT (R308). -/
def execTrainingTimeout (l : Fin 264) (s : State) : Host.Outcome State Fault Refusal :=
  fin (s.opTrainingTimeout l.val)
/-- LINIT_TIMER (R308). -/
def execLinitTimer (l : Fin 264) (s : State) : Host.Outcome State Fault Refusal := fin (s.opLinitTimer l.val)
/-- INIT_TIMEOUT (R308). -/
def execInitTimeout (l : Fin 264) (s : State) : Host.Outcome State Fault Refusal := fin (s.opInitTimeout l.val)
/-- HOLDOFF_EXPIRY (R308). -/
def execHoldoffExpiry (l : Fin 264) (s : State) : Host.Outcome State Fault Refusal := fin (s.opHoldoffExpiry l.val)
/-- LINIT (R309). -/
def execLinit (l : Fin 264) (fr : Frame) (s : State) : Host.Outcome State Fault Refusal := fin (s.opLinit l.val fr)
/-- LACK (R308). -/
def execLack (l : Fin 264) (fr : Frame) (s : State) : Host.Outcome State Fault Refusal := fin (s.opLack l.val fr)
/-- LDOWN (R310). -/
def execLdown (l : Fin 264) (fr : Frame) (s : State) : Host.Outcome State Fault Refusal := fin (s.opLdown l.val fr)
/-- ACK (R305). -/
def execAck (l : Fin 264) (fr : Frame) (s : State) : Host.Outcome State Fault Refusal := fin (s.opAck l.val fr)
/-- NAK (R305). -/
def execNak (l : Fin 264) (fr : Frame) (s : State) : Host.Outcome State Fault Refusal := fin (s.opNak l.val fr)
/-- FRAME_CHECK_FAIL (R303). -/
def execFrameCheckFail (l : Fin 264) (s : State) : Host.Outcome State Fault Refusal :=
  fin (s.opFrameCheckFail l.val)
/-- FRAME_TRANSMIT (R306). -/
def execFrameTransmit (l : Fin 264) (s : State) : Host.Outcome State Fault Refusal := fin (s.opFrameTransmit l.val)
/-- REPLAY_TIMER (R305). -/
def execReplayTimer (l : Fin 264) (s : State) : Host.Outcome State Fault Refusal := fin (s.opReplayTimer l.val)
/-- ACK_DUE (R304). -/
def execAckDue (l : Fin 264) (s : State) : Host.Outcome State Fault Refusal := fin (s.opAckDue l.val)
/-- KEEPALIVE (R304). -/
def execKeepalive (l : Fin 264) (s : State) : Host.Outcome State Fault Refusal := fin (s.opKeepalive l.val)
/-- ACK_TIMEOUT (R310). -/
def execAckTimeout (l : Fin 264) (s : State) : Host.Outcome State Fault Refusal := fin (s.opAckTimeout l.val)
/-- PCS_LOCK_LOSS (R310). -/
def execPcsLockLoss (l : Fin 264) (s : State) : Host.Outcome State Fault Refusal := fin (s.opPcsLockLoss l.val)
/-- OCTET_PLL_UNLOCK (R295). -/
def execOctetPllUnlock (o : Fin 34) (s : State) : Host.Outcome State Fault Refusal := fin (s.opOctetPllUnlock o.val)

end Sys2Proof.Machine
end

