-- ==== Sys2Proof/Machine/ExecLoad.lean ====
section
/-!
DEFINITION. Loads and stores (R99, R51, R101): one meaning per row, over the shared operations.
-/
namespace Sys2Proof.Machine

/-- LD (R99). -/
def execLd (c : Fin 96) (d a : BitVec 5) (imm : BitVec 15) (s : State) : Host.Outcome State Fault Refusal :=
  fin (s.long c.val 0 (memImm ldWord d.toNat a.toNat (sx imm)))
/-- ST (R99). -/
def execSt (c : Fin 96) (d a : BitVec 5) (imm : BitVec 15) (s : State) : Host.Outcome State Fault Refusal :=
  fin (s.long c.val 1 (memImm stWord d.toNat a.toNat (sx imm)))
/-- LB (R51). -/
def execLb (c : Fin 96) (d a : BitVec 5) (imm : BitVec 15) (s : State) : Host.Outcome State Fault Refusal :=
  fin (s.long c.val 0 (memImm (ldPart 1 true) d.toNat a.toNat (sx imm)))
/-- LBU (R51). -/
def execLbu (c : Fin 96) (d a : BitVec 5) (imm : BitVec 15) (s : State) : Host.Outcome State Fault Refusal :=
  fin (s.long c.val 0 (memImm (ldPart 1 false) d.toNat a.toNat (sx imm)))
/-- LH (R51). -/
def execLh (c : Fin 96) (d a : BitVec 5) (imm : BitVec 15) (s : State) : Host.Outcome State Fault Refusal :=
  fin (s.long c.val 0 (memImm (ldPart 2 true) d.toNat a.toNat (sx imm)))
/-- LHU (R51). -/
def execLhu (c : Fin 96) (d a : BitVec 5) (imm : BitVec 15) (s : State) : Host.Outcome State Fault Refusal :=
  fin (s.long c.val 0 (memImm (ldPart 2 false) d.toNat a.toNat (sx imm)))
/-- LW (R51). -/
def execLw (c : Fin 96) (d a : BitVec 5) (imm : BitVec 15) (s : State) : Host.Outcome State Fault Refusal :=
  fin (s.long c.val 0 (memImm (ldPart 4 true) d.toNat a.toNat (sx imm)))
/-- LWU (R51). -/
def execLwu (c : Fin 96) (d a : BitVec 5) (imm : BitVec 15) (s : State) : Host.Outcome State Fault Refusal :=
  fin (s.long c.val 0 (memImm (ldPart 4 false) d.toNat a.toNat (sx imm)))
/-- SB (R51). -/
def execSb (c : Fin 96) (d a : BitVec 5) (imm : BitVec 15) (s : State) : Host.Outcome State Fault Refusal :=
  fin (s.long c.val 1 (memImm (stPart 1) d.toNat a.toNat (sx imm)))
/-- SH (R51). -/
def execSh (c : Fin 96) (d a : BitVec 5) (imm : BitVec 15) (s : State) : Host.Outcome State Fault Refusal :=
  fin (s.long c.val 1 (memImm (stPart 2) d.toNat a.toNat (sx imm)))
/-- SW (R51). -/
def execSw (c : Fin 96) (d a : BitVec 5) (imm : BitVec 15) (s : State) : Host.Outcome State Fault Refusal :=
  fin (s.long c.val 1 (memImm (stPart 4) d.toNat a.toNat (sx imm)))
/-- LDF (R99). -/
def execLdf (c : Fin 96) (d a : BitVec 5) (imm : BitVec 15) (s : State) : Host.Outcome State Fault Refusal :=
  fin (s.long c.val 0 (memImm ldFp d.toNat a.toNat (sx imm)))
/-- STF (R99). -/
def execStf (c : Fin 96) (d a : BitVec 5) (imm : BitVec 15) (s : State) : Host.Outcome State Fault Refusal :=
  fin (s.long c.val 1 (memImm stFp d.toNat a.toNat (sx imm)))
/-- INDEXED_ACCESS (R99). -/
def execIndexedAccess (c : Fin 96) (d a b : BitVec 5) (fn : BitVec 10) (s : State) : Host.Outcome State Fault Refusal :=
  fin (s.long c.val 1 (memIndexed d.toNat a.toNat b.toNat fn.toNat))
/-- MOVS_L (R101). -/
def execMovsL (c : Fin 96) (d a : BitVec 5) (imm : BitVec 15) (s : State) : Host.Outcome State Fault Refusal :=
  fin (s.long c.val 0 (memImm ldSealed d.toNat a.toNat (sx imm)))
/-- MOVS_S (R101). -/
def execMovsS (c : Fin 96) (d a : BitVec 5) (imm : BitVec 15) (s : State) : Host.Outcome State Fault Refusal :=
  fin (s.long c.val 1 (memImm stSealed d.toNat a.toNat (sx imm)))
/-- TAGM (R101). -/
def execTagm (c : Fin 96) (d a : BitVec 5) (imm : BitVec 15) (s : State) : Host.Outcome State Fault Refusal :=
  fin (s.long c.val 0 (memImm ldTag d.toNat a.toNat (sx imm)))

end Sys2Proof.Machine
end

