-- ==== Sys2Proof/Machine/ExecMem.lean ====
section
/-!
DEFINITION. Memory controllers and the Extent Map (08_memory_translation.md): one meaning per row, over the shared operations.
-/
namespace Sys2Proof.Machine

/-- MC_READ (R178). -/
def execMcRead (line : BitVec 39) (chk : SectorChk) (retries : Nat) (s : State) : Host.Outcome State Fault Refusal :=
  fin (s.opMcRead line.toNat chk retries)
/-- MC_WRITE (R178). -/
def execMcWrite (line : BitVec 39) (words : List TWord) (retries : Nat) (s : State) : Host.Outcome State Fault Refusal :=
  fin (s.opMcWrite line.toNat words retries)
/-- TAG_BUFFER_FILL (R178). -/
def execTagBufferFill (m : Fin 16) (sector : BitVec 34) (chk : ChkRes) (s : State) : Host.Outcome State Fault Refusal :=
  fin (s.opTagFill m.val sector.toNat chk)
/-- PATROL_SCRUB (R181). -/
def execPatrolScrub (m : Fin 16) (sector : BitVec 34) (chk : ChkRes) (s : State) : Host.Outcome State Fault Refusal :=
  fin (s.opPatrol m.val sector.toNat chk)
/-- HCS_SCRUB (R183). -/
def execHcsScrub (region : Fin 5) (corrected uncorrected : Bool) (s : State) : Host.Outcome State Fault Refusal :=
  fin (s.opHcsScrub region.val corrected uncorrected)
/-- EXTENT_MAP_WRITE (R190). -/
def execExtentMapWrite (w : Writer) (q : Fin 64) (cas : Bool) (i : Fin 128) (v : Word) (be : Byte) (s : State) : Host.Outcome State Fault Refusal :=
  fin (s.opExtentWrite w q.val cas i.val v be)
/-- UNMAP_DONE (R191). -/
def execUnmapDone (q : Fin 64) (cas : Bool) (i : Fin 128) (s : State) : Host.Outcome State Fault Refusal :=
  fin (s.opUnmapDone q.val cas i.val)

end Sys2Proof.Machine
end

