-- ==== Sys2Proof/Machine/ExecMore.lean ====
section
/-!
DEFINITION. The rows that stand at the end of the table: one meaning per row, over the shared operations.
-/
namespace Sys2Proof.Machine

/-- UNDEFINED_OPCODE (R93). -/
def execUndefinedOpcode (c : Fin 96) (word : BitVec 32) (s : State) : Host.Outcome State Fault Refusal :=
  fin (s.opUndefined c.val word)
/-- HOST_INVALID_OPCODE (R206). -/
def execHostInvalidOpcode (wo : Fin 32768) (d : Desc) (s : State) : Host.Outcome State Fault Refusal :=
  fin (s.opHostInvalid wo.val d)
/-- CRYPTO_INVALID_OPCODE (R264). -/
def execCryptoInvalidOpcode (q : Fin 64) (n : Fin 32) (s : State) : Host.Outcome State Fault Refusal :=
  fin (s.opCryptoInvalid q.val n.val)
/-- COMPRESS_INVALID_OPCODE (R285). -/
def execCompressInvalidOpcode (q : Fin 64) (n : Fin 32) (s : State) : Host.Outcome State Fault Refusal :=
  fin (s.opCompressInvalid q.val n.val)
/-- XSTART_INVALID_XTYPE (R328). -/
def execXstartInvalidXtype (q : Fin 64) (n : Fin 32) (x : Fin 65536) (s : State) : Host.Outcome State Fault Refusal :=
  fin (s.xStart q.val n.val x.val (fun t => decide (6 ≤ t)))
/-- INBOUND_RESERVED_XTYPE (R317). -/
def execInboundReservedXtype (l : Fin 264) (fr : Frame) (s : State) : Host.Outcome State Fault Refusal :=
  fin (s.opInReserved l.val fr)
/-- VF_ENABLE_SET (R194). -/
def execVfEnableSet (port : Fin 2) (s : State) : Host.Outcome State Fault Refusal := fin (s.opVfSet port.val)
/-- PAIR_RESET_DONE (R428). -/
def execPairResetDone (p : Fin 48) (s : State) : Host.Outcome State Fault Refusal := fin (s.opPairResetDone p.val)
/-- LOSSY_END (R355). -/
def execLossyEnd (s : State) : Host.Outcome State Fault Refusal := fin (s.opLossyEnd)
/-- VAUX_LOW (R414). -/
def execVauxLow (s : State) : Host.Outcome State Fault Refusal := fin (s.opVauxLow)
/-- HOLDUP_COLLAPSE (R426). -/
def execHoldupCollapse (s : State) : Host.Outcome State Fault Refusal := fin (s.opHoldupCollapse)

end Sys2Proof.Machine
end

