-- ==== Sys2Proof/Machine/ExecPair.lean ====
section
/-!
DEFINITION. Events, windows, the gate, external operations, sparing (02_checked_execution.md): one meaning per row, over the shared operations.
-/
namespace Sys2Proof.Machine

/-- EVENT_INTERRUPT (R68). -/
def execEventInterrupt (c : Fin 96) (s : State) : Host.Outcome State Fault Refusal := fin (s.opEventInterrupt c.val)
/-- NMI_ENTRY (R74). -/
def execNmiEntry (c : Fin 96) (s : State) : Host.Outcome State Fault Refusal := fin (s.opNmiEntry c.val)
/-- TIMER_COMPARE (R67). -/
def execTimerCompare (c : Fin 96) (s : State) : Host.Outcome State Fault Refusal := fin (s.opTimerCompare c.val)
/-- WINDOW_COMPARISON (R30). -/
def execWindowComparison (c : Fin 96) (trail : Word) (s : State) : Host.Outcome State Fault Refusal :=
  fin (s.opComparison c.val trail)
/-- DETECTED_ERROR (R33). -/
def execDetectedError (c : Fin 96) (trailing ckptBadL ckptBadT : Bool) (s : State) : Host.Outcome State Fault Refusal :=
  fin (s.opDetected c.val trailing ckptBadL ckptBadT)
/-- GATE_STORE_RELEASE (R151). -/
def execGateStoreRelease (c : Fin 96) (s : State) : Host.Outcome State Fault Refusal := fin (s.opGateRelease c.val)
/-- EXTERNAL_OP_ISSUE (R32). -/
def execExternalOpIssue (c : Fin 96) (op : ExtOp) (s : State) : Host.Outcome State Fault Refusal :=
  fin (s.opExtIssue c.val op)
/-- EXTERNAL_OP_RESULT (R32). -/
def execExternalOpResult (c : Fin 96) (s : State) : Host.Outcome State Fault Refusal := fin (s.opExtResult c.val)
/-- SPARE_SELF_TEST (R36). -/
def execSpareSelfTest (p : Fin 48) (passed : Bool) (s : State) : Host.Outcome State Fault Refusal :=
  fin (s.opSpareTest p.val passed)
/-- STEWARD_SPARING (R37). -/
def execStewardSparing (c : Fin 96) (spare : Fin 96) (s : State) : Host.Outcome State Fault Refusal :=
  fin (s.opSparing c.val spare.val)
/-- FENCED_L2_EMPTY (R38). -/
def execFencedL2Empty (p : Fin 48) (s : State) : Host.Outcome State Fault Refusal := fin (s.opL2Empty p.val)
/-- PAIR_ROLE_WRITE (R36). -/
def execPairRoleWrite (w : Writer) (p : Fin 48) (v : Word) (be : Byte) (s : State) : Host.Outcome State Fault Refusal :=
  fin (s.opRole w p.val v be)
/-- PAIR_TEST_WRITE (R34). -/
def execPairTestWrite (w : Writer) (p : Fin 48) (v : Word) (be : Byte) (s : State) : Host.Outcome State Fault Refusal :=
  fin (s.opPairTest w p.val v be)
/-- PAIR_CKPT_WRITE (R37). -/
def execPairCkptWrite (w : Writer) (p : Fin 48) (off : BitVec 12) (v : Word) (be : Byte) (s : State) : Host.Outcome State Fault Refusal :=
  fin (s.opCkpt w p.val off.toNat v be)

end Sys2Proof.Machine
end

