-- ==== Sys2Proof/Machine/ExecPart.lean ====
section
/-!
DEFINITION. Partitions (10_partitions.md): one meaning per row, over the shared operations.
-/
namespace Sys2Proof.Machine

/-- CREATE (R226). -/
def execPartCreate (w : Writer) (q : Fin 64) (s : State) : Host.Outcome State Fault Refusal :=
  fin (s.opPartCtl w q.val 1 1)
/-- START (R225). -/
def execPartStart (w : Writer) (q : Fin 64) (s : State) : Host.Outcome State Fault Refusal :=
  fin (s.opPartCtl w q.val 2 1)
/-- FREEZE (R234). -/
def execPartFreeze (w : Writer) (q : Fin 64) (s : State) : Host.Outcome State Fault Refusal :=
  fin (s.opPartCtl w q.val 3 1)
/-- FREEZE_DONE (R234). -/
def execPartFreezeDone (q : Fin 64) (s : State) : Host.Outcome State Fault Refusal := fin (s.opFreezeDone q.val)
/-- THAW (R225). -/
def execPartThaw (w : Writer) (q : Fin 64) (s : State) : Host.Outcome State Fault Refusal :=
  fin (s.opPartCtl w q.val 4 1)
/-- EXPORT (R246). -/
def execPartExport (w : Writer) (q : Fin 64) (s : State) : Host.Outcome State Fault Refusal :=
  fin (s.opPartCtl w q.val 5 1)
/-- EXPORT_CONFIRMED (R249). -/
def execPartExportConfirmed (q : Fin 64) (ok : Bool) (s : State) : Host.Outcome State Fault Refusal :=
  fin (s.opExportConfirmed q.val ok)
/-- IMPORT (R248). -/
def execPartImport (w : Writer) (q : Fin 64) (s : State) : Host.Outcome State Fault Refusal :=
  fin (s.opPartCtl w q.val 6 1)
/-- IMPORT_INSTALLED (R248). -/
def execPartImportInstalled (q : Fin 64) (img : PImage) (s : State) : Host.Outcome State Fault Refusal :=
  fin (s.opImportInstalled q.val img)
/-- DESTROY (R225). -/
def execPartDestroy (w : Writer) (q : Fin 64) (s : State) : Host.Outcome State Fault Refusal :=
  fin (s.opPartCtl w q.val 7 1)
/-- ABORT (R225). -/
def execPartAbort (w : Writer) (q : Fin 64) (s : State) : Host.Outcome State Fault Refusal :=
  fin (s.opPartCtl w q.val 8 1)
/-- DESTROY_DONE (R469). -/
def execPartDestroyDone (q : Fin 64) (s : State) : Host.Outcome State Fault Refusal := fin (s.opDestroyDone q.val)
/-- SERVICE_ENTRY_DELIVER (R237). -/
def execServiceEntryDeliver (q : Fin 64) (slot : Nat) (s : State) : Host.Outcome State Fault Refusal :=
  fin (s.opServiceDeliver q.val slot)
/-- PARK (R239). -/
def execPark (c : Fin 96) (s : State) : Host.Outcome State Fault Refusal := fin (s.opPark c.val)
/-- UNPARK (R239). -/
def execUnpark (c : Fin 96) (s : State) : Host.Outcome State Fault Refusal := fin (s.opUnpark c.val)
/-- SHARE_PERIOD (R232). -/
def execSharePeriod (s : State) : Host.Outcome State Fault Refusal := fin (s.opSharePeriod)
/-- MBOX_DB_WRITE (R243). -/
def execMboxDbWrite (w : Writer) (m : MbId) (v : Word) (be : Byte) (s : State) : Host.Outcome State Fault Refusal :=
  fin (s.opMboxDb w m v be)
/-- MBOX_ACK_WRITE (R243). -/
def execMboxAckWrite (w : Writer) (m : MbId) (v : Word) (be : Byte) (s : State) : Host.Outcome State Fault Refusal :=
  fin (s.opMboxAck w m v be)
/-- DIRTY_TRACK_START (R244). -/
def execDirtyTrackStart (w : Writer) (q : Fin 64) (v : Word) (be : Byte) (s : State) : Host.Outcome State Fault Refusal :=
  fin (s.opMigWrite w q.val v be)
/-- SNAP (R245). -/
def execPartSnap (w : Writer) (q : Fin 64) (v : Word) (be : Byte) (s : State) : Host.Outcome State Fault Refusal :=
  fin (s.opMigWrite w q.val v be)
/-- DIRTY_SCAN_DONE (R245). -/
def execDirtyScanDone (q : Fin 64) (s : State) : Host.Outcome State Fault Refusal := fin (s.opScanDone q.val)

end Sys2Proof.Machine
end

