-- ==== Sys2Proof/Machine/ExecPin.lean ====
section
/-!
DEFINITION. I3C target and test access port (21_pins_package.md): one meaning per row, over the shared operations.
-/
namespace Sys2Proof.Machine

/-- I3C_PRIVATE_WRITE (R463). -/
def execI3cPrivateWrite (a : BitVec 7) (data : Bytes) (parityOk : Bool) (s : State) : Host.Outcome State Fault Refusal :=
  fin (s.opI3cWrite a data parityOk)
/-- I3C_PRIVATE_READ (R463). -/
def execI3cPrivateRead (a : BitVec 7) (count : Nat) (s : State) : Host.Outcome State Fault Refusal :=
  fin (s.opI3cRead a count)
/-- ENTDAA (R462). -/
def execEntdaa (da : BitVec 7) (won : Bool) (s : State) : Host.Outcome State Fault Refusal :=
  fin (s.opEntdaa da won)
/-- SETDASA (R462). -/
def execSetdasa (sa da : BitVec 7) (s : State) : Host.Outcome State Fault Refusal := fin (s.opSetdasa sa da)
/-- SETNEWDA (R462). -/
def execSetnewda (a : BitVec 7) (da : BitVec 7) (s : State) : Host.Outcome State Fault Refusal :=
  fin (s.opSetnewda a da)
/-- RSTDAA (R462). -/
def execRstdaa (a : Option (BitVec 7)) (s : State) : Host.Outcome State Fault Refusal := fin (s.opRstdaa a)
/-- GETPID (R462). -/
def execGetpid (a : BitVec 7) (s : State) : Host.Outcome State Fault Refusal := fin (s.opGet a s.pid)
/-- GETBCR (R462). -/
def execGetbcr (a : BitVec 7) (s : State) : Host.Outcome State Fault Refusal := fin (s.opGet a [bcr])
/-- GETDCR (R462). -/
def execGetdcr (a : BitVec 7) (s : State) : Host.Outcome State Fault Refusal := fin (s.opGet a [Config.i3cConst 1])
/-- GETSTATUS (R462). -/
def execGetstatus (a : BitVec 7) (s : State) : Host.Outcome State Fault Refusal := fin (s.opGetStatus a)
/-- GETMWL (R462). -/
def execGetmwl (a : BitVec 7) (s : State) : Host.Outcome State Fault Refusal :=
  fin (s.opGet a [Config.i3cConst 2, Config.i3cConst 3])
/-- GETMRL (R462). -/
def execGetmrl (a : BitVec 7) (s : State) : Host.Outcome State Fault Refusal :=
  fin (s.opGet a [Config.i3cConst 4, Config.i3cConst 5])
/-- ENEC (R462). -/
def execEnec (a : Option (BitVec 7)) (events : Byte) (s : State) : Host.Outcome State Fault Refusal :=
  fin (s.opEvents a events)
/-- DISEC (R462). -/
def execDisec (a : Option (BitVec 7)) (events : Byte) (s : State) : Host.Outcome State Fault Refusal :=
  fin (s.opEvents a events)
/-- TAP_ACTIVE (R464). -/
def execTapActive (s : State) : Host.Outcome State Fault Refusal := fin (s.opTapActive)
/-- BYPASS (R464). -/
def execBypass (s : State) : Host.Outcome State Fault Refusal := fin (s.opBypass)
/-- SAMPLE_PRELOAD (R464). -/
def execSamplePreload (shift : List Bool) (s : State) : Host.Outcome State Fault Refusal := fin (s.opSample shift)
/-- IDCODE (R464). -/
def execIdcode (s : State) : Host.Outcome State Fault Refusal := fin (s.opIdcode)
/-- EXTEST (R464). -/
def execExtest (shift : List Bool) (s : State) : Host.Outcome State Fault Refusal := fin (s.opExtest shift)
/-- CLAMP (R464). -/
def execClamp (s : State) : Host.Outcome State Fault Refusal := fin (s.opClamp)
/-- HIGHZ (R464). -/
def execHighz (s : State) : Host.Outcome State Fault Refusal := fin (s.opHighz)

end Sys2Proof.Machine
end

