-- ==== Sys2Proof/Machine/ExecPwr.lean ====
section
/-!
DEFINITION. Power, removal and Hibernate (18_power_hotplug.md): one meaning per row, over the shared operations.
-/
namespace Sys2Proof.Machine

/-- VAUX_GOOD (R414). -/
def execVauxGood (s : State) : Host.Outcome State Fault Refusal := fin (s.opVauxGood)
/-- VIN_GOOD (R414). -/
def execVinGood (s : State) : Host.Outcome State Fault Refusal := fin (s.opVinGood)
/-- SOFTSTART_DONE (R408). -/
def execSoftstartDone (mv : BitVec 16) (s : State) : Host.Outcome State Fault Refusal :=
  fin (s.opSoftstart mv.toNat)
/-- HOLDUP_MEASURED (R410). -/
def execHoldupMeasured (ticks : BitVec 32) (s : State) : Host.Outcome State Fault Refusal :=
  fin (s.opHoldupMeasured ticks.toNat)
/-- HIB_READY (R410). -/
def execHibReady (s : State) : Host.Outcome State Fault Refusal := fin (s.opHibReady)
/-- HOLDUP_TARGET (R410). -/
def execHoldupTarget (s : State) : Host.Outcome State Fault Refusal := fin (s.opHoldupTarget)
/-- HOLDUP_LOW (R410). -/
def execHoldupLow (mv : BitVec 16) (s : State) : Host.Outcome State Fault Refusal := fin (s.opHoldupLow mv.toNat)
/-- HOLDUP_SHORT (R412). -/
def execHoldupShort (s : State) : Host.Outcome State Fault Refusal := fin (s.opHoldupShort)
/-- HOLDUP_BLEED_DONE (R410). -/
def execHoldupBleedDone (s : State) : Host.Outcome State Fault Refusal := fin (s.opBleedDone)
/-- ATTN (R415). -/
def execAttn (s : State) : Host.Outcome State Fault Refusal := fin (s.removeStart)
/-- REMOVE_REQ (R415). -/
def execRemoveReq (w : Writer) (v : Word) (be : Byte) (s : State) : Host.Outcome State Fault Refusal :=
  fin (s.opRemoveReq w v be)
/-- REMOVE_DRAIN_END (R415). -/
def execRemoveDrainEnd (expired : Bool) (s : State) : Host.Outcome State Fault Refusal :=
  fin (s.opRemoveDrainEnd expired)
/-- SAG (R416). -/
def execSag (k : SagKind) (vauxNear : Bool) (s : State) : Host.Outcome State Fault Refusal :=
  fin (s.opSag k vauxNear)
/-- HIBERNATE_RECORDS_WRITTEN (R419). -/
def execHibernateRecordsWritten (s : State) : Host.Outcome State Fault Refusal := fin (s.opHibRecords)
/-- HIBERNATE_SEAL_WRITTEN (R419). -/
def execHibernateSealWritten (s : State) : Host.Outcome State Fault Refusal := fin (s.opHibSeal)
/-- HIBERNATE_IMAGE_WRITTEN (R421). -/
def execHibernateImageWritten (ticks : BitVec 24) (mj : BitVec 16) (s : State) : Host.Outcome State Fault Refusal :=
  fin (s.opHibImage ticks.toNat mj.toNat)
/-- VIN_RETURN_RESUME (R422). -/
def execVinReturnResume (st : Straps) (s : State) : Host.Outcome State Fault Refusal := fin (s.opVinReturn st)
/-- POWER_PERIOD (R407). -/
def execPowerPeriod (mv ma watts : BitVec 16) (s : State) : Host.Outcome State Fault Refusal :=
  fin (s.opPowerPeriod mv.toNat ma.toNat watts.toNat)
/-- THERMAL_SAMPLE (R424). -/
def execThermalSample (temps : List (BitVec 8)) (s : State) : Host.Outcome State Fault Refusal :=
  fin (s.opThermal temps)
/-- OVERTEMP_RESUME (R425). -/
def execOvertempResume (temps : List (BitVec 8)) (st : Straps) (s : State) : Host.Outcome State Fault Refusal :=
  fin (s.opOvertempResume temps st)
/-- VIN_LOW (R416). -/
def execVinLow (s : State) : Host.Outcome State Fault Refusal := fin (s.opVinLow)
/-- VIN_HIGH (R416). -/
def execVinHigh (s : State) : Host.Outcome State Fault Refusal := fin (s.opVinHigh)
/-- RAIL_FAULT (R426). -/
def execRailFault (die : Fin 2) (s : State) : Host.Outcome State Fault Refusal := fin (s.opRailFault die.val)

end Sys2Proof.Machine
end

