-- ==== Sys2Proof/Machine/ExecSys.lean ====
section
/-!
DEFINITION. System, event, fence and maintenance instructions (R101): one meaning per row, over the shared operations.
-/
namespace Sys2Proof.Machine

/-- RDTIME (R19). -/
def execRdtime (c : Fin 96) (d x : BitVec 5) (t : BitVec 3) (s : State) : Host.Outcome State Fault Refusal :=
  fin (s.long c.val 0 (sRdtime d.toNat x.toNat t.toNat))
/-- MFC (R60). -/
def execMfc (c : Fin 96) (d x : BitVec 5) (t : BitVec 3) (s : State) : Host.Outcome State Fault Refusal :=
  fin (s.long c.val 0 (sMfc d.toNat x.toNat t.toNat))
/-- MTC (R60). -/
def execMtc (c : Fin 96) (d x : BitVec 5) (t : BitVec 3) (s : State) : Host.Outcome State Fault Refusal :=
  fin (s.long c.val 0 (sMtc d.toNat x.toNat t.toNat))
/-- MFPSW (R101). -/
def execMfpsw (c : Fin 96) (d x : BitVec 5) (t : BitVec 3) (s : State) : Host.Outcome State Fault Refusal :=
  fin (s.long c.val 0 (sMfpsw d.toNat x.toNat t.toNat))
/-- MTPSW (R58). -/
def execMtpsw (c : Fin 96) (d x : BitVec 5) (t : BitVec 3) (s : State) : Host.Outcome State Fault Refusal :=
  fin (s.long c.val 0 (sMtpsw d.toNat x.toNat t.toNat))
/-- RFE (R63). -/
def execRfe (c : Fin 96) (d x : BitVec 5) (t : BitVec 3) (s : State) : Host.Outcome State Fault Refusal :=
  fin (s.long c.val 0 (sRfe d.toNat x.toNat t.toNat))
/-- RFN (R63). -/
def execRfn (c : Fin 96) (d x : BitVec 5) (t : BitVec 3) (s : State) : Host.Outcome State Fault Refusal :=
  fin (s.long c.val 0 (sRfn d.toNat x.toNat t.toNat))
/-- SVC (R101). -/
def execSvc (c : Fin 96) (rsv : BitVec 9) (imm : BitVec 16) (s : State) : Host.Outcome State Fault Refusal :=
  fin (s.long c.val 0 (sSvc rsv.toNat imm.toNat))
/-- BRK (R101). -/
def execBrk (c : Fin 96) (d x : BitVec 5) (t : BitVec 3) (s : State) : Host.Outcome State Fault Refusal :=
  fin (s.long c.val 0 (sBrk d.toNat x.toNat t.toNat))
/-- WAIT (R69). -/
def execWait (c : Fin 96) (d x : BitVec 5) (t : BitVec 3) (s : State) : Host.Outcome State Fault Refusal :=
  fin (s.long c.val 0 (sWait (m10 d x) t.toNat))
/-- RDEV (R101). -/
def execRdev (c : Fin 96) (d x : BitVec 5) (t : BitVec 3) (s : State) : Host.Outcome State Fault Refusal :=
  fin (s.long c.val 0 (sRdev d.toNat x.toNat t.toNat))
/-- CLREV (R68). -/
def execClrev (c : Fin 96) (d x : BitVec 5) (t : BitVec 3) (s : State) : Host.Outcome State Fault Refusal :=
  fin (s.long c.val 0 (sClrev (m10 d x) t.toNat))
/-- SETEV (R101). -/
def execSetev (c : Fin 96) (d x : BitVec 5) (t : BitVec 3) (s : State) : Host.Outcome State Fault Refusal :=
  fin (s.long c.val 0 (sSetev (m10 d x) t.toNat))
/-- FENCE_M (R80). -/
def execFenceM (c : Fin 96) (d x : BitVec 5) (t : BitVec 3) (s : State) : Host.Outcome State Fault Refusal :=
  fin (s.long c.val 0 (sFence false d.toNat x.toNat t.toNat))
/-- FENCE_IO (R83). -/
def execFenceIo (c : Fin 96) (d x : BitVec 5) (t : BitVec 3) (s : State) : Host.Outcome State Fault Refusal :=
  fin (s.long c.val 0 (sFence true d.toNat x.toNat t.toNat))
/-- TLBI (R188). -/
def execTlbi (c : Fin 96) (d x : BitVec 5) (t : BitVec 3) (s : State) : Host.Outcome State Fault Refusal :=
  fin (s.long c.val 1 (sTlbi d.toNat x.toNat t.toNat))
/-- TLBIA (R188). -/
def execTlbia (c : Fin 96) (d x : BitVec 5) (t : BitVec 3) (s : State) : Host.Outcome State Fault Refusal :=
  fin (s.long c.val 1 (sTlbia d.toNat x.toNat t.toNat))
/-- CLEAN_L (R169). -/
def execCleanL (c : Fin 96) (d x : BitVec 5) (t : BitVec 3) (s : State) : Host.Outcome State Fault Refusal :=
  fin (s.long c.val 1 (sMaint .clean d.toNat x.toNat t.toNat))
/-- FLUSH_L (R169). -/
def execFlushL (c : Fin 96) (d x : BitVec 5) (t : BitVec 3) (s : State) : Host.Outcome State Fault Refusal :=
  fin (s.long c.val 1 (sMaint .flush d.toNat x.toNat t.toNat))
/-- PREF (R169). -/
def execPref (c : Fin 96) (d x : BitVec 5) (t : BitVec 3) (s : State) : Host.Outcome State Fault Refusal :=
  fin (s.long c.val 0 (sPref d.toNat x.toNat t.toNat))

end Sys2Proof.Machine
end

