-- ==== Sys2Proof/Machine/ExecUcode.lean ====
section
/-!
DEFINITION. Control store and patching (06_microcode.md): one meaning per row, over the shared operations.
-/
namespace Sys2Proof.Machine

/-- PATCH_LOAD_GO (R144). -/
def execPatchLoadGo (w : Writer) (v : Word) (be : Byte) (s : State) : Host.Outcome State Fault Refusal :=
  fin (s.opUcsCtl w v be)
/-- PATCH_LOAD_DONE (R144). -/
def execPatchLoadDone (img : Option PatchImg) (s : State) : Host.Outcome State Fault Refusal :=
  fin (s.opPatchDone img)
/-- UCS_LOCK (R448). -/
def execUcsLock (w : Writer) (v : Word) (be : Byte) (s : State) : Host.Outcome State Fault Refusal :=
  fin (s.opUcsCtl w v be)
/-- UCS_DISABLE (R141). -/
def execUcsDisable (w : Writer) (v : Word) (be : Byte) (s : State) : Host.Outcome State Fault Refusal :=
  fin (s.opUcsCtl w v be)
/-- UCS_PEEK (R138). -/
def execUcsPeek (w : Writer) (v : Word) (be : Byte) (s : State) : Host.Outcome State Fault Refusal :=
  fin (s.opUcsPeek w v be)
/-- PATCH_RAM_SCRUB (R145). -/
def execPatchRamScrub (c : Fin 96) (word : Fin 1024) (corrected uncorrected : Bool) (s : State) : Host.Outcome State Fault Refusal :=
  fin (s.opPatchScrub c.val word.val corrected uncorrected)

end Sys2Proof.Machine
end

