-- ==== Sys2Proof/Machine/ExecXchg.lean ====
section
/-!
DEFINITION. Exchanges (14_channel_exchanges.md): one meaning per row, over the shared operations.
-/
namespace Sys2Proof.Machine

/-- XSTART_READ (R328). -/
def execXstartRead (q : Fin 64) (n : Fin 32) (x : Fin 65536) (s : State) : Host.Outcome State Fault Refusal :=
  fin (s.xStart q.val n.val x.val (· == 0))
/-- XSTART_WRITE (R328). -/
def execXstartWrite (q : Fin 64) (n : Fin 32) (x : Fin 65536) (s : State) : Host.Outcome State Fault Refusal :=
  fin (s.xStart q.val n.val x.val (· == 1))
/-- XSTART_COMMIT (R328). -/
def execXstartCommit (q : Fin 64) (n : Fin 32) (x : Fin 65536) (s : State) : Host.Outcome State Fault Refusal :=
  fin (s.xStart q.val n.val x.val (· == 2))
/-- XSTART_MESSAGE (R328). -/
def execXstartMessage (q : Fin 64) (n : Fin 32) (x : Fin 65536) (s : State) : Host.Outcome State Fault Refusal :=
  fin (s.xStart q.val n.val x.val (· == 3))
/-- XSTART_CANCEL (R336). -/
def execXstartCancel (q : Fin 64) (n : Fin 32) (x : Fin 65536) (s : State) : Host.Outcome State Fault Refusal :=
  fin (s.xStart q.val n.val x.val (· == 4))
/-- XSTART_PROBE (R328). -/
def execXstartProbe (q : Fin 64) (n : Fin 32) (x : Fin 65536) (s : State) : Host.Outcome State Fault Refusal :=
  fin (s.xStart q.val n.val x.val (· == 5))
/-- INBOUND_READ (R249). -/
def execInboundRead (l : Fin 264) (fr : Frame) (s : State) : Host.Outcome State Fault Refusal :=
  fin (s.opInRead l.val fr)
/-- INBOUND_WRITE (R249). -/
def execInboundWrite (l : Fin 264) (fr : Frame) (x : Fin 65536) (s : State) : Host.Outcome State Fault Refusal :=
  fin (s.opInWrite 1 l.val fr x.val)
/-- INBOUND_COMMIT (R249). -/
def execInboundCommit (l : Fin 264) (fr : Frame) (x : Fin 65536) (s : State) : Host.Outcome State Fault Refusal :=
  fin (s.opInWrite 2 l.val fr x.val)
/-- INBOUND_MESSAGE (R337). -/
def execInboundMessage (l : Fin 264) (fr : Frame) (x : Fin 65536) (slot : Nat) (s : State) : Host.Outcome State Fault Refusal :=
  fin (s.opInMessage 3 l.val fr x.val slot)
/-- INBOUND_ATTENTION (R337). -/
def execInboundAttention (l : Fin 264) (fr : Frame) (x : Fin 65536) (slot : Nat) (s : State) : Host.Outcome State Fault Refusal :=
  fin (s.opInMessage 6 l.val fr x.val slot)
/-- INBOUND_CANCEL (R336). -/
def execInboundCancel (l : Fin 264) (fr : Frame) (s : State) : Host.Outcome State Fault Refusal :=
  fin (s.opInCancel l.val fr)
/-- INBOUND_PROBE (R317). -/
def execInboundProbe (l : Fin 264) (fr : Frame) (s : State) : Host.Outcome State Fault Refusal :=
  fin (s.opInProbe l.val fr)
/-- REQ_DATA_FRAME (R332). -/
def execReqDataFrame (l : Fin 264) (fr : Frame) (s : State) : Host.Outcome State Fault Refusal :=
  fin (s.opReqData l.val fr)
/-- RSP_FRAME (R331). -/
def execRspFrame (l : Fin 264) (fr : Frame) (s : State) : Host.Outcome State Fault Refusal :=
  fin (s.opResponse 2 l.val fr)
/-- RSP_DATA_FRAME (R331). -/
def execRspDataFrame (l : Fin 264) (fr : Frame) (s : State) : Host.Outcome State Fault Refusal :=
  fin (s.opResponse 3 l.val fr)
/-- EXCHANGE_TIMEOUT (R333). -/
def execExchangeTimeout (x : Fin 65536) (s : State) : Host.Outcome State Fault Refusal :=
  fin (s.opExchangeTimeout x.val)
/-- WAIT_RETRY (R331). -/
def execWaitRetry (x : Fin 65536) (s : State) : Host.Outcome State Fault Refusal := fin (s.opWaitRetry x.val)
/-- EXCHANGE_OUTCOME_DURABLE (R331). -/
def execExchangeOutcomeDurable (x : Fin 65536) (s : State) : Host.Outcome State Fault Refusal :=
  fin (s.opOutcomeDurable x.val)

end Sys2Proof.Machine
end

