-- ==== Sys2Proof/Machine/Dispatch.lean ====
section
/-!
DEFINITION. The dispatch of commands to their meanings, one arm per row of the table.
-/
namespace Sys2Proof.Machine

def exec (i : Instr) (s : State) : Host.Outcome State Fault Refusal :=
  match i with
  | .add c d a b => Sys2Proof.Machine.execAdd c d a b s
  | .sub c d a b => Sys2Proof.Machine.execSub c d a b s
  | .addu c d a b => Sys2Proof.Machine.execAddu c d a b s
  | .subu c d a b => Sys2Proof.Machine.execSubu c d a b s
  | .addc c d a b => Sys2Proof.Machine.execAddc c d a b s
  | .subb c d a b => Sys2Proof.Machine.execSubb c d a b s
  | .mul c d a b => Sys2Proof.Machine.execMul c d a b s
  | .mulh c d a b => Sys2Proof.Machine.execMulh c d a b s
  | .mulhu c d a b => Sys2Proof.Machine.execMulhu c d a b s
  | .mulw c d a b => Sys2Proof.Machine.execMulw c d a b s
  | .mulwu c d a b => Sys2Proof.Machine.execMulwu c d a b s
  | .div c d a b => Sys2Proof.Machine.execDiv c d a b s
  | .divu c d a b => Sys2Proof.Machine.execDivu c d a b s
  | .rem c d a b => Sys2Proof.Machine.execRem c d a b s
  | .remu c d a b => Sys2Proof.Machine.execRemu c d a b s
  | .andd c d a b => Sys2Proof.Machine.execAndd c d a b s
  | .orr c d a b => Sys2Proof.Machine.execOrr c d a b s
  | .xorr c d a b => Sys2Proof.Machine.execXorr c d a b s
  | .andn c d a b => Sys2Proof.Machine.execAndn c d a b s
  | .nott c d a b => Sys2Proof.Machine.execNott c d a b s
  | .shl c d a b => Sys2Proof.Machine.execShl c d a b s
  | .shr c d a b => Sys2Proof.Machine.execShr c d a b s
  | .sra c d a b => Sys2Proof.Machine.execSra c d a b s
  | .rotl c d a b => Sys2Proof.Machine.execRotl c d a b s
  | .cmp c d a b => Sys2Proof.Machine.execCmp c d a b s
  | .cmpu c d a b => Sys2Proof.Machine.execCmpu c d a b s
  | .mov c d a b => Sys2Proof.Machine.execMov c d a b s
  | .clz c d a b => Sys2Proof.Machine.execClz c d a b s
  | .ctz c d a b => Sys2Proof.Machine.execCtz c d a b s
  | .popc c d a b => Sys2Proof.Machine.execPopc c d a b s
  | .sextb c d a b => Sys2Proof.Machine.execSextb c d a b s
  | .sexth c d a b => Sys2Proof.Machine.execSexth c d a b s
  | .sextw c d a b => Sys2Proof.Machine.execSextw c d a b s
  | .min c d a b => Sys2Proof.Machine.execMin c d a b s
  | .max c d a b => Sys2Proof.Machine.execMax c d a b s
  | .minu c d a b => Sys2Proof.Machine.execMinu c d a b s
  | .maxu c d a b => Sys2Proof.Machine.execMaxu c d a b s
  | .txup c d a b => Sys2Proof.Machine.execTxup c d a b s
  | .txlow c d a b => Sys2Proof.Machine.execTxlow c d a b s
  | .movs c d a b => Sys2Proof.Machine.execMovs c d a b s
  | .gettag c d a b => Sys2Proof.Machine.execGettag c d a b s
  | .settag c d a b => Sys2Proof.Machine.execSettag c d a b s
  | .rcpt c d a b => Sys2Proof.Machine.execRcpt c d a b s
  | .addi c d a imm => Sys2Proof.Machine.execAddi c d a imm s
  | .andi c d a imm => Sys2Proof.Machine.execAndi c d a imm s
  | .ori c d a imm => Sys2Proof.Machine.execOri c d a imm s
  | .xori c d a imm => Sys2Proof.Machine.execXori c d a imm s
  | .cmpi c d a imm => Sys2Proof.Machine.execCmpi c d a imm s
  | .cmpui c d a imm => Sys2Proof.Machine.execCmpui c d a imm s
  | .shi c d a imm => Sys2Proof.Machine.execShi c d a imm s
  | .ins16 c d rsv k imm => Sys2Proof.Machine.execIns16 c d rsv k imm s
  | .movi c d imm => Sys2Proof.Machine.execMovi c d imm s
  | .la c d a imm => Sys2Proof.Machine.execLa c d a imm s
  | .ld c d a imm => Sys2Proof.Machine.execLd c d a imm s
  | .st c d a imm => Sys2Proof.Machine.execSt c d a imm s
  | .lb c d a imm => Sys2Proof.Machine.execLb c d a imm s
  | .lbu c d a imm => Sys2Proof.Machine.execLbu c d a imm s
  | .lh c d a imm => Sys2Proof.Machine.execLh c d a imm s
  | .lhu c d a imm => Sys2Proof.Machine.execLhu c d a imm s
  | .lw c d a imm => Sys2Proof.Machine.execLw c d a imm s
  | .lwu c d a imm => Sys2Proof.Machine.execLwu c d a imm s
  | .sb c d a imm => Sys2Proof.Machine.execSb c d a imm s
  | .sh c d a imm => Sys2Proof.Machine.execSh c d a imm s
  | .sw c d a imm => Sys2Proof.Machine.execSw c d a imm s
  | .ldf c d a imm => Sys2Proof.Machine.execLdf c d a imm s
  | .stf c d a imm => Sys2Proof.Machine.execStf c d a imm s
  | .indexedAccess c d a b fn => Sys2Proof.Machine.execIndexedAccess c d a b fn s
  | .movsL c d a imm => Sys2Proof.Machine.execMovsL c d a imm s
  | .movsS c d a imm => Sys2Proof.Machine.execMovsS c d a imm s
  | .tagm c d a imm => Sys2Proof.Machine.execTagm c d a imm s
  | .b c disp => Sys2Proof.Machine.execB c disp s
  | .call c d imm => Sys2Proof.Machine.execCall c d imm s
  | .bc c cond disp => Sys2Proof.Machine.execBc c cond disp s
  | .cb c cond a b disp => Sys2Proof.Machine.execCb c cond a b disp s
  | .loop c d imm => Sys2Proof.Machine.execLoop c d imm s
  | .br c d a b => Sys2Proof.Machine.execBr c d a b s
  | .callr c d a b => Sys2Proof.Machine.execCallr c d a b s
  | .lexit c d x t => Sys2Proof.Machine.execLexit c d x t s
  | .shortNop c d a => Sys2Proof.Machine.execShortNop c d a s
  | .pairedWord c slotA slotB => Sys2Proof.Machine.execPairedWord c slotA slotB s
  | .rdtime c d x t => Sys2Proof.Machine.execRdtime c d x t s
  | .mfc c d x t => Sys2Proof.Machine.execMfc c d x t s
  | .mtc c d x t => Sys2Proof.Machine.execMtc c d x t s
  | .mfpsw c d x t => Sys2Proof.Machine.execMfpsw c d x t s
  | .mtpsw c d x t => Sys2Proof.Machine.execMtpsw c d x t s
  | .rfe c d x t => Sys2Proof.Machine.execRfe c d x t s
  | .rfn c d x t => Sys2Proof.Machine.execRfn c d x t s
  | .svc c rsv imm => Sys2Proof.Machine.execSvc c rsv imm s
  | .brk c d x t => Sys2Proof.Machine.execBrk c d x t s
  | .wait c d x t => Sys2Proof.Machine.execWait c d x t s
  | .rdev c d x t => Sys2Proof.Machine.execRdev c d x t s
  | .clrev c d x t => Sys2Proof.Machine.execClrev c d x t s
  | .setev c d x t => Sys2Proof.Machine.execSetev c d x t s
  | .fenceM c d x t => Sys2Proof.Machine.execFenceM c d x t s
  | .fenceIo c d x t => Sys2Proof.Machine.execFenceIo c d x t s
  | .tlbi c d x t => Sys2Proof.Machine.execTlbi c d x t s
  | .tlbia c d x t => Sys2Proof.Machine.execTlbia c d x t s
  | .cleanL c d x t => Sys2Proof.Machine.execCleanL c d x t s
  | .flushL c d x t => Sys2Proof.Machine.execFlushL c d x t s
  | .pref c d x t => Sys2Proof.Machine.execPref c d x t s
  | .fadd c fmt d a b => Sys2Proof.Machine.execFadd c fmt d a b s
  | .fsub c fmt d a b => Sys2Proof.Machine.execFsub c fmt d a b s
  | .fmul c fmt d a b => Sys2Proof.Machine.execFmul c fmt d a b s
  | .fdiv c fmt d a b => Sys2Proof.Machine.execFdiv c fmt d a b s
  | .fsqrt c fmt d a b => Sys2Proof.Machine.execFsqrt c fmt d a b s
  | .fmin c fmt d a b => Sys2Proof.Machine.execFmin c fmt d a b s
  | .fmax c fmt d a b => Sys2Proof.Machine.execFmax c fmt d a b s
  | .fabs c fmt d a b => Sys2Proof.Machine.execFabs c fmt d a b s
  | .fneg c fmt d a b => Sys2Proof.Machine.execFneg c fmt d a b s
  | .fcpys c fmt d a b => Sys2Proof.Machine.execFcpys c fmt d a b s
  | .fcmp c fmt d a b => Sys2Proof.Machine.execFcmp c fmt d a b s
  | .fcmps c fmt d a b => Sys2Proof.Machine.execFcmps c fmt d a b s
  | .fcvtDS c fmt d a b => Sys2Proof.Machine.execFcvtDS c fmt d a b s
  | .fcvtSD c fmt d a b => Sys2Proof.Machine.execFcvtSD c fmt d a b s
  | .fcvtL c fmt d a b => Sys2Proof.Machine.execFcvtL c fmt d a b s
  | .fcvtLu c fmt d a b => Sys2Proof.Machine.execFcvtLu c fmt d a b s
  | .fcvtFl c fmt d a b => Sys2Proof.Machine.execFcvtFl c fmt d a b s
  | .fcvtFlu c fmt d a b => Sys2Proof.Machine.execFcvtFlu c fmt d a b s
  | .fmvFg c fmt d a b => Sys2Proof.Machine.execFmvFg c fmt d a b s
  | .fmvGf c fmt d a b => Sys2Proof.Machine.execFmvGf c fmt d a b s
  | .fmv c fmt d a b => Sys2Proof.Machine.execFmv c fmt d a b s
  | .fmadd c fmt d a b k => Sys2Proof.Machine.execFmadd c fmt d a b k s
  | .fmsub c fmt d a b k => Sys2Proof.Machine.execFmsub c fmt d a b k s
  | .fnmadd c fmt d a b k => Sys2Proof.Machine.execFnmadd c fmt d a b k s
  | .fnmsub c fmt d a b k => Sys2Proof.Machine.execFnmsub c fmt d a b k s
  | .aadd c d a b => Sys2Proof.Machine.execAadd c d a b s
  | .aand c d a b => Sys2Proof.Machine.execAand c d a b s
  | .aor c d a b => Sys2Proof.Machine.execAor c d a b s
  | .axor c d a b => Sys2Proof.Machine.execAxor c d a b s
  | .aswap c d a b => Sys2Proof.Machine.execAswap c d a b s
  | .acas c d a b => Sys2Proof.Machine.execAcas c d a b s
  | .amin c d a b => Sys2Proof.Machine.execAmin c d a b s
  | .amax c d a b => Sys2Proof.Machine.execAmax c d a b s
  | .aminu c d a b => Sys2Proof.Machine.execAminu c d a b s
  | .amaxu c d a b => Sys2Proof.Machine.execAmaxu c d a b s
  | .iold c d a imm => Sys2Proof.Machine.execIold c d a imm s
  | .iost c d a imm => Sys2Proof.Machine.execIost c d a imm s
  | .cqpost c d x t => Sys2Proof.Machine.execCqpost c d x t s
  | .zqpost c d x t => Sys2Proof.Machine.execZqpost c d x t s
  | .mvgo c d x t => Sys2Proof.Machine.execMvgo c d x t s
  | .mvsync c d x t => Sys2Proof.Machine.execMvsync c d x t s
  | .jcommit c d x t => Sys2Proof.Machine.execJcommit c d x t s
  | .movb c d x t => Sys2Proof.Machine.execMovb c d x t s
  | .fillb c d x t => Sys2Proof.Machine.execFillb c d x t s
  | .cmpb c d x t => Sys2Proof.Machine.execCmpb c d x t s
  | .scanb c d x t => Sys2Proof.Machine.execScanb c d x t s
  | .mapb c d x t => Sys2Proof.Machine.execMapb c d x t s
  | .crcb c d x t => Sys2Proof.Machine.execCrcb c d x t s
  | .dadd c l1 l2 b1 b2 => Sys2Proof.Machine.execDadd c l1 l2 b1 b2 s
  | .dsub c l1 l2 b1 b2 => Sys2Proof.Machine.execDsub c l1 l2 b1 b2 s
  | .dmul c l1 l2 b1 b2 => Sys2Proof.Machine.execDmul c l1 l2 b1 b2 s
  | .ddiv c l1 l2 b1 b2 => Sys2Proof.Machine.execDdiv c l1 l2 b1 b2 s
  | .drem c l1 l2 b1 b2 => Sys2Proof.Machine.execDrem c l1 l2 b1 b2 s
  | .dsrr c l1 l2 b1 b2 => Sys2Proof.Machine.execDsrr c l1 l2 b1 b2 s
  | .dcmp c l1 l2 b1 b2 => Sys2Proof.Machine.execDcmp c l1 l2 b1 b2 s
  | .dzadd c l1 l2 b1 b2 => Sys2Proof.Machine.execDzadd c l1 l2 b1 b2 s
  | .dtest c l1 l2 b1 b2 => Sys2Proof.Machine.execDtest c l1 l2 b1 b2 s
  | .cvdb c l1 l2 b1 b2 => Sys2Proof.Machine.execCvdb c l1 l2 b1 b2 s
  | .cvbd c l1 l2 b1 b2 => Sys2Proof.Machine.execCvbd c l1 l2 b1 b2 s
  | .packa c l1 l2 b1 b2 => Sys2Proof.Machine.execPacka c l1 l2 b1 b2 s
  | .unpka c l1 l2 b1 b2 => Sys2Proof.Machine.execUnpka c l1 l2 b1 b2 s
  | .eventInterrupt c => Sys2Proof.Machine.execEventInterrupt c s
  | .nmiEntry c => Sys2Proof.Machine.execNmiEntry c s
  | .timerCompare c => Sys2Proof.Machine.execTimerCompare c s
  | .windowComparison c trail => Sys2Proof.Machine.execWindowComparison c trail s
  | .detectedError c trailing ckptBadL ckptBadT => Sys2Proof.Machine.execDetectedError c trailing ckptBadL ckptBadT s
  | .gateStoreRelease c => Sys2Proof.Machine.execGateStoreRelease c s
  | .externalOpIssue c op => Sys2Proof.Machine.execExternalOpIssue c op s
  | .externalOpResult c => Sys2Proof.Machine.execExternalOpResult c s
  | .spareSelfTest p passed => Sys2Proof.Machine.execSpareSelfTest p passed s
  | .stewardSparing c spare => Sys2Proof.Machine.execStewardSparing c spare s
  | .fencedL2Empty p => Sys2Proof.Machine.execFencedL2Empty p s
  | .pairRoleWrite w p v be => Sys2Proof.Machine.execPairRoleWrite w p v be s
  | .pairTestWrite w p v be => Sys2Proof.Machine.execPairTestWrite w p v be s
  | .pairCkptWrite w p off v be => Sys2Proof.Machine.execPairCkptWrite w p off v be s
  | .patchLoadGo w v be => Sys2Proof.Machine.execPatchLoadGo w v be s
  | .patchLoadDone img => Sys2Proof.Machine.execPatchLoadDone img s
  | .ucsLock w v be => Sys2Proof.Machine.execUcsLock w v be s
  | .ucsDisable w v be => Sys2Proof.Machine.execUcsDisable w v be s
  | .ucsPeek w v be => Sys2Proof.Machine.execUcsPeek w v be s
  | .patchRamScrub c word corrected uncorrected => Sys2Proof.Machine.execPatchRamScrub c word corrected uncorrected s
  | .homeReadshared p line => Sys2Proof.Machine.execHomeReadshared p line s
  | .homeReadown p line => Sys2Proof.Machine.execHomeReadown p line s
  | .homeUpgrade p line => Sys2Proof.Machine.execHomeUpgrade p line s
  | .homeWriteback p line => Sys2Proof.Machine.execHomeWriteback p line s
  | .homeEvictclean p line => Sys2Proof.Machine.execHomeEvictclean p line s
  | .homeWritefull p line => Sys2Proof.Machine.execHomeWritefull p line s
  | .homeRelease p line => Sys2Proof.Machine.execHomeRelease p line s
  | .homeClean p line => Sys2Proof.Machine.execHomeClean p line s
  | .homeFlush p line => Sys2Proof.Machine.execHomeFlush p line s
  | .homeFarAtomic p line => Sys2Proof.Machine.execHomeFarAtomic p line s
  | .homeSnoopAnswer p line => Sys2Proof.Machine.execHomeSnoopAnswer p line s
  | .l2Snpshared p line => Sys2Proof.Machine.execL2Snpshared p line s
  | .l2Snpclean p line => Sys2Proof.Machine.execL2Snpclean p line s
  | .l2Snpinv p line => Sys2Proof.Machine.execL2Snpinv p line s
  | .l2Grant p line way => Sys2Proof.Machine.execL2Grant p line way s
  | .l2Ready p line => Sys2Proof.Machine.execL2Ready p line s
  | .l2Wback p line => Sys2Proof.Machine.execL2Wback p line s
  | .l2Nack p line => Sys2Proof.Machine.execL2Nack p line s
  | .l2NackRetry p line => Sys2Proof.Machine.execL2NackRetry p line s
  | .evictionWriteAccepted sl line => Sys2Proof.Machine.execEvictionWriteAccepted sl line s
  | .coherenceTimeout agent line => Sys2Proof.Machine.execCoherenceTimeout agent line s
  | .coherenceLoss sl cause agent line => Sys2Proof.Machine.execCoherenceLoss sl cause agent line s
  | .casWaysWrite w sl v be => Sys2Proof.Machine.execCasWaysWrite w sl v be s
  | .casConvertDone sl => Sys2Proof.Machine.execCasConvertDone sl s
  | .casReleaseDone sl => Sys2Proof.Machine.execCasReleaseDone sl s
  | .predClear w p v be => Sys2Proof.Machine.execPredClear w p v be s
  | .mcRead line chk retries => Sys2Proof.Machine.execMcRead line chk retries s
  | .mcWrite line words retries => Sys2Proof.Machine.execMcWrite line words retries s
  | .tagBufferFill m sector chk => Sys2Proof.Machine.execTagBufferFill m sector chk s
  | .patrolScrub m sector chk => Sys2Proof.Machine.execPatrolScrub m sector chk s
  | .hcsScrub region corrected uncorrected => Sys2Proof.Machine.execHcsScrub region corrected uncorrected s
  | .extentMapWrite w q cas k v be => Sys2Proof.Machine.execExtentMapWrite w q cas k v be s
  | .unmapDone q cas k => Sys2Proof.Machine.execUnmapDone q cas k s
  | .sqDoorbell port fn qp v => Sys2Proof.Machine.execSqDoorbell port fn qp v s
  | .cqDoorbell port fn qp v => Sys2Proof.Machine.execCqDoorbell port fn qp v s
  | .descriptorFetch port fn qp wo => Sys2Proof.Machine.execDescriptorFetch port fn qp wo s
  | .work wo d => Sys2Proof.Machine.execWork wo d s
  | .nopDescriptor wo d => Sys2Proof.Machine.execNopDescriptor wo d s
  | .chainReadDone wo ents => Sys2Proof.Machine.execChainReadDone wo ents s
  | .seginReadDone wo data slot => Sys2Proof.Machine.execSeginReadDone wo data slot s
  | .completionTimeout wo => Sys2Proof.Machine.execCompletionTimeout wo s
  | .responseSend wo => Sys2Proof.Machine.execResponseSend wo s
  | .chainRereadDone wo ents => Sys2Proof.Machine.execChainRereadDone wo ents s
  | .coalesceTimer port fn qp => Sys2Proof.Machine.execCoalesceTimer port fn qp s
  | .qctlEnable port fn qp => Sys2Proof.Machine.execQctlEnable port fn qp s
  | .qctlReset port fn qp => Sys2Proof.Machine.execQctlReset port fn qp s
  | .queueResetDone port fn qp => Sys2Proof.Machine.execQueueResetDone port fn qp s
  | .pcieLinkDown port => Sys2Proof.Machine.execPcieLinkDown port s
  | .pcieLinkUp port speed width => Sys2Proof.Machine.execPcieLinkUp port speed width s
  | .perst port => Sys2Proof.Machine.execPerst port s
  | .hotReset port => Sys2Proof.Machine.execHotReset port s
  | .functionLevelReset port fn => Sys2Proof.Machine.execFunctionLevelReset port fn s
  | .vfEnableClear port => Sys2Proof.Machine.execVfEnableClear port s
  | .numvfsWrite port n => Sys2Proof.Machine.execNumvfsWrite port n s
  | .pcieErrorDetected port k wo => Sys2Proof.Machine.execPcieErrorDetected port k wo s
  | .hifVfbindWrite w port vf v be => Sys2Proof.Machine.execHifVfbindWrite w port vf v be s
  | .hifCfgLock w port v be => Sys2Proof.Machine.execHifCfgLock w port v be s
  | .partCreate w q => Sys2Proof.Machine.execPartCreate w q s
  | .partStart w q => Sys2Proof.Machine.execPartStart w q s
  | .partFreeze w q => Sys2Proof.Machine.execPartFreeze w q s
  | .partFreezeDone q => Sys2Proof.Machine.execPartFreezeDone q s
  | .partThaw w q => Sys2Proof.Machine.execPartThaw w q s
  | .partExport w q => Sys2Proof.Machine.execPartExport w q s
  | .partExportConfirmed q ok => Sys2Proof.Machine.execPartExportConfirmed q ok s
  | .partImport w q => Sys2Proof.Machine.execPartImport w q s
  | .partImportInstalled q img => Sys2Proof.Machine.execPartImportInstalled q img s
  | .partDestroy w q => Sys2Proof.Machine.execPartDestroy w q s
  | .partAbort w q => Sys2Proof.Machine.execPartAbort w q s
  | .partDestroyDone q => Sys2Proof.Machine.execPartDestroyDone q s
  | .serviceEntryDeliver q slot => Sys2Proof.Machine.execServiceEntryDeliver q slot s
  | .park c => Sys2Proof.Machine.execPark c s
  | .unpark c => Sys2Proof.Machine.execUnpark c s
  | .sharePeriod => Sys2Proof.Machine.execSharePeriod s
  | .mboxDbWrite w m v be => Sys2Proof.Machine.execMboxDbWrite w m v be s
  | .mboxAckWrite w m v be => Sys2Proof.Machine.execMboxAckWrite w m v be s
  | .dirtyTrackStart w q v be => Sys2Proof.Machine.execDirtyTrackStart w q v be s
  | .partSnap w q v be => Sys2Proof.Machine.execPartSnap w q v be s
  | .dirtyScanDone q => Sys2Proof.Machine.execDirtyScanDone q s
  | .cqResetDone q n => Sys2Proof.Machine.execCqResetDone q n s
  | .ecSign q n e => Sys2Proof.Machine.execEcSign q n e s
  | .ecVerify q n e => Sys2Proof.Machine.execEcVerify q n e s
  | .ecDh q n e => Sys2Proof.Machine.execEcDh q n e s
  | .ecKeygen q n e => Sys2Proof.Machine.execEcKeygen q n e s
  | .edSign q n e => Sys2Proof.Machine.execEdSign q n e s
  | .edVerify q n e => Sys2Proof.Machine.execEdVerify q n e s
  | .edKeygen q n e => Sys2Proof.Machine.execEdKeygen q n e s
  | .rsaSign q n e => Sys2Proof.Machine.execRsaSign q n e s
  | .rsaVerify q n e => Sys2Proof.Machine.execRsaVerify q n e s
  | .rsaEncrypt q n e => Sys2Proof.Machine.execRsaEncrypt q n e s
  | .rsaDecrypt q n e => Sys2Proof.Machine.execRsaDecrypt q n e s
  | .mldsaKeygen q n e => Sys2Proof.Machine.execMldsaKeygen q n e s
  | .mldsaSign q n e => Sys2Proof.Machine.execMldsaSign q n e s
  | .mldsaVerify q n e => Sys2Proof.Machine.execMldsaVerify q n e s
  | .mlkemKeygen q n e => Sys2Proof.Machine.execMlkemKeygen q n e s
  | .mlkemEncaps q n e => Sys2Proof.Machine.execMlkemEncaps q n e s
  | .mlkemDecaps q n e => Sys2Proof.Machine.execMlkemDecaps q n e s
  | .hybridSign q n e e2 => Sys2Proof.Machine.execHybridSign q n e e2 s
  | .hybridVerify q n e e2 => Sys2Proof.Machine.execHybridVerify q n e e2 s
  | .aesEnc q n e => Sys2Proof.Machine.execAesEnc q n e s
  | .aesDec q n e => Sys2Proof.Machine.execAesDec q n e s
  | .gcmSeal q n e => Sys2Proof.Machine.execGcmSeal q n e s
  | .gcmOpen q n e => Sys2Proof.Machine.execGcmOpen q n e s
  | .tdeaEnc q n e => Sys2Proof.Machine.execTdeaEnc q n e s
  | .tdeaDec q n e => Sys2Proof.Machine.execTdeaDec q n e s
  | .hash q n e => Sys2Proof.Machine.execHash q n e s
  | .hmacGen q n e => Sys2Proof.Machine.execHmacGen q n e s
  | .hmacVer q n e => Sys2Proof.Machine.execHmacVer q n e s
  | .cmacGen q n e => Sys2Proof.Machine.execCmacGen q n e s
  | .cmacVer q n e => Sys2Proof.Machine.execCmacVer q n e s
  | .mac3Gen q n e => Sys2Proof.Machine.execMac3Gen q n e s
  | .mac3Ver q n e => Sys2Proof.Machine.execMac3Ver q n e s
  | .pinXlate q n e => Sys2Proof.Machine.execPinXlate q n e s
  | .keyGen q n e => Sys2Proof.Machine.execKeyGen q n e s
  | .keyDerive q n e => Sys2Proof.Machine.execKeyDerive q n e s
  | .keyImport q n e => Sys2Proof.Machine.execKeyImport q n e s
  | .keyExport q n e => Sys2Proof.Machine.execKeyExport q n e s
  | .keyDestroy q n => Sys2Proof.Machine.execKeyDestroy q n s
  | .keyInfo q n => Sys2Proof.Machine.execKeyInfo q n s
  | .keyLookup q n => Sys2Proof.Machine.execKeyLookup q n s
  | .keyPublic q n => Sys2Proof.Machine.execKeyPublic q n s
  | .random q n e => Sys2Proof.Machine.execRandom q n e s
  | .cryptoEngineDone e => Sys2Proof.Machine.execCryptoEngineDone e s
  | .cryptoEngineError e => Sys2Proof.Machine.execCryptoEngineError e s
  | .drbgReseed k => Sys2Proof.Machine.execDrbgReseed k s
  | .entropyFail => Sys2Proof.Machine.execEntropyFail s
  | .entropyRestart => Sys2Proof.Machine.execEntropyRestart s
  | .keyErase dom index => Sys2Proof.Machine.execKeyErase dom index s
  | .vaultChangeDurable dom index backupOk => Sys2Proof.Machine.execVaultChangeDurable dom index backupOk s
  | .kvUncorrected dom index => Sys2Proof.Machine.execKvUncorrected dom index s
  | .keyComponent wo d rd => Sys2Proof.Machine.execKeyComponent wo d rd s
  | .keyCombine wo d rd => Sys2Proof.Machine.execKeyCombine wo d rd s
  | .keyComponentClear wo d rd => Sys2Proof.Machine.execKeyComponentClear wo d rd s
  | .keyLoadBlock wo d rd => Sys2Proof.Machine.execKeyLoadBlock wo d rd s
  | .keyUnloadBlock wo d rd => Sys2Proof.Machine.execKeyUnloadBlock wo d rd s
  | .keyDelete wo d rd => Sys2Proof.Machine.execKeyDelete wo d rd s
  | .keyQuery wo d rd => Sys2Proof.Machine.execKeyQuery wo d rd s
  | .componentExpiry dom => Sys2Proof.Machine.execComponentExpiry dom s
  | .compress q n ce => Sys2Proof.Machine.execCompress q n ce s
  | .decompress q n ce => Sys2Proof.Machine.execDecompress q n ce s
  | .compressEngineDone ce => Sys2Proof.Machine.execCompressEngineDone ce s
  | .compressEngineError ce => Sys2Proof.Machine.execCompressEngineError ce s
  | .moverChunk ch => Sys2Proof.Machine.execMoverChunk ch s
  | .moverAbort ch => Sys2Proof.Machine.execMoverAbort ch s
  | .moverSyncReturn ch c => Sys2Proof.Machine.execMoverSyncReturn ch c s
  | .portEnable w l v be => Sys2Proof.Machine.execPortEnable w l v be s
  | .portDisable w l v be => Sys2Proof.Machine.execPortDisable w l v be s
  | .retrain w l v be => Sys2Proof.Machine.execRetrain w l v be s
  | .trainingDone l => Sys2Proof.Machine.execTrainingDone l s
  | .trainingTimeout l => Sys2Proof.Machine.execTrainingTimeout l s
  | .linitTimer l => Sys2Proof.Machine.execLinitTimer l s
  | .initTimeout l => Sys2Proof.Machine.execInitTimeout l s
  | .holdoffExpiry l => Sys2Proof.Machine.execHoldoffExpiry l s
  | .linit l fr => Sys2Proof.Machine.execLinit l fr s
  | .lack l fr => Sys2Proof.Machine.execLack l fr s
  | .ldown l fr => Sys2Proof.Machine.execLdown l fr s
  | .ack l fr => Sys2Proof.Machine.execAck l fr s
  | .nak l fr => Sys2Proof.Machine.execNak l fr s
  | .frameCheckFail l => Sys2Proof.Machine.execFrameCheckFail l s
  | .frameTransmit l => Sys2Proof.Machine.execFrameTransmit l s
  | .replayTimer l => Sys2Proof.Machine.execReplayTimer l s
  | .ackDue l => Sys2Proof.Machine.execAckDue l s
  | .keepalive l => Sys2Proof.Machine.execKeepalive l s
  | .ackTimeout l => Sys2Proof.Machine.execAckTimeout l s
  | .pcsLockLoss l => Sys2Proof.Machine.execPcsLockLoss l s
  | .octetPllUnlock o => Sys2Proof.Machine.execOctetPllUnlock o s
  | .xstartRead q n x => Sys2Proof.Machine.execXstartRead q n x s
  | .xstartWrite q n x => Sys2Proof.Machine.execXstartWrite q n x s
  | .xstartCommit q n x => Sys2Proof.Machine.execXstartCommit q n x s
  | .xstartMessage q n x => Sys2Proof.Machine.execXstartMessage q n x s
  | .xstartCancel q n x => Sys2Proof.Machine.execXstartCancel q n x s
  | .xstartProbe q n x => Sys2Proof.Machine.execXstartProbe q n x s
  | .inboundRead l fr => Sys2Proof.Machine.execInboundRead l fr s
  | .inboundWrite l fr x => Sys2Proof.Machine.execInboundWrite l fr x s
  | .inboundCommit l fr x => Sys2Proof.Machine.execInboundCommit l fr x s
  | .inboundMessage l fr x slot => Sys2Proof.Machine.execInboundMessage l fr x slot s
  | .inboundAttention l fr x slot => Sys2Proof.Machine.execInboundAttention l fr x slot s
  | .inboundCancel l fr => Sys2Proof.Machine.execInboundCancel l fr s
  | .inboundProbe l fr => Sys2Proof.Machine.execInboundProbe l fr s
  | .reqDataFrame l fr => Sys2Proof.Machine.execReqDataFrame l fr s
  | .rspFrame l fr => Sys2Proof.Machine.execRspFrame l fr s
  | .rspDataFrame l fr => Sys2Proof.Machine.execRspDataFrame l fr s
  | .exchangeTimeout x => Sys2Proof.Machine.execExchangeTimeout x s
  | .waitRetry x => Sys2Proof.Machine.execWaitRetry x s
  | .exchangeOutcomeDurable x => Sys2Proof.Machine.execExchangeOutcomeDurable x s
  | .commitStage => Sys2Proof.Machine.execCommitStage s
  | .strongroomWriteDone jsn remap fail => Sys2Proof.Machine.execStrongroomWriteDone jsn remap fail s
  | .batchTimer x ce => Sys2Proof.Machine.execBatchTimer x ce s
  | .epochSyncEdge => Sys2Proof.Machine.execEpochSyncEdge s
  | .epochDecision => Sys2Proof.Machine.execEpochDecision s
  | .receiptWindowRebuild q recs gaps => Sys2Proof.Machine.execReceiptWindowRebuild q recs gaps s
  | .ldgRead w v be => Sys2Proof.Machine.execLdgRead w v be s
  | .duplexForming => Sys2Proof.Machine.execDuplexForming s
  | .helloTimer => Sys2Proof.Machine.execHelloTimer s
  | .hello j fr => Sys2Proof.Machine.execHello j fr s
  | .heartbeatTimer => Sys2Proof.Machine.execHeartbeatTimer s
  | .sidebandTimer => Sys2Proof.Machine.execSidebandTimer s
  | .heartbeat j fr => Sys2Proof.Machine.execHeartbeat j fr s
  | .timeSlew => Sys2Proof.Machine.execTimeSlew s
  | .sidebandWord chars => Sys2Proof.Machine.execSidebandWord chars s
  | .goodbye j fr => Sys2Proof.Machine.execGoodbye j fr s
  | .mirrorAck j fr => Sys2Proof.Machine.execMirrorAck j fr s
  | .journalItem j fr => Sys2Proof.Machine.execJournalItem j fr s
  | .workOrderItem j fr => Sys2Proof.Machine.execWorkOrderItem j fr s
  | .exchangeItem j fr => Sys2Proof.Machine.execExchangeItem j fr s
  | .partWriteItem j fr => Sys2Proof.Machine.execPartWriteItem j fr s
  | .vaultItem j fr => Sys2Proof.Machine.execVaultItem j fr s
  | .snapshot j fr => Sys2Proof.Machine.execSnapshot j fr s
  | .snapshotEnd j fr => Sys2Proof.Machine.execSnapshotEnd j fr s
  | .migrate j fr => Sys2Proof.Machine.execMigrate j fr s
  | .migrateRsp j fr => Sys2Proof.Machine.execMigrateRsp j fr s
  | .mailbox j fr => Sys2Proof.Machine.execMailbox j fr s
  | .mailboxAck j fr => Sys2Proof.Machine.execMailboxAck j fr s
  | .pathSilent courier => Sys2Proof.Machine.execPathSilent courier s
  | .pathsHeard => Sys2Proof.Machine.execPathsHeard s
  | .selfFence => Sys2Proof.Machine.execSelfFence s
  | .partnerLoss => Sys2Proof.Machine.execPartnerLoss s
  | .promotionComplete => Sys2Proof.Machine.execPromotionComplete s
  | .confirmAlone w v be => Sys2Proof.Machine.execConfirmAlone w v be s
  | .handover w v be => Sys2Proof.Machine.execHandover w v be s
  | .faultEvent src ev => Sys2Proof.Machine.execFaultEvent src ev s
  | .moduleResetBegin st => Sys2Proof.Machine.execModuleResetBegin st s
  | .lanternToggle => Sys2Proof.Machine.execLanternToggle s
  | .fltWindowWrite w src v be => Sys2Proof.Machine.execFltWindowWrite w src v be s
  | .fltForce w src v be => Sys2Proof.Machine.execFltForce w src v be s
  | .fltStatusClear w src v be => Sys2Proof.Machine.execFltStatusClear w src v be s
  | .kick w v be => Sys2Proof.Machine.execKick w v be s
  | .wdtExpired => Sys2Proof.Machine.execWdtExpired s
  | .capLockFlt w v be => Sys2Proof.Machine.execCapLockFlt w v be s
  | .vauxGood => Sys2Proof.Machine.execVauxGood s
  | .vinGood => Sys2Proof.Machine.execVinGood s
  | .softstartDone mv => Sys2Proof.Machine.execSoftstartDone mv s
  | .holdupMeasured ticks => Sys2Proof.Machine.execHoldupMeasured ticks s
  | .hibReady => Sys2Proof.Machine.execHibReady s
  | .holdupTarget => Sys2Proof.Machine.execHoldupTarget s
  | .holdupLow mv => Sys2Proof.Machine.execHoldupLow mv s
  | .holdupShort => Sys2Proof.Machine.execHoldupShort s
  | .holdupBleedDone => Sys2Proof.Machine.execHoldupBleedDone s
  | .attn => Sys2Proof.Machine.execAttn s
  | .removeReq w v be => Sys2Proof.Machine.execRemoveReq w v be s
  | .removeDrainEnd expired => Sys2Proof.Machine.execRemoveDrainEnd expired s
  | .sag k vauxNear => Sys2Proof.Machine.execSag k vauxNear s
  | .hibernateRecordsWritten => Sys2Proof.Machine.execHibernateRecordsWritten s
  | .hibernateSealWritten => Sys2Proof.Machine.execHibernateSealWritten s
  | .hibernateImageWritten ticks mj => Sys2Proof.Machine.execHibernateImageWritten ticks mj s
  | .vinReturnResume st => Sys2Proof.Machine.execVinReturnResume st s
  | .powerPeriod mv ma watts => Sys2Proof.Machine.execPowerPeriod mv ma watts s
  | .thermalSample temps => Sys2Proof.Machine.execThermalSample temps s
  | .overtempResume temps st => Sys2Proof.Machine.execOvertempResume temps st s
  | .vinLow => Sys2Proof.Machine.execVinLow s
  | .vinHigh => Sys2Proof.Machine.execVinHigh s
  | .railFault die => Sys2Proof.Machine.execRailFault die s
  | .powerGood st => Sys2Proof.Machine.execPowerGood st s
  | .bootStageDone ms facts => Sys2Proof.Machine.execBootStageDone ms facts s
  | .recoveryMessage img => Sys2Proof.Machine.execRecoveryMessage img s
  | .moduleReset w v be => Sys2Proof.Machine.execModuleReset w v be s
  | .pairGo w v be => Sys2Proof.Machine.execPairGo w v be s
  | .mgmtWrite w t v be => Sys2Proof.Machine.execMgmtWrite w t v be s
  | .partBpRead q be => Sys2Proof.Machine.execPartBpRead q be s
  | .pwrVinRead be => Sys2Proof.Machine.execPwrVinRead be s
  | .i3cPrivateWrite a data parityOk => Sys2Proof.Machine.execI3cPrivateWrite a data parityOk s
  | .i3cPrivateRead a count => Sys2Proof.Machine.execI3cPrivateRead a count s
  | .entdaa da won => Sys2Proof.Machine.execEntdaa da won s
  | .setdasa sa da => Sys2Proof.Machine.execSetdasa sa da s
  | .setnewda a da => Sys2Proof.Machine.execSetnewda a da s
  | .rstdaa a => Sys2Proof.Machine.execRstdaa a s
  | .getpid a => Sys2Proof.Machine.execGetpid a s
  | .getbcr a => Sys2Proof.Machine.execGetbcr a s
  | .getdcr a => Sys2Proof.Machine.execGetdcr a s
  | .getstatus a => Sys2Proof.Machine.execGetstatus a s
  | .getmwl a => Sys2Proof.Machine.execGetmwl a s
  | .getmrl a => Sys2Proof.Machine.execGetmrl a s
  | .enec a events => Sys2Proof.Machine.execEnec a events s
  | .disec a events => Sys2Proof.Machine.execDisec a events s
  | .tapActive => Sys2Proof.Machine.execTapActive s
  | .bypass => Sys2Proof.Machine.execBypass s
  | .samplePreload shift => Sys2Proof.Machine.execSamplePreload shift s
  | .idcode => Sys2Proof.Machine.execIdcode s
  | .extest shift => Sys2Proof.Machine.execExtest shift s
  | .clamp => Sys2Proof.Machine.execClamp s
  | .highz => Sys2Proof.Machine.execHighz s
  | .undefinedOpcode c word => Sys2Proof.Machine.execUndefinedOpcode c word s
  | .hostInvalidOpcode wo d => Sys2Proof.Machine.execHostInvalidOpcode wo d s
  | .cryptoInvalidOpcode q n => Sys2Proof.Machine.execCryptoInvalidOpcode q n s
  | .compressInvalidOpcode q n => Sys2Proof.Machine.execCompressInvalidOpcode q n s
  | .xstartInvalidXtype q n x => Sys2Proof.Machine.execXstartInvalidXtype q n x s
  | .inboundReservedXtype l fr => Sys2Proof.Machine.execInboundReservedXtype l fr s
  | .vfEnableSet port => Sys2Proof.Machine.execVfEnableSet port s
  | .pairResetDone p => Sys2Proof.Machine.execPairResetDone p s
  | .lossyEnd => Sys2Proof.Machine.execLossyEnd s
  | .vauxLow => Sys2Proof.Machine.execVauxLow s
  | .holdupCollapse => Sys2Proof.Machine.execHoldupCollapse s

end Sys2Proof.Machine
end

