-- ==== Sys2Proof/Machine/Step.lean ====
section
/-!
DEFINITION. One step of the block: the command at the front of the queue, or, with no command waiting, one tick of
Device Time (R19; log entry 2).
-/
namespace Sys2Proof.Machine

/-- One tick of TCLK: from boot stage 1 on (R433), while the module is powered, Device Time advances and its distribution
stage takes the old value (R19). -/
def State.tick (s : State) : State :=
  if s.pwr.powered && s.rf (aClk 0x410) 3 0 != 0 then { s with now := s.now + 1, nowStage := s.now } else s

/-- One step: take the command in front and run it with the queue's rest; with an empty queue one tick passes. -/
def step (s : State) : Host.Outcome State Fault Refusal :=
  match s.pending with
  | [] => .next s.tick
  | c :: rest => exec c { s with pending := rest }

/-- The state with the command that a table word spells in front of its queue; no row gives bits, so no word spells
one. -/
def State.withFetchWord (s : State) (nbits w : Nat) : State :=
  match decodeTableWord nbits w with
  | some c => { s with pending := c :: s.pending }
  | none => s

end Sys2Proof.Machine
end

