-- ==== Sys2Proof/Safety.lean ====
section
/-!
DEFINITION. What counts as a safe state (the forms that every part of the state keeps), and the terms in which claims are
stated: what a command does, a processor that stands at a word it can execute, a word that has retired, an exception that
has been taken, a transition that touches one unit only.
-/
namespace Sys2Proof.Machine

/-- Memory is in its canonical form: word numbers strictly rising, no entry equal to an unlisted word (0, UNTYPED). -/
def Memory.wf (m : Tbl TWord) : Bool := Tbl.wf {} m

/-- Command `i` run in state `s` answers a next state: `t` is the command's own effect, of which `P` holds; the fault
logic's pass over the events raised follows (Machine/Settle.lean, the identity where no event waits). -/
def Does (i : Instr) (s : State) (P : State → Prop) : Prop := ∃ t, exec i s = .next (settle t) ∧ P t

/-! ## Words of a processor -/

/-- Architectural state of core c's processor. -/
def archOf (s : State) (c : Nat) : Arch := (s.proc c).a

/-- Core c stands at a word that it can execute now: nothing goes first (R70), the word fits its window (`ub` units and
`sb` stores at most, R29) and the gate (R31), its fetch succeeds and leaves `x`, and it is not traced. -/
structure Starts (s : State) (c ub sb : Nat) (x : X) : Prop where
  can : s.canStart c = true
  awake : (s.proc c).waiting = none
  fits : (s.proc c).fresh = true ∨ ((s.proc c).units + ub ≤ 256 ∧ (s.proc c).stores + sb ≤ 64)
  room : (s.proc c).gate.length + sb ≤ 128
  fetched : s.fetch c { a := archOf s c, free := s.free } = .ok x
  untraced : (archOf s c).psw0.getLsbD 8 = false

/-- One more instruction has retired (C24, R60). -/
def counted (a : Arch) : Arch := setC a 24 (cr a 24 + 1)

/-- The state after a word that is no taken branch, loops included (R65). -/
def seqEnd (a : Arch) : Arch := counted ({ a := a : X }).advance

/-- The state after a taken branch. -/
def jumpEnd (a : Arch) (target : Word) : Arch := counted { a with pc := target }

/-- What a gate entry writes. -/
def GateEnt.effect (e : GateEnt) : GateKind × Nat × Nat × TWord × Bool × Bool :=
  (e.kind, e.pa, e.size, e.data, e.keep, e.super)

/-- The registers of the management space after a word of core c: as before, but for the pair's PAIR_STATUS and PAIR_LAST
where a retried window of split mode passes at the word (R41). -/
def RegsKept (s t : State) (c : Nat) : Prop :=
  (s.split = false ∨ (s.proc c).fails = 0 → t.regs = s.regs)
  ∧ ∀ a, a ≠ aPair (c / 2) 8 → a ≠ aPair (c / 2) 0x20 → t.rd a = s.rd a

/-- A word of core c has retired: its processor's architectural state is `a`, its gate has the entries `ents` more; no
other processor, nothing in memory or the caches, no register of the management space outside `RegsKept` and nothing else
changes (the count of free values and the TLBs apart). -/
structure Retired (s t : State) (c : Nat) (a : Arch) (ents : List GateEnt) : Prop where
  arch : archOf t c = a
  gate : (t.proc c).gate.map GateEnt.effect = (s.proc c).gate.map GateEnt.effect ++ ents.map GateEnt.effect
  others : ∀ k, k ≠ c → t.proc k = s.proc k
  regs : RegsKept s t c
  rest : t = { s with free := t.free, regs := t.regs, core := { s.core with procs := t.core.procs, tlb := t.core.tlb } }

/-- The word writes G register d and nothing else. -/
def WritesG (i : Instr) (s : State) (c d : Nat) (w : TWord) : Prop :=
  Does i s fun t => Retired s t c (seqEnd (setG (archOf s c) d w)) []

/-- The word writes G register d and CC. -/
def WritesGcc (i : Instr) (s : State) (c d : Nat) (w : TWord) (cc : BitVec 2) : Prop :=
  Does i s fun t => Retired s t c (seqEnd (setG { archOf s c with cc := cc } d w)) []

/-- The word writes F register d, and its flags. -/
def WritesF (i : Instr) (s : State) (c d : Nat) (w : Word) (flags : Nat) : Prop :=
  Does i s fun t => Retired s t c
    (seqEnd { setF (archOf s c) d w with fpsr := (archOf s c).fpsr ||| BitVec.ofNat 64 flags }) []

/-- The word writes CC and nothing else. -/
def WritesCc (i : Instr) (s : State) (c : Nat) (cc : BitVec 2) : Prop :=
  Does i s fun t => Retired s t c (seqEnd { archOf s c with cc := cc }) []

/-- The word branches to an address and changes nothing else. -/
def Branches (i : Instr) (s : State) (c : Nat) (taken : Bool) (target : Word) : Prop :=
  Does i s fun t => Retired s t c (if taken then jumpEnd (archOf s c) target else seqEnd (archOf s c)) []

/-- The word leaves registers alone and puts one store into the gate. -/
def Stores (i : Instr) (s : State) (c : Nat) (pa n : Nat) (w : TWord) (keep : Bool) : Prop :=
  Does i s fun t => Retired s t c (seqEnd (archOf s c)) [{ kind := .store, pa := pa, size := n, data := w, keep := keep }]

/-- The processor takes exception `code` in place of the word (R62, R70): its state is saved and it stands at the
vector; no other register, no store and nothing else changes. -/
def Traps (i : Instr) (s : State) (c code : Nat) : Prop :=
  Does i s fun t => ∃ e : Exc, e.code = code ∧
    Retired s t c (enterExc (archOf s c) code (causeWord code e.slot e.operand e.tag e.mem 0 e.detail) e.addr) []

/-- A processor in which an exception is taken in the ordinary way: neither EL nor NL set (R70, R73, R74). -/
def Plain (a : Arch) : Prop := a.psw0.getLsbD 2 = false ∧ a.psw0.getLsbD 3 = false

/-- The bytes that gate entries write, in the order of the entries. -/
def written (l : List GateEnt) : Bytes := l.flatMap fun e => leBytes e.size e.data.val.toNat

/-- The words that gate entries write to. -/
def places (l : List GateEnt) : List Nat := l.map fun e => e.pa / 8 * 8

/-- The storage operands of a decimal word are there and carry the tags it accepts (R127): operand 1 stands in the words
`l1`; `p` and `q` are the bytes of the two operands. `y` is the word's working state once they have been read. -/
def Reads (s : State) (c : Nat) (x : X) (rd1 wr1 use2 : Bool) (ok1 ok2 : Tag → Bool) (a1 a2 : TWord) (n1 n2 : Nat)
    (y : X) (l1 : List OpWord) (p q : Bytes) : Prop :=
  ∀ k, s.decOperands c x rd1 wr1 use2 ok1 ok2 a1 a2 n1 n2 k = k y l1 p q

/-- An instruction that is an external operation can run on core c now (R32): its own word is fetched, every earlier window
has passed and drained, and no other operation or result is held. -/
structure StartsExt (s : State) (c : Nat) (x : X) : Prop where
  can : s.canStart c = true
  awake : (s.proc c).waiting = none
  fresh : (s.proc c).fresh = true
  drained : s.settledProc c = true
  idle : (s.proc c).inflight = none
  none_kept : (s.proc c).kept = none
  fetched : s.fetch c { a := archOf s c, free := s.free } = .ok x
  untraced : (archOf s c).psw0.getLsbD 8 = false

/-- A line is at its home: no cache, message, transaction or buffer holds a copy of it. -/
structure AtHome (s : State) (line : Nat) : Prop where
  owner : ownerIn s.coh.l2 line = none
  absent : ∀ p l2, (p, l2) ∈ s.coh.l2 → l2.lines.find line = none
  buffers : wbIn s.coh.l2 line = none
  txn : s.coh.txn.find line = none
  blocked : s.coh.blocked.contains line = false
  l3 : s.coh.l3.find line = none
  evb : s.coh.evb.find? (fun e => e.1 = line) = none
  msgs : s.coh.msgs = []

/-! ## Transitions of the block -/

/-- Nothing but registers of the management space, of the addresses given, differs. -/
def RegsOnly (s t : State) (l : List Nat) : Prop :=
  t = { s with regs := t.regs } ∧ ∀ a, a ∉ l → t.rd a = s.rd a

/-- The management space carries out a write of the register at `a` by `w` (R364, R444, R454, R470). -/
structure Accepts (s : State) (w : Writer) (a : Nat) : Prop where
  awake : s.hibernating = false
  powered : s.pwr.powered = true
  room : s.changeRoom = true
  way : s.reaches w = true
  here : s.absent a = false

/-- A management write has been carried out: a CHANGE record is staged (R363), and apart from the registers listed, the
JSN and MSN counters, the record's way out and the saved configuration (R440), nothing has changed. -/
structure Wrote (s t : State) (l : List Nat) : Prop where
  regs : ∀ b, b ∉ l → b ≠ aJrn 0x10 → b ≠ aDpx 0x30 → t.rd b = s.rd b
  change : ∃ e : JEnt, e.r.kind = 4 ∧ t.jrn.ring = s.jrn.ring ++ [e]
  rest : t = { s with
    regs := t.regs, jrn := t.jrn, dpx := t.dpx, link := t.link, boot := t.boot, flt := { s.flt with queue := t.flt.queue } }

/-- The next event of a source is no injected one and none is being injected (R399). -/
def NoForce (s : State) (src ev : Nat) : Prop := s.forced src ev = false

/-- The events that a command has raised. -/
def raisedBy (s t : State) (l : List (Nat × Nat)) : Prop :=
  t.flt.queue = s.flt.queue ++ l.map fun e => ⟨e.1, e.2, s.time, false⟩

/-- Nothing but registers of the addresses given, the state of the power supplies, what has left the block and the count of
free values differs, and the events given have been raised. -/
def PowerOnly (s t : State) (l : List Nat) (ev : List (Nat × Nat)) : Prop :=
  (∀ a, a ∉ l → t.rd a = s.rd a) ∧ raisedBy s t ev
  ∧ t = { s with regs := t.regs, pwr := t.pwr, out := t.out, free := t.free, flt := { s.flt with queue := t.flt.queue } }

/-- What a pin does: nothing while the pins are held (R455). -/
def pinOut (s : State) (o : Out) : List Out := if s.pin.pinsHeld then [] else [o]

/-! ## Coherence and memory -/

/-- A request for a line stands alone before a home that runs and can serve it (R159, R160): no other message is under way,
the line is neither blocked nor in a transaction, and a transaction entry and a directory way are free. -/
def Asked (s : State) (p line : Nat) (r : CReq) (d : List TWord) : Prop :=
  s.homeUp line = true ∧ s.coh.msgs = [.request p line r d] ∧ s.coh.blocked.contains line = false
  ∧ s.coh.txn.find line = none ∧ s.txnRoom p line = true
  ∧ (s.takeMsg (.request p line r d)).dirRoom p line = some (s.takeMsg (.request p line r d))
  ∧ NoForce s (48 + homeOf line) 0 ∧ NoForce s (48 + homeOf line) 1 ∧ isCas line = false ∧ s.tracked (line * 128) = []

/-- The 16 words of memory's copy of a line. -/
def Holds (s : State) (line : Nat) (d : List TWord) : Prop := ∀ k : Nat, k < 16 → s.mem.words.get {} (line * 16 + k) = d.getD k {}

/-! ## Request queues -/

/-- The words of a request's completion entry (R212, R267), PHASE apart. -/
def complOf (r : Req) (st : Nat) (res : Word) (len eclk : Nat) : List Word :=
  [rqWord r 1, res, BitVec.ofNat 64 (len + r.slot * 2 ^ 32 + r.engine * 2 ^ 48),
   BitVec.ofNat 64 (st + min eclk (2 ^ 32 - 1) * 2 ^ 32)]

/-- A completion entry of queue n of partition q has been written, after the writes to memory that `base` holds, and the
queue's completion tail has moved (R212, R262). -/
def Completed (base s t : State) (k : QK) (q n : Nat) (ws : List Word) : Prop :=
  let p := s.pq k q n
  let b := base.writeTagged q (pqCompl k p + 32 * p.cTail)
    ((ws.take 3 ++ [setBit (ws.getD 3 0) 31 p.phase]).map fun w => ⟨w, Tag.untyped⟩)
  t.mem = b.mem ∧ t.coh = b.coh ∧ (t.pq k q n).cTail = (p.cTail + 1) % pqSize p

/-- The completion entry of a queue lies in MAPPED slots (R262). -/
def RingRoom (s : State) (k : QK) (q n : Nat) : Prop :=
  s.mapped q (pqCompl k (s.pq k q n) + 32 * (s.pq k q n).cTail) 32 = true

end Sys2Proof.Machine
end

