-- ==== Sys2Proof/Certificates/Slice0/Obligations.lean ====
section
/-!
DEFINITION. The statements for the provers, by family. Each docstring says what a statement claims and which rules of
spec/ it formalises; a statement that rests on a choice of the model names the log entry.
-/
open Sys2Proof Sys2Proof.Machine


/-! ## Steps, the queue and time -/

/-- A step with a command in front runs exactly that command on the state with the queue's rest. -/
def Obligations.StepRunsFront : Prop :=
  ∀ (c : Instr) (rest : List Instr) (s : State),
    step { s with pending := c :: rest } = exec c { s with pending := rest }

/-- With no command waiting one tick of TCLK passes (log entry 2): while the module is powered and past boot stage 0,
Device Time counts up by one and its distribution stage takes the old value (R19); otherwise nothing changes.

The fault logic's pass at the end of a command changes nothing where no event waits, and every command ends in a next
state.

Clauses that rest on the model's own choices: log entries 2, 6 and 7. -/
def Obligations.QueueAndTime : Prop :=
  (
  (∀ s : State, s.pending = [] → s.pwr.powered = true → s.rf (aClk 0x410) 3 0 ≠ 0 →
    step s = .next { s with now := s.now + 1, nowStage := s.now }) ∧
  (∀ s : State, s.pending = [] → (s.pwr.powered = false ∨ s.rf (aClk 0x410) 3 0 = 0) → step s = .next s)) ∧ (
  (∀ t : State, t.flt.queue = [] → settle t = t) ∧
  (∀ (i : Instr) (s : State), ∃ t, exec i s = .next t))

/-! ## The registers of a processor -/

/-- G0 reads zero and discards writes; a write of another G register changes it and no other (R47).

What a write of a control register changes (R60, R68): that register alone, its reserved bits kept 0; a one written to
a bit of EVPEND clears it; PART, LPROC, INSTRET and CYCLES and the reserved registers are read-only. -/
def Obligations.RegisterFiles : Prop :=
  (
  ∀ (a : Arch) (d : Nat) (w : TWord),
    gr a 0 = {} ∧ (d = 0 → setG a d w = a) ∧ (d ≠ 0 → gr (setG a d w) d = w) ∧
    (∀ n, n ≠ d → gr (setG a d w) n = gr a n) ∧ setG a d w = { a with g := (setG a d w).g }) ∧ (
  ∀ (a : Arch) (n : Nat) (v : Word),
    (∀ k, k ≠ n → cr (cWrite a n v) k = cr a k)
    ∧ cWrite a n v = { a with c := (cWrite a n v).c }
    ∧ (n = 16 → cr (cWrite a n v) 16 = cr a 16 &&& ~~~ v)
    ∧ ((n = 15 ∨ n = 20 ∨ n = 21 ∨ n = 22 ∨ n = 23 ∨ n = 24 ∨ n = 25 ∨ 26 ≤ n) → cWrite a n v = a)
    ∧ ((n = 1 ∨ n = 2 ∨ n = 4 ∨ n = 5 ∨ n = 6 ∨ n = 7 ∨ n = 10 ∨ n = 11 ∨ n = 13 ∨ n = 14 ∨ n = 19) →
        cr (cWrite a n v) n = v)
    ∧ (n = 17 ∨ n = 18 → cr (cWrite a n v) n = v &&& 0x3FF)
    ∧ (n = 8 → cr (cWrite a n v) n = v &&& ~~~ 0xFFF))

/-! ## Integer words -/

/-- Multiplication, minima and maxima, shifts and rotations of two UNTYPED registers write their exact result, UNTYPED,
to Gd and change nothing else (R97, R111).

The carry form (R94, R110): the additions and subtractions that carry write the sum or difference modulo 2^64 and set
CC[1] to the carry out of, or the borrow into, bit 63 and CC[0] to "the result is not zero"; ADDC and SUBB take CC[1] in. -/
def Obligations.IntegerAndCarry : Prop :=
  (
  ∀ (s : State) (x : X) (c : Fin 96) (d a b : BitVec 5), Starts s c 1 0 x →
    (gr (archOf s c) a.toNat).tag = Tag.untyped → (gr (archOf s c) b.toNat).tag = Tag.untyped →
    let u := (gr (archOf s c) a.toNat).val
    let v := (gr (archOf s c) b.toNat).val
    let k := v.toNat % 64
    let W (i : Instr) (r : Word) : Prop := WritesG i s c d.toNat ⟨r, Tag.untyped⟩
    W (.mul c d a b) (u * v)
    ∧ W (.mulh c d a b) (BitVec.ofInt 64 (u.toInt * v.toInt / 2 ^ 64))
    ∧ W (.mulhu c d a b) (BitVec.ofNat 64 (u.toNat * v.toNat / 2 ^ 64))
    ∧ W (.min c d a b) (if u.toInt ≤ v.toInt then u else v)
    ∧ W (.max c d a b) (if v.toInt ≤ u.toInt then u else v)
    ∧ W (.minu c d a b) (if u.toNat ≤ v.toNat then u else v)
    ∧ W (.maxu c d a b) (if v.toNat ≤ u.toNat then u else v)
    ∧ W (.shl c d a b) (u <<< k)
    ∧ W (.shr c d a b) (u >>> k)
    ∧ W (.sra c d a b) (BitVec.ofInt 64 (u.toInt / 2 ^ k))
    ∧ W (.rotl c d a b) (u <<< k ||| u >>> (64 - k))) ∧ (
  ∀ (s : State) (x : X) (c : Fin 96) (d a b : BitVec 5), Starts s c 1 0 x →
    (gr (archOf s c) a.toNat).tag = Tag.untyped → (gr (archOf s c) b.toNat).tag = Tag.untyped →
    let u := (gr (archOf s c) a.toNat).val
    let v := (gr (archOf s c) b.toNat).val
    let i := (archOf s c).cc.toNat / 2
    let W (w : Instr) (r : Word) (carry : Bool) : Prop :=
      WritesGcc w s c d.toNat ⟨r, Tag.untyped⟩
        (BitVec.ofNat 2 ((if carry then 2 else 0) + (if r = 0 then 0 else 1)))
    W (.addu c d a b) (u + v) (decide (2 ^ 64 ≤ u.toNat + v.toNat))
    ∧ W (.subu c d a b) (u - v) (decide (u.toNat < v.toNat))
    ∧ W (.addc c d a b) (u + v + BitVec.ofNat 64 i) (decide (2 ^ 64 ≤ u.toNat + v.toNat + i))
    ∧ W (.subb c d a b) (u - v - BitVec.ofNat 64 i) (decide (u.toNat < v.toNat + i)))

/-- Division (R97, R112): the quotient truncated toward zero and the remainder with the sign of the dividend; a zero
divisor, and for DIV the quotient 2^63, take the Divide exception and leave every register as it was.

Addition and subtraction of tagged words (R49, R97, R98, R108): POINTER or TIME with UNTYPED keeps the first tag, two
POINTERs or two TIMEs subtract to UNTYPED, and every other pair takes the Tag exception; a POINTER sum keeps bits [63:48]
zero or takes Data Translation. -/
def Obligations.DivisionAndTags : Prop :=
  (
  ∀ (s : State) (x : X) (c : Fin 96) (d a b : BitVec 5), Starts s c 1 0 x →
    (gr (archOf s c) a.toNat).tag = Tag.untyped → (gr (archOf s c) b.toNat).tag = Tag.untyped →
    let u := (gr (archOf s c) a.toNat).val
    let v := (gr (archOf s c) b.toNat).val
    let W (i : Instr) (r : Word) : Prop := WritesG i s c d.toNat ⟨r, Tag.untyped⟩
    (v ≠ 0 → (u.toInt ≠ -(2 ^ 63) ∨ v.toInt ≠ -1) → W (.div c d a b) (BitVec.ofInt 64 (u.toInt.tdiv v.toInt)))
    ∧ (v ≠ 0 → W (.divu c d a b) (BitVec.ofNat 64 (u.toNat / v.toNat))
        ∧ W (.rem c d a b) (BitVec.ofInt 64 (u.toInt.tmod v.toInt))
        ∧ W (.remu c d a b) (BitVec.ofNat 64 (u.toNat % v.toNat)))
    ∧ (Plain (archOf s c) → v = 0 → Traps (.div c d a b) s c 0x0C ∧ Traps (.divu c d a b) s c 0x0C
        ∧ Traps (.rem c d a b) s c 0x0C ∧ Traps (.remu c d a b) s c 0x0C)
    ∧ (Plain (archOf s c) → u.toInt = -(2 ^ 63) → v.toInt = -1 → Traps (.div c d a b) s c 0x0C)) ∧ (
  ∀ (s : State) (x : X) (c : Fin 96) (d a b : BitVec 5) (imm : BitVec 15), Starts s c 1 0 x →
    let u := gr (archOf s c) a.toNat
    let v := gr (archOf s c) b.toNat
    let keeps (t : Tag) : Prop := t = Tag.untyped ∨ t = Tag.pointer ∨ t = Tag.time
    (keeps u.tag → v.tag = Tag.untyped →
      ((u.tag = Tag.pointer → (u.val + v.val).toNat < 2 ^ 48) → WritesG (.add c d a b) s c d.toNat ⟨u.val + v.val, u.tag⟩)
      ∧ WritesG (.sub c d a b) s c d.toNat ⟨u.val - v.val, u.tag⟩)
    ∧ (u.tag = v.tag → (u.tag = Tag.pointer ∨ u.tag = Tag.time) →
      WritesG (.sub c d a b) s c d.toNat ⟨u.val - v.val, Tag.untyped⟩)
    ∧ (keeps u.tag → (u.tag = Tag.pointer → (u.val + imm.signExtend 64).toNat < 2 ^ 48) →
      WritesG (.addi c d a imm) s c d.toNat ⟨u.val + imm.signExtend 64, u.tag⟩)
    ∧ ((u.tag = Tag.pointer ∨ u.tag = Tag.untyped) → (u.val + imm.signExtend 64).toNat < 2 ^ 48 →
      WritesG (.la c d a imm) s c d.toNat ⟨u.val + imm.signExtend 64, Tag.pointer⟩)
    ∧ (Plain (archOf s c) → ¬ (keeps u.tag ∧ v.tag = Tag.untyped) → Traps (.add c d a b) s c 6)
    ∧ (Plain (archOf s c) → u.tag = Tag.pointer → v.tag = Tag.untyped → 2 ^ 48 ≤ (u.val + v.val).toNat →
      Traps (.add c d a b) s c 8))

/-- Logical words (R49, R97, R98): bit by bit, on UNTYPED, TEXT or USER words of one tag, or of one of them and UNTYPED;
the result has the tag that is not UNTYPED.

Comparison (R49, R94, R97, R98): CC is 0 for equal, 1 for low, 2 for high, signed or unsigned, and nothing else
changes; the tags must be equal or one of them UNTYPED, and none SEALED. -/
def Obligations.LogicalAndCompare : Prop :=
  (
  ∀ (s : State) (x : X) (c : Fin 96) (d a b : BitVec 5) (imm : BitVec 15), Starts s c 1 0 x →
    let u := gr (archOf s c) a.toNat
    let v := gr (archOf s c) b.toNat
    let ok (t : Tag) : Prop := t = Tag.untyped ∨ t = Tag.text ∨ t = Tag.user
    let z : Word := imm.zeroExtend 64
    (ok u.tag → ok v.tag → (u.tag = v.tag ∨ u.tag = Tag.untyped ∨ v.tag = Tag.untyped) →
      let t := if u.tag = Tag.untyped then v.tag else u.tag
      WritesG (.andd c d a b) s c d.toNat ⟨u.val &&& v.val, t⟩ ∧ WritesG (.orr c d a b) s c d.toNat ⟨u.val ||| v.val, t⟩
      ∧ WritesG (.xorr c d a b) s c d.toNat ⟨u.val ^^^ v.val, t⟩
      ∧ WritesG (.andn c d a b) s c d.toNat ⟨u.val &&& ~~~ v.val, t⟩)
    ∧ (ok u.tag → WritesG (.nott c d a 0) s c d.toNat ⟨~~~ u.val, u.tag⟩
      ∧ WritesG (.andi c d a imm) s c d.toNat ⟨u.val &&& z, u.tag⟩
      ∧ WritesG (.ori c d a imm) s c d.toNat ⟨u.val ||| z, u.tag⟩
      ∧ WritesG (.xori c d a imm) s c d.toNat ⟨u.val ^^^ z, u.tag⟩)
    ∧ (Plain (archOf s c) → ¬ ok u.tag → Traps (.andd c d a b) s c 6 ∧ Traps (.nott c d a 0) s c 6)
    ∧ (Plain (archOf s c) → b ≠ 0 → Traps (.nott c d a b) s c 3)) ∧ (
  ∀ (s : State) (x : X) (c : Fin 96) (a b : BitVec 5) (imm : BitVec 15), Starts s c 1 0 x →
    let u := gr (archOf s c) a.toNat
    let v := gr (archOf s c) b.toNat
    let any (t : Tag) : Prop := t ≠ Tag.sealedW ∧ t ≠ Tag.poison ∧ ¬ (9 ≤ t.toNat ∧ t.toNat ≤ 13)
    let cmp (p q : Int) : BitVec 2 := if p = q then 0 else if p < q then 1 else 2
    (any u.tag → any v.tag → (u.tag = v.tag ∨ u.tag = Tag.untyped ∨ v.tag = Tag.untyped) →
      WritesCc (.cmp c 0 a b) s c (cmp u.val.toInt v.val.toInt)
      ∧ WritesCc (.cmpu c 0 a b) s c (cmp u.val.toNat v.val.toNat))
    ∧ (any u.tag → WritesCc (.cmpi c 0 a imm) s c (cmp u.val.toInt imm.toInt)
      ∧ WritesCc (.cmpui c 0 a imm) s c (cmp u.val.toNat imm.toNat))
    ∧ (Plain (archOf s c) → u.tag = Tag.sealedW → Traps (.cmp c 0 a b) s c 6 ∧ Traps (.cmpu c 0 a b) s c 6))

/-- Words of one register (R97): counts of bits, sign extension, case of TEXT; MOV copies any word but a SEALED one with
its tag, MOVS only a SEALED one (R54), GETTAG the tag alone.

Constants, wide products and tags: MOVI, INS16 and SHI (R98), MULW and MULWU with the high half in the even register
(R111), SETTAG and RCPT (R49, R101). -/
def Obligations.UnaryAndConstants : Prop :=
  (
  ∀ (s : State) (x : X) (c : Fin 96) (d a : BitVec 5), Starts s c 1 0 x →
    let u := gr (archOf s c) a.toNat
    (u.tag = Tag.untyped →
      (∃ n : Nat, WritesG (.clz c d a 0) s c d.toNat ⟨BitVec.ofNat 64 n, Tag.untyped⟩ ∧ n ≤ 64
        ∧ u.val.toNat < 2 ^ (64 - n) ∧ (n < 64 → 2 ^ (63 - n) ≤ u.val.toNat))
      ∧ (∃ n : Nat, WritesG (.ctz c d a 0) s c d.toNat ⟨BitVec.ofNat 64 n, Tag.untyped⟩ ∧ n ≤ 64
        ∧ u.val.toNat % 2 ^ n = 0 ∧ (n < 64 → u.val.toNat / 2 ^ n % 2 = 1))
      ∧ WritesG (.popc c d a 0) s c d.toNat
          ⟨BitVec.ofNat 64 (((List.range 64).filter fun i => u.val.toNat / 2 ^ i % 2 = 1).length), Tag.untyped⟩
      ∧ WritesG (.sextb c d a 0) s c d.toNat ⟨(u.val.setWidth 8).signExtend 64, Tag.untyped⟩
      ∧ WritesG (.sexth c d a 0) s c d.toNat ⟨(u.val.setWidth 16).signExtend 64, Tag.untyped⟩
      ∧ WritesG (.sextw c d a 0) s c d.toNat ⟨(u.val.setWidth 32).signExtend 64, Tag.untyped⟩)
    ∧ (u.tag = Tag.text →
        let up (b : Nat) : Nat := if 0x61 ≤ b ∧ b ≤ 0x7A then b - 0x20 else b
        let low (b : Nat) : Nat := if 0x41 ≤ b ∧ b ≤ 0x5A then b + 0x20 else b
        (∃ r : Word, WritesG (.txup c d a 0) s c d.toNat ⟨r, Tag.text⟩
          ∧ ∀ k : Nat, k < 8 → r.toNat / 256 ^ k % 256 = up (u.val.toNat / 256 ^ k % 256))
        ∧ (∃ r : Word, WritesG (.txlow c d a 0) s c d.toNat ⟨r, Tag.text⟩
          ∧ ∀ k : Nat, k < 8 → r.toNat / 256 ^ k % 256 = low (u.val.toNat / 256 ^ k % 256)))
    ∧ (u.tag ≠ Tag.sealedW → u.tag ≠ Tag.poison → ¬ (9 ≤ u.tag.toNat ∧ u.tag.toNat ≤ 13) →
        WritesG (.mov c d a 0) s c d.toNat u)
    ∧ (u.tag = Tag.sealedW → WritesG (.movs c d a 0) s c d.toNat u)
    ∧ WritesG (.gettag c d a 0) s c d.toNat ⟨BitVec.ofNat 64 u.tag.toNat, Tag.untyped⟩
    ∧ (Plain (archOf s c) → u.tag = Tag.sealedW → Traps (.mov c d a 0) s c 6)) ∧ (
  ∀ (s : State) (x : X) (c : Fin 96) (d a b : BitVec 5), Starts s c 1 0 x →
    let A := archOf s c
    let u := gr A a.toNat
    let v := gr A b.toNat
    (∀ imm : BitVec 20, WritesG (.movi c d imm) s c d.toNat ⟨imm.signExtend 64, Tag.untyped⟩)
    ∧ (∀ (k : BitVec 2) (imm : BitVec 16), (gr A d.toNat).tag = Tag.untyped → ∃ r : Word,
        WritesG (.ins16 c d 0 k imm) s c d.toNat ⟨r, Tag.untyped⟩
        ∧ ∀ j : Nat, j < 64 → r.getLsbD j =
            if j / 16 = k.toNat then imm.getLsbD (j % 16) else (gr A d.toNat).val.getLsbD j)
    ∧ (∀ n : BitVec 6, u.tag = Tag.untyped →
        WritesG (.shi c d a (0#9 ++ n)) s c d.toNat ⟨u.val <<< n.toNat, Tag.untyped⟩
        ∧ WritesG (.shi c d a (1#9 ++ n)) s c d.toNat ⟨u.val >>> n.toNat, Tag.untyped⟩
        ∧ WritesG (.shi c d a (2#9 ++ n)) s c d.toNat ⟨u.val.sshiftRight n.toNat, Tag.untyped⟩
        ∧ WritesG (.shi c d a (3#9 ++ n)) s c d.toNat ⟨u.val.rotateLeft n.toNat, Tag.untyped⟩)
    ∧ (u.tag = Tag.untyped → v.tag = Tag.untyped → d.toNat % 2 = 0 →
        let W (i : Instr) (p : Int) : Prop := Does i s fun t => Retired s t c
          (seqEnd (setG (setG A d.toNat ⟨BitVec.ofInt 64 (p / 2 ^ 64), Tag.untyped⟩) (d.toNat + 1)
            ⟨BitVec.ofInt 64 p, Tag.untyped⟩)) []
        W (.mulw c d a b) (u.val.toInt * v.val.toInt) ∧ W (.mulwu c d a b) (u.val.toNat * v.val.toNat))
    ∧ (v.tag = Tag.untyped → u.tag ≠ Tag.sealedW → u.tag ≠ Tag.poison → ¬ (9 ≤ u.tag.toNat ∧ u.tag.toNat ≤ 13) →
        let t : Tag := v.val.setWidth 4
        t ≠ Tag.sealedW → t ≠ Tag.poison → ¬ (9 ≤ t.toNat ∧ t.toNat ≤ 13) →
        (t = Tag.code → A.psw0.getLsbD 0 = true ∧ A.psw0.getLsbD 5 = true) →
        WritesG (.settag c d a b) s c d.toNat ⟨u.val, t⟩)
    ∧ (u.tag = Tag.untyped → v.tag = Tag.untyped →
        WritesG (.rcpt c d a b) s c d.toNat
          ⟨((cr A 21).setWidth 6 ++ v.val.setWidth 9 ++ u.val.setWidth 48).zeroExtend 64, Tag.receipt⟩)
    ∧ (Plain A → v.val.setWidth 4 = Tag.code →
        (A.psw0.getLsbD 0 = false → Traps (.settag c d a b) s c 4)
        ∧ (A.psw0.getLsbD 0 = true → A.psw0.getLsbD 5 = false → Traps (.settag c d a b) s c 6))
    ∧ (Plain A → d.toNat % 2 = 1 → Traps (.mulw c d a b) s c 3 ∧ Traps (.mulwu c d a b) s c 3))

/-! ## Loads, stores, branches -/

/-- Loads (R48, R51, R54, R56, R99): the word at the address, seen through the processor's own earlier stores, goes to the
register with its tag; a partial load takes its bytes, sign- or zero-extended, with the word's tag; TAGM takes the tag
alone and no word is refused; LDF takes BINFP into an F register. A misaligned address takes the Alignment exception.

A processor sees its own stores at once and memory is as before (R31, R78): after a store has entered the gate, the
word that it covers reads with the stored bytes replaced, and every other word reads as before. -/
def Obligations.Loads : Prop :=
  (
  ∀ (s : State) (x y : X) (c : Fin 96) (d a : BitVec 5) (imm : BitVec 15) (pa : Nat), Starts s c 1 0 x →
    let A := archOf s c
    let u := gr A a.toNat
    let va := u.val + imm.signExtend 64
    (u.tag = Tag.pointer ∨ u.tag = Tag.untyped) → s.translate c x .load va = .ok (pa, y) →
    let w := s.seen c y (pa / 8 * 8)
    let o := 8 * (pa % 8)
    let any (t : Tag) : Prop := t ≠ Tag.sealedW ∧ t ≠ Tag.poison ∧ ¬ (9 ≤ t.toNat ∧ t.toNat ≤ 13)
    let byte (t : Tag) : Prop := t = Tag.untyped ∨ t = Tag.binfp ∨ t = Tag.decimal ∨ t = Tag.text ∨ t = Tag.user
    let W (i : Instr) (v : Word) : Prop := WritesG i s c d.toNat ⟨v, w.tag⟩
    (va.toNat % 8 = 0 → any w.tag → W (.ld c d a imm) w.val)
    ∧ (va.toNat % 8 = 0 → w.tag = Tag.sealedW → W (.movsL c d a imm) w.val)
    ∧ (va.toNat % 8 = 0 → WritesG (.tagm c d a imm) s c d.toNat ⟨w.tag.zeroExtend 64, Tag.untyped⟩)
    ∧ (va.toNat % 8 = 0 → (w.tag = Tag.binfp ∨ (A.psw0.getLsbD 6 = true ∧ w.tag = Tag.untyped)) →
        WritesF (.ldf c d a imm) s c d.toNat w.val 0)
    ∧ (byte w.tag →
        W (.lb c d a imm) ((w.val.extractLsb' o 8).signExtend 64)
        ∧ W (.lbu c d a imm) ((w.val.extractLsb' o 8).zeroExtend 64)
        ∧ (va.toNat % 2 = 0 → W (.lh c d a imm) ((w.val.extractLsb' o 16).signExtend 64)
            ∧ W (.lhu c d a imm) ((w.val.extractLsb' o 16).zeroExtend 64))
        ∧ (va.toNat % 4 = 0 → W (.lw c d a imm) ((w.val.extractLsb' o 32).signExtend 64)
            ∧ W (.lwu c d a imm) ((w.val.extractLsb' o 32).zeroExtend 64)))
    ∧ (Plain A → va.toNat % 8 ≠ 0 → Traps (.ld c d a imm) s c 7 ∧ Traps (.ldf c d a imm) s c 7
        ∧ Traps (.movsL c d a imm) s c 7 ∧ Traps (.tagm c d a imm) s c 7)
    ∧ (Plain A → va.toNat % 8 = 0 → w.tag = Tag.sealedW → Traps (.ld c d a imm) s c 6)
    ∧ (Plain A → va.toNat % 8 = 0 → w.tag = Tag.poison → Traps (.ld c d a imm) s c 10)) ∧ (
  ∀ (s t : State) (c : Nat) (a : Arch) (pa n : Nat) (w : TWord) (keep : Bool),
    Retired s t c a [{ kind := .store, pa := pa, size := n, data := w, keep := keep }] → n ≤ 8 →
    (∀ q, q ≠ pa / 8 * 8 → t.seen c {} q = s.seen c {} q)
    ∧ (keep = false → n = 8 → pa % 8 = 0 → t.seen c {} pa = w)
    ∧ (keep = true → (t.seen c {} (pa / 8 * 8)).tag = (s.seen c {} (pa / 8 * 8)).tag)
    ∧ ∀ q, t.readPa q = s.readPa q)

/-- Stores (R31, R51–R53, R99, R101): no register changes, and one store of the form's width enters the Pair Store Gate at
the physical address of the effective address; a full word takes the register's tag, a partial store keeps the word's.
Stores are allowed where neither the new word nor the old one is CODE. -/
def Obligations.StoreEffects : Prop :=
  ∀ (s : State) (x y : X) (c : Fin 96) (d a : BitVec 5) (imm : BitVec 15) (pa : Nat), Starts s c 1 1 x →
    let A := archOf s c
    let u := gr A a.toNat
    let w := gr A d.toNat
    let va := u.val + imm.signExtend 64
    (u.tag = Tag.pointer ∨ u.tag = Tag.untyped) → s.translate c x .store va = .ok (pa, y) →
    let old := (s.seen c y (pa / 8 * 8)).tag
    let any (t : Tag) : Prop := t ≠ Tag.sealedW ∧ t ≠ Tag.poison ∧ ¬ (9 ≤ t.toNat ∧ t.toNat ≤ 13)
    let byte (t : Tag) : Prop := t = Tag.untyped ∨ t = Tag.binfp ∨ t = Tag.decimal ∨ t = Tag.text ∨ t = Tag.user
    (va.toNat % 8 = 0 → any w.tag → w.tag ≠ Tag.code → old ≠ Tag.code →
      Stores (.st c d a imm) s c pa 8 w false)
    ∧ (va.toNat % 8 = 0 → w.tag = Tag.sealedW → old ≠ Tag.code →
      Stores (.movsS c d a imm) s c pa 8 w false)
    ∧ (va.toNat % 8 = 0 → old ≠ Tag.code →
      Stores (.stf c d a imm) s c pa 8 ⟨fr A d.toNat, Tag.binfp⟩ false)
    ∧ (byte w.tag → byte old → (w.tag = old ∨ w.tag = Tag.untyped) →
        Stores (.sb c d a imm) s c pa 1 w true
        ∧ (va.toNat % 2 = 0 → Stores (.sh c d a imm) s c pa 2 w true)
        ∧ (va.toNat % 4 = 0 → Stores (.sw c d a imm) s c pa 4 w true))
    ∧ (Plain A → va.toNat % 8 ≠ 0 → any w.tag → Traps (.st c d a imm) s c 7)
    ∧ (Plain A → va.toNat % 8 = 0 → any w.tag → old = Tag.code →
        (A.psw0.getLsbD 0 = false ∨ A.psw0.getLsbD 5 = false) → Traps (.st c d a imm) s c 9)

/-- Indexed accesses (R99): the address is Ga + Gb × scale, the operation that fn[9:6] selects is the load or store of
that name, and fn[3:0] must be 0; the three selections that name none take the Operation exception. -/
def Obligations.IndexedAccess : Prop :=
  ∀ (s : State) (x : X) (c : Fin 96) (d a b : BitVec 5) (op : BitVec 4) (k : BitVec 2), Starts s c 1 1 x →
    let A := archOf s c
    let u := gr A a.toNat
    let v := gr A b.toNat
    let fn : BitVec 10 := op ++ k ++ 0#4
    let va := u.val + v.val * BitVec.ofNat 64 (2 ^ k.toNat)
    (u.tag = Tag.pointer ∨ u.tag = Tag.untyped) → (v.tag = Tag.pointer ∨ v.tag = Tag.untyped) →
    (∀ (y : X) (pa : Nat), s.translate c x .load va = .ok (pa, y) →
      let w := s.seen c y (pa / 8 * 8)
      let o := 8 * (pa % 8)
      let W (v : Word) : Prop := WritesG (.indexedAccess c d a b fn) s c d.toNat ⟨v, w.tag⟩
      (w.tag = Tag.untyped →
        (op = 0 → va.toNat % 8 = 0 → W w.val)
        ∧ (op = 2 → W ((w.val.extractLsb' o 8).signExtend 64)) ∧ (op = 3 → W ((w.val.extractLsb' o 8).zeroExtend 64))
        ∧ (op = 4 → va.toNat % 2 = 0 → W ((w.val.extractLsb' o 16).signExtend 64))
        ∧ (op = 5 → va.toNat % 2 = 0 → W ((w.val.extractLsb' o 16).zeroExtend 64))
        ∧ (op = 6 → va.toNat % 4 = 0 → W ((w.val.extractLsb' o 32).signExtend 64))
        ∧ (op = 7 → va.toNat % 4 = 0 → W ((w.val.extractLsb' o 32).zeroExtend 64)))
      ∧ (va.toNat % 8 = 0 → w.tag = Tag.binfp → op = 11 → WritesF (.indexedAccess c d a b fn) s c d.toNat w.val 0))
    ∧ (∀ (y : X) (pa : Nat), s.translate c x .store va = .ok (pa, y) →
      (s.seen c y (pa / 8 * 8)).tag = Tag.untyped →
      let w := gr A d.toNat
      let S (n : Nat) (w : TWord) (keep : Bool) : Prop := Stores (.indexedAccess c d a b fn) s c pa n w keep
      (op = 1 → va.toNat % 8 = 0 → w.tag = Tag.untyped → S 8 w false)
      ∧ (op = 8 → w.tag = Tag.untyped → S 1 w true)
      ∧ (op = 9 → va.toNat % 2 = 0 → w.tag = Tag.untyped → S 2 w true)
      ∧ (op = 10 → va.toNat % 4 = 0 → w.tag = Tag.untyped → S 4 w true)
      ∧ (op = 12 → va.toNat % 8 = 0 → S 8 ⟨fr A d.toNat, Tag.binfp⟩ false))
    ∧ (Plain A → 13 ≤ op.toNat → Traps (.indexedAccess c d a b fn) s c 3)

/-- Branches and calls (R88, R95, R100): a taken branch goes to the word's own address plus 4 × disp, or to the address in
Ga; a call leaves the address of the next word, tagged POINTER, in Gd; BC tests CC and CB compares two registers. -/
def Obligations.BranchResults : Prop :=
  ∀ (s : State) (x : X) (c : Fin 96) (a b : BitVec 5), Starts s c 1 0 x →
    let A := archOf s c
    let u := gr A a.toNat
    let v := gr A b.toNat
    let ret : TWord := ⟨A.pc + 4, Tag.pointer⟩
    let code := A.cc.toNat
    let any (t : Tag) : Prop := t ≠ Tag.sealedW ∧ t ≠ Tag.poison ∧ ¬ (9 ≤ t.toNat ∧ t.toNat ≤ 13)
    (∀ disp : BitVec 25, Branches (.b c disp) s c true (A.pc + 4 * disp.signExtend 64))
    ∧ (∀ (d : BitVec 5) (imm : BitVec 20), Does (.call c d imm) s fun t =>
        Retired s t c (jumpEnd (setG A d.toNat ret) (A.pc + 4 * imm.signExtend 64)) [])
    ∧ (∀ (cond : BitVec 3) (disp : BitVec 22), Branches (.bc c cond disp) s c
        (match cond.toNat with
         | 0 => code = 0 | 1 => code = 1 | 2 => code = 2 | 3 => code = 3 | 4 => code ≠ 0 | 5 => code ≠ 3
         | 6 => code = 1 ∨ code = 2 | _ => True : Bool) (A.pc + 4 * disp.signExtend 64))
    ∧ (any u.tag → any v.tag → (u.tag = v.tag ∨ u.tag = Tag.untyped ∨ v.tag = Tag.untyped) → ∀ disp : BitVec 12,
        let dest := A.pc + 4 * disp.signExtend 64
        Branches (.cb c 0 a b disp) s c (u.val = v.val) dest ∧ Branches (.cb c 1 a b disp) s c (u.val ≠ v.val) dest
        ∧ Branches (.cb c 2 a b disp) s c (u.val.toInt < v.val.toInt) dest
        ∧ Branches (.cb c 3 a b disp) s c (v.val.toInt ≤ u.val.toInt) dest
        ∧ Branches (.cb c 4 a b disp) s c (u.val.toNat < v.val.toNat) dest
        ∧ Branches (.cb c 5 a b disp) s c (v.val.toNat ≤ u.val.toNat) dest)
    ∧ ((u.tag = Tag.pointer ∨ u.tag = Tag.untyped) → u.val.toNat % 4 = 0 →
        Branches (.br c 0 a 0) s c true u.val
        ∧ ∀ d : BitVec 5, Does (.callr c d a 0) s fun t => Retired s t c (jumpEnd (setG A d.toNat ret) u.val) [])
    ∧ (Plain A → (u.tag = Tag.sealedW ∨ v.tag = Tag.sealedW) ∨ (u.tag ≠ v.tag ∧ u.tag ≠ Tag.untyped ∧ v.tag ≠ Tag.untyped) →
        u.tag ≠ Tag.poison → v.tag ≠ Tag.poison → ∀ (k : BitVec 3) (disp : BitVec 12), k.toNat < 6 →
          Traps (.cb c k a b disp) s c 6)
    ∧ (Plain A → ∀ disp : BitVec 12, Traps (.cb c 6 a b disp) s c 3 ∧ Traps (.cb c 7 a b disp) s c 3)
    ∧ (Plain A → (u.tag = Tag.pointer ∨ u.tag = Tag.untyped) → u.val.toNat % 4 ≠ 0 → Traps (.br c 0 a 0) s c 7)

/-- Hardware loops (R64, R65): LOOP pushes the start, the end and the count of a loop, skips the body for a count of 0,
and takes the Loop exception with four loops open; LEXIT drops the innermost loop, and takes the exception with none.

Where a word that does not branch goes (R64, R65): the next word; at the end of the innermost hardware loop with
further rounds to run, the loop's first word with the count one lower; at the end of its last round, the next word with
the loop left. -/
def Obligations.Loops : Prop :=
  (
  ∀ (s : State) (x : X) (c : Fin 96) (d : BitVec 5) (imm : BitVec 20), Starts s c 1 0 x →
    let A := archOf s c
    let n := gr A d.toNat
    let last := A.pc + 4 * imm.signExtend 64
    (A.depth < 4 → n.tag = Tag.untyped → n.val ≠ 0 → Does (.loop c d imm) s fun t => Retired s t c (counted { A with
        lstart := A.lstart.put 0 A.depth (A.pc + 4), lend := A.lend.put 0 A.depth last
        lcount := A.lcount.put 0 A.depth n.val, depth := A.depth + 1, pc := A.pc + 4 }) [])
    ∧ (A.depth < 4 → n.tag = Tag.untyped → n.val = 0 → Branches (.loop c d imm) s c true (last + 4))
    ∧ (0 < A.depth → Does (.lexit c 0 0 0) s fun t => Retired s t c (seqEnd { A with depth := A.depth - 1 }) [])
    ∧ (Plain A → 4 ≤ A.depth → Traps (.loop c d imm) s c 5)
    ∧ (Plain A → A.depth = 0 → Traps (.lexit c 0 0 0) s c 5)) ∧ (
  ∀ a : Arch,
    (a.depth = 0 ∨ a.lend.get 0 (a.depth - 1) ≠ a.pc → seqEnd a = counted { a with pc := a.pc + 4 }) ∧
    (∀ d, a.depth = d + 1 → a.lend.get 0 d = a.pc → 1 < (a.lcount.get 0 d).toNat →
      seqEnd a = counted { a with
        pc := a.lstart.get 0 d, lcount := a.lcount.put 0 d (a.lcount.get 0 d - 1) }) ∧
    (∀ d, a.depth = d + 1 → a.lend.get 0 d = a.pc → (a.lcount.get 0 d).toNat ≤ 1 →
      seqEnd a = counted { a with pc := a.pc + 4, depth := d, lcount := a.lcount.put 0 d 0 }))

/-- Paired words (R71, R90, R91): slot A runs before slot B on what A leaves, and the word retires as one; a short NOP
changes nothing. -/
def Obligations.PairedWords : Prop :=
  ∀ (s : State) (x : X) (c : Fin 96), Starts s c 2 2 x →
    let A := archOf s c
    Does (.shortNop c 0 0) s (fun t => Retired s t c (seqEnd A) [])
    ∧ (∀ (d e : BitVec 5) (m n : BitVec 5), d ≠ 0 →
        Does (.pairedWord c (11#5 ++ d ++ m) (10#5 ++ d ++ n)) s fun t => Retired s t c
          (seqEnd (setG (setG A d.toNat ⟨m.signExtend 64, Tag.untyped⟩) d.toNat
            ⟨m.signExtend 64 + n.signExtend 64, Tag.untyped⟩)) []
        ∧ ((gr A e.toNat).tag = Tag.untyped → e ≠ d →
          Does (.pairedWord c (11#5 ++ d ++ m) (25#5 ++ e ++ d)) s fun t => Retired s t c
            (seqEnd (setG (setG A d.toNat ⟨m.signExtend 64, Tag.untyped⟩) e.toNat
              ⟨(gr A e.toNat).val * m.signExtend 64, Tag.untyped⟩)) []))
    ∧ (∀ (u v : BitVec 15) (f g : Insn) (y z : X), shortOp u = some f → shortOp v = some g → f s c x = .ok y →
        g s c y = .ok z → z.late = [] → z.wait = none → z.fio = false → z.pref = none →
        Does (.pairedWord c u v) s fun t => Retired s t c (counted z.advance) z.ents)

/-- Operand tags (R49, R70): a word whose register operands carry a tag that its class does not accept takes the Tag
exception; no register changes and nothing is stored. A word that no table defines takes the Operation exception (R93).

Clauses that rest on the model's own choices: log entry 1. -/
def Obligations.OperandTags : Prop :=
  ∀ (s : State) (x : X) (c : Fin 96) (d a b : BitVec 5) (imm : BitVec 15), Starts s c 1 1 x → Plain (archOf s c) →
    let u := gr (archOf s c) a.toNat
    let v := gr (archOf s c) b.toNat
    ((u.tag ≠ Tag.untyped ∨ v.tag ≠ Tag.untyped) →
      Traps (.mul c d a b) s c 6 ∧ Traps (.mulhu c d a b) s c 6 ∧ Traps (.divu c d a b) s c 6
      ∧ Traps (.addu c d a b) s c 6 ∧ Traps (.subb c d a b) s c 6 ∧ Traps (.shl c d a b) s c 6
      ∧ Traps (.minu c d a b) s c 6 ∧ Traps (.rcpt c d a b) s c 6)
    ∧ (u.tag ≠ Tag.pointer → u.tag ≠ Tag.untyped →
      Traps (.ld c d a imm) s c 6 ∧ Traps (.lbu c d a imm) s c 6 ∧ Traps (.st c d a imm) s c 6
      ∧ Traps (.stf c d a imm) s c 6 ∧ Traps (.la c d a imm) s c 6 ∧ Traps (.br c 0 a 0) s c 6)
    ∧ (u.tag ≠ Tag.sealedW → Traps (.movs c d a 0) s c 6)
    ∧ ((gr (archOf s c) d.toNat).tag = Tag.sealedW → (u.tag = Tag.pointer ∨ u.tag = Tag.untyped) →
      Traps (.st c d a imm) s c 6)
    ∧ (∀ w : BitVec 32, wordDefined w = false → Traps (.undefinedOpcode c w) s c 3)

/-! ## System words -/

/-- Special registers (R19, R58, R60, R61): RDTIME reads Device Time tagged TIME, MFPSW the PSW, MFC a control register
(0 for a reserved one), MTC and MTPSW write what is writable of one in supervisor state; in program state the privileged
words, and MFC of a register that program state may not read, take the Privilege exception.

Clauses that rest on the model's own choices: log entry 1. -/
def Obligations.SpecialRegisters : Prop :=
  ∀ (s : State) (x : X) (c : Fin 96) (d r : BitVec 5), Starts s c 1 0 x →
    let A := archOf s c
    let u := gr A r.toNat
    let sup := A.psw0.getLsbD 0
    let user (n : Nat) : Prop := n = 16 ∨ n = 18 ∨ n = 21 ∨ n = 22 ∨ n = 24 ∨ n = 25
    let reserved (n : Nat) : Prop := n = 15 ∨ n = 20 ∨ n = 23 ∨ 26 ≤ n
    WritesG (.rdtime c d 0 0) s c d.toNat ⟨s.nowStage, Tag.time⟩
    ∧ WritesG (.mfpsw c d 0 0) s c d.toNat ⟨A.psw0, Tag.untyped⟩
    ∧ ((sup = true ∨ user r.toNat) → r.toNat ≠ 25 → ¬ reserved r.toNat →
        WritesG (.mfc c d r 0) s c d.toNat ⟨cr A r.toNat, Tag.untyped⟩)
    ∧ (sup = true → reserved r.toNat → WritesG (.mfc c d r 0) s c d.toNat ⟨0, Tag.untyped⟩)
    ∧ (r.toNat = 25 → ∃ w : Word, WritesG (.mfc c d r 0) s c d.toNat ⟨w, Tag.untyped⟩)
    ∧ (sup = true → u.tag = Tag.untyped →
        Does (.mtpsw c 0 r 0) s (fun t => Retired s t c (seqEnd { A with psw0 := u.val &&& 0x1FF }) [])
        ∧ Does (.mtc c d r 0) s fun t => Retired s t c (seqEnd (cWrite A d.toNat u.val)) [])
    ∧ (Plain A → sup = false → ¬ user r.toNat → Traps (.mfc c d r 0) s c 4)
    ∧ (Plain A → sup = false → Traps (.mtc c d r 0) s c 4 ∧ Traps (.mtpsw c 0 r 0) s c 4)

/-- Exception entry (R62): C1 to C5 take the PC, the PSW, the cause, the address and CC with the loop depth; the processor
enters supervisor state with IE and TE 0, EL and XLATE 1 and loop depth 0, at the vector of the code.

Calls of the system and returns (R62, R63, R70, R73): SVC completes, so the PC saved is that of the next word, and its
number stands in DETAIL; BRK is suppressed and saves its own PC; RFE and RFN restore PC, PSW, CC and loop depth from the
registers that the entry saved, RFN with NL cleared. -/
def Obligations.ExceptionsAndReturns : Prop :=
  (
  ∀ (a : Arch) (code : Nat) (cause addr : Word),
    let b := enterExc a code cause addr
    cr b 1 = a.pc ∧ cr b 2 = a.psw0 ∧ cr b 3 = cause ∧ cr b 4 = addr
    ∧ (cr b 5).getLsbD 0 = a.cc.getLsbD 0 ∧ (cr b 5).getLsbD 1 = a.cc.getLsbD 1
    ∧ (a.depth ≤ 4 → ((cr b 5).toNat / 4) = a.depth)
    ∧ b.psw0.getLsbD 0 = true ∧ b.psw0.getLsbD 1 = false ∧ b.psw0.getLsbD 2 = true
    ∧ b.psw0.getLsbD 4 = true ∧ b.psw0.getLsbD 8 = false
    ∧ b.depth = 0 ∧ b.pc = cr a 8 + BitVec.ofNat 64 (0x40 * code)
    ∧ (∀ n, n ≠ 1 → n ≠ 2 → n ≠ 3 → n ≠ 4 → n ≠ 5 → cr b n = cr a n)
    ∧ b.g = a.g ∧ b.f = a.f ∧ b.fpsr = a.fpsr ∧ b.cc = a.cc) ∧ (
  ∀ (s : State) (x : X) (c : Fin 96), Starts s c 1 0 x →
    let A := archOf s c
    (Plain A → ∀ n : BitVec 16, Does (.svc c 0 n) s fun t =>
        Retired s t c (enterExc (seqEnd A) 0x0F (causeWord 0x0F false 0 0 false 0 n.toNat) 0) [])
    ∧ (Plain A → Traps (.brk c 0 0 0) s c 0x11)
    ∧ (A.psw0.getLsbD 0 = true → (cr A 5).toNat / 4 % 8 ≤ 4 → Does (.rfe c 0 0 0) s fun t =>
        Retired s t c (jumpEnd { A with psw0 := cr A 2 &&& 0x1FF, cc := (cr A 5).setWidth 2
                                        depth := (cr A 5).toNat / 4 % 8 } (cr A 1 &&& ~~~ 3)) [])
    ∧ (A.psw0.getLsbD 0 = true → (cr A 13).toNat / 4 % 8 ≤ 4 → Does (.rfn c 0 0 0) s fun t =>
        Retired s t c (jumpEnd { A with psw0 := setBit (cr A 11 &&& 0x1FF) 3 false, cc := (cr A 13).setWidth 2
                                        depth := (cr A 13).toNat / 4 % 8 } (cr A 10 &&& ~~~ 3)) [])
    ∧ (Plain A → A.psw0.getLsbD 0 = false → Traps (.rfe c 0 0 0) s c 4 ∧ Traps (.rfn c 0 0 0) s c 4))

/-- Events and waiting (R67–R69, R101): RDEV reads the pending events, in program state those delegated; CLREV clears and
SETEV sets those of its mask; WAIT completes at once when one of its mask is pending, and otherwise the processor waits for
it at the WAIT.

Fences and maintenance (R80, R83, R101, R169, R188): FENCE.M and FENCE.IO change no register and hold the next word back
until every earlier store is visible; TLBI, TLBIA, CLEAN.L and FLUSH.L put one entry into the gate, in supervisor state
only; PREF raises nothing. -/
def Obligations.EventsAndFences : Prop :=
  (
  ∀ (s : State) (x : X) (c : Fin 96) (d e : BitVec 5), Starts s c 1 0 x →
    let A := archOf s c
    let m : Word := (d ++ e).zeroExtend 64
    let sup := A.psw0.getLsbD 0
    WritesG (.rdev c d 0 0) s c d.toNat ⟨if sup then cr A 16 else cr A 16 &&& cr A 18, Tag.untyped⟩
    ∧ Does (.clrev c d e 0) s (fun t => Retired s t c
        (seqEnd (setC A 16 (cr A 16 &&& ~~~ (if sup then m else m &&& cr A 18)))) [])
    ∧ (sup = true → Does (.setev c d e 0) s fun t => Retired s t c (seqEnd (setC A 16 (cr A 16 ||| m))) [])
    ∧ ((sup = true ∨ m &&& ~~~ (cr A 18) = 0) → cr A 16 &&& m ≠ 0 → Does (.wait c d e 0) s fun t =>
        Retired s t c (seqEnd A) [])
    ∧ ((sup = true ∨ m &&& ~~~ (cr A 18) = 0) → cr A 16 &&& m = 0 → Does (.wait c d e 0) s fun t =>
        (t.proc c).waiting = some m ∧ Retired s t c A [])
    ∧ (Plain A → sup = false → Traps (.setev c d e 0) s c 4)) ∧ (
  ∀ (s : State) (x : X) (c : Fin 96) (r : BitVec 5), Starts s c 1 1 x →
    let A := archOf s c
    let u := gr A r.toNat
    let sup := A.psw0.getLsbD 0
    let E (k : GateKind) (pa : Nat) : GateEnt := { kind := k, pa := pa, data := ⟨0, Tag.untyped⟩, super := true }
    let G (i : Instr) (k : GateKind) (pa : Nat) : Prop := Does i s fun t => Retired s t c (seqEnd A) [E k pa]
    Does (.fenceM c 0 0 0) s (fun t => Retired s t c (seqEnd A) [] ∧ (t.proc c).ser = true)
    ∧ Does (.fenceIo c 0 0 0) s (fun t => archOf t c = seqEnd A ∧ (t.proc c).ser = true ∧ t.mem = s.mem ∧ t.coh = s.coh
        ∧ (∀ ch, s.movOwner ch = s.partOf c → ch ∉ t.cmp.unsettled))
    ∧ (sup = true → (u.tag = Tag.pointer ∨ u.tag = Tag.untyped) →
        G (.tlbi c 0 r 0) .tlbi u.val.toNat
        ∧ ∀ (y : X) (pa : Nat), s.translate c x .load u.val = .ok (pa, y) →
          G (.cleanL c 0 r 0) .clean (pa / 128 * 128) ∧ G (.flushL c 0 r 0) .flush (pa / 128 * 128))
    ∧ (sup = true → G (.tlbia c 0 0 0) .tlbia 0)
    ∧ Does (.pref c 0 r 0) s (fun t => archOf t c = seqEnd A ∧ t.mem = s.mem ∧ (∀ k, k ≠ c.val → t.proc k = s.proc k))
    ∧ (Plain A → sup = false → Traps (.tlbi c 0 r 0) s c 4 ∧ Traps (.tlbia c 0 0 0) s c 4 ∧ Traps (.cleanL c 0 r 0) s c 4
        ∧ Traps (.flushL c 0 r 0) s c 4))

/-! ## Floating point -/

/-- Floating-point words (R102, R103, R118): the result of the operation on the operands in the word's format goes to Fd,
the flags that it raises are ORed into FPSR, and where TRAPS enables one of them the word completes and takes the
Floating-Point exception with all of them in DETAIL; a format that the operation does not have takes Operation.

Comparisons, conversions and moves between the register files (R102, R118, R122) with no trap enabled.

Clauses that rest on the model's own choices: log entry 22. -/
def Obligations.FloatWordsAndMoves : Prop :=
  (
  ∀ (s : State) (x : X) (c : Fin 96) (fmt : BitVec 2) (d a b k : BitVec 5), Starts s c 1 0 x →
    let A := archOf s c
    let u := fr A a.toNat
    let v := fr A b.toNat
    let w := fr A k.toNat
    let rm := (A.fpsr.toNat / 2 ^ 10) % 8
    let W (i : Instr) (g : Fmt → List Nat → Nat × Nat) (ws : List Word) : Prop :=
      let r := inFmt fmt.toNat g ws
      let fl := r.2 % 32
      let B := { setF A d.toNat r.1 with fpsr := A.fpsr ||| BitVec.ofNat 64 fl }
      (BitVec.ofNat 5 fl &&& A.fpsr.extractLsb' 5 5 = 0 → Does i s fun t => Retired s t c (seqEnd B) [])
      ∧ (Plain A → BitVec.ofNat 5 fl &&& A.fpsr.extractLsb' 5 5 ≠ 0 → Does i s fun t =>
          Retired s t c (enterExc (seqEnd B) 0x0E (causeWord 0x0E false 0 0 false 0 fl) 0) [])
    (fmt ≠ 3 →
      W (.fadd c fmt d a b) (fun f l => f.add false rm (n0 l) (n1 l)) [u, v]
      ∧ W (.fsub c fmt d a b) (fun f l => f.add true rm (n0 l) (n1 l)) [u, v]
      ∧ W (.fmul c fmt d a b) (fun f l => f.mul rm (n0 l) (n1 l)) [u, v]
      ∧ W (.fabs c fmt d a b) (fun f l => (f.fabs (n0 l) (n1 l), 0)) [u, v]
      ∧ W (.fneg c fmt d a b) (fun f l => (f.fneg (n0 l) (n1 l), 0)) [u, v]
      ∧ W (.fcpys c fmt d a b) (fun f l => (f.fcpys (n0 l) (n1 l), 0)) [u, v]
      ∧ W (.fmadd c fmt d a b k) (fun f l => f.fma rm false (n0 l) (n1 l) (n2 l)) [u, v, w]
      ∧ W (.fmsub c fmt d a b k) (fun f l => f.fma rm true (n0 l) (n1 l) (n2 l)) [u, v, w]
      ∧ W (.fnmadd c fmt d a b k) (fun f l => f.negRes (f.fma rm false (n0 l) (n1 l) (n2 l))) [u, v, w]
      ∧ W (.fnmsub c fmt d a b k) (fun f l => f.negRes (f.fma rm true (n0 l) (n1 l) (n2 l))) [u, v, w])
    ∧ (fmt.toNat < 2 →
      W (.fdiv c fmt d a b) (fun f l => f.div rm (n0 l) (n1 l)) [u, v]
      ∧ W (.fsqrt c fmt d a 0) (fun f l => f.sqrt rm (n0 l)) [u]
      ∧ W (.fmin c fmt d a b) (fun f l => f.minmax false (n0 l) (n1 l)) [u, v]
      ∧ W (.fmax c fmt d a b) (fun f l => f.minmax true (n0 l) (n1 l)) [u, v])
    ∧ (Plain A → fmt = 3 → Traps (.fadd c fmt d a b) s c 3 ∧ Traps (.fmul c fmt d a b) s c 3
        ∧ Traps (.fmadd c fmt d a b k) s c 3)
    ∧ (Plain A → 2 ≤ fmt.toNat → Traps (.fdiv c fmt d a b) s c 3 ∧ Traps (.fmin c fmt d a b) s c 3)) ∧ (
  ∀ (s : State) (x : X) (c : Fin 96) (d a b : BitVec 5), Starts s c 1 0 x → (archOf s c).fpsr.extractLsb' 5 5 = 0 →
    let A := archOf s c
    let u := (fr A a.toNat).toNat
    let v := (fr A b.toNat).toNat
    let g := gr A a.toNat
    let rm := (A.fpsr.toNat / 2 ^ 10) % 8
    let fp (B : Arch) (fl : Nat) : Arch := { B with fpsr := A.fpsr ||| BitVec.ofNat 64 (fl % 32) }
    let C (i : Instr) (r : BitVec 2 × Nat) : Prop := Does i s fun t =>
      Retired s t c (seqEnd (fp { A with cc := r.1 } r.2)) []
    let F (i : Instr) (r : Nat × Nat) : Prop := Does i s fun t =>
      Retired s t c (seqEnd (fp (setF A d.toNat (BitVec.ofNat 64 r.1)) r.2)) []
    let G (i : Instr) (r : Word × Nat) : Prop := Does i s fun t =>
      Retired s t c (seqEnd (fp (setG A d.toNat ⟨r.1, Tag.untyped⟩) r.2)) []
    let lo (n : Nat) : Nat := n % 2 ^ 32
    C (.fcmp c 0 0 a b) (fmtD.cmp false u v) ∧ C (.fcmp c 1 0 a b) (fmtS.cmp false (lo u) (lo v))
    ∧ C (.fcmps c 0 0 a b) (fmtD.cmp true u v) ∧ C (.fcmps c 1 0 a b) (fmtS.cmp true (lo u) (lo v))
    ∧ F (.fcvtDS c 0 d a b) (cvtDS (lo u)) ∧ F (.fcvtSD c 0 d a b) (cvtSD rm u)
    ∧ G (.fcvtL c 0 d a b) (fmtD.toInt64 rm (-(2 ^ 63)) (2 ^ 63 - 1) u)
    ∧ G (.fcvtL c 1 d a b) (fmtS.toInt64 rm (-(2 ^ 63)) (2 ^ 63 - 1) (lo u))
    ∧ G (.fcvtLu c 0 d a b) (fmtD.toInt64 rm 0 (2 ^ 64 - 1) u)
    ∧ G (.fcvtLu c 1 d a b) (fmtS.toInt64 rm 0 (2 ^ 64 - 1) (lo u))
    ∧ (g.tag = Tag.untyped →
        F (.fcvtFl c 0 d a b) (fmtD.ofInt rm g.val.toInt) ∧ F (.fcvtFl c 1 d a b) (fmtS.ofInt rm g.val.toInt)
        ∧ F (.fcvtFlu c 0 d a b) (fmtD.ofInt rm g.val.toNat) ∧ F (.fcvtFlu c 1 d a b) (fmtS.ofInt rm g.val.toNat))
    ∧ ((g.tag = Tag.binfp ∨ (A.psw0.getLsbD 6 = true ∧ g.tag = Tag.untyped)) →
        Does (.fmvFg c 0 d a b) s fun t => Retired s t c (seqEnd (setF A d.toNat g.val)) [])
    ∧ WritesG (.fmvGf c 0 d a b) s c d.toNat ⟨fr A a.toNat, Tag.binfp⟩
    ∧ Does (.fmv c 0 d a b) s (fun t => Retired s t c (seqEnd (setF A d.toNat (fr A a.toNat))) [])
    ∧ (Plain A → Traps (.fcvtDS c 1 d a b) s c 3 ∧ Traps (.fcmp c 2 0 a b) s c 3 ∧ Traps (.fmv c 1 d a b) s c 3))

/-- Values (R115–R122), in binary64: the first NaN operand comes back quiet, and a signalling one raises Invalid; a sum of
opposite infinities and 0 / 0 give the default NaN with Invalid; a finite number divided by zero gives a signed infinity
with Divide-by-zero; FABS, FNEG and FCPYS move sign bits only.

Clauses that rest on the model's own choices: log entry 22. -/
def Obligations.FloatValues : Prop :=
  (∀ (rm a b : Nat) (sub : Bool), fmtD.isN a = true →
    (fmtD.add sub rm a b).1 = (if a / 2 ^ 51 % 2 = 1 then a else a + 2 ^ 51) ∧
    (fmtD.mul rm a b).1 = (fmtD.add sub rm a b).1 ∧ (fmtD.div rm a b).1 = (fmtD.add sub rm a b).1 ∧
    (fmtD.isS a = true → (fmtD.add sub rm a b).2 = 16)) ∧
  (∀ rm : Nat, fmtD.add false rm 0x7FF0000000000000 0xFFF0000000000000 = (0x7FF8000000000000, 16) ∧
    fmtD.div rm 0 0 = (0x7FF8000000000000, 16)) ∧
  (∀ (rm a : Nat), a < 2 ^ 63 → 0 < a → a < 0x7FF0000000000000 →
    fmtD.div rm a 0 = (0x7FF0000000000000, 8) ∧ fmtD.div rm (a + 2 ^ 63) 0 = (0xFFF0000000000000, 8)) ∧
  (∀ a b : Nat, a < 2 ^ 64 → b < 2 ^ 64 →
    fmtD.fabs a b = a % 2 ^ 63 ∧ fmtD.fneg a b % 2 ^ 63 = a % 2 ^ 63 ∧
    (fmtD.fneg a b / 2 ^ 63 % 2 = 1 - a / 2 ^ 63 % 2) ∧ fmtD.fcpys a b % 2 ^ 63 = a % 2 ^ 63 ∧
    fmtD.fcpys a b / 2 ^ 63 % 2 = b / 2 ^ 63 % 2)

/-! ## External operations -/

/-- Atomics (R32, R104): the old word goes to Gd with its tag and the new word to memory; ACAS stores only where the old
word and its tag equal Gd, and says so in CC. Where the line is at its home and no dirty tracking covers it, the word
reads as the new value afterwards and every other word of memory as before.

Clauses that rest on the model's own choices: log entry 23. -/
def Obligations.AtomicWords : Prop :=
  ∀ (s : State) (x y z z' : X) (c : Fin 96) (d a b : BitVec 5) (p pa : Nat), StartsExt s c x →
    let A := archOf s c
    let u := gr A a.toNat
    let v := gr A b.toNat
    (u.tag = Tag.pointer ∨ u.tag = Tag.untyped) → u.val.toNat % 8 = 0 →
    s.translate c x .load u.val = .ok (p, y) → s.translate c y .store u.val = .ok (pa, z) →
    s.translate c z .store u.val = .ok (pa, z') → pa % 8 = 0 →
    let old := s.readPa pa
    let E (i : Instr) (B : Arch) (new : TWord) : Prop := Does i s fun t =>
      archOf t c = seqEnd (setG B d.toNat old) ∧ (∀ k, k ≠ c.val → t.proc k = s.proc k)
      ∧ RegsKept s t c
      ∧ t = { s with free := t.free, regs := t.regs, mem := t.mem, coh := t.coh
                     core := { s.core with procs := t.core.procs, tlb := t.core.tlb } }
      ∧ (AtHome s (pa / 128) → s.tracked pa = [] →
          t.readPa pa = new ∧ ∀ q, q / 8 ≠ pa / 8 → t.readPa q = s.readPa q)
    (old.tag = Tag.untyped → v.tag = Tag.untyped →
      let N (i : Instr) (n : Word) : Prop := E i A ⟨n, Tag.untyped⟩
      N (.aadd c d a b) (old.val + v.val) ∧ N (.aand c d a b) (old.val &&& v.val) ∧ N (.aor c d a b) (old.val ||| v.val)
      ∧ N (.axor c d a b) (old.val ^^^ v.val)
      ∧ N (.amin c d a b) (if v.val.toInt < old.val.toInt then v.val else old.val)
      ∧ N (.amax c d a b) (if old.val.toInt < v.val.toInt then v.val else old.val)
      ∧ N (.aminu c d a b) (if v.val.toNat < old.val.toNat then v.val else old.val)
      ∧ N (.amaxu c d a b) (if old.val.toNat < v.val.toNat then v.val else old.val))
    ∧ (let plain (t : Tag) : Prop := t = Tag.untyped ∨ t = Tag.binfp ∨ t = Tag.decimal ∨ t = Tag.text
          ∨ t = Tag.pointer ∨ t = Tag.receipt ∨ t = Tag.time ∨ t = Tag.user
       plain old.tag → plain v.tag →
        E (.aswap c d a b) A v
        ∧ (plain (gr A d.toNat).tag → old = gr A d.toNat → E (.acas c d a b) { A with cc := 0 } v)
        ∧ (plain (gr A d.toNat).tag → old ≠ gr A d.toNat → E (.acas c d a b) { A with cc := 1 } old))

/-- Words that reach the Partition Control Page (R32, R81, R105): IOST, the posts, MVGO and JCOMMIT put a device write of
the right offset into the gate and hold the next word back; IOLD and MVSYNC bring back the word that the page reads. -/
def Obligations.DeviceWords : Prop :=
  (∀ (s : State) (x : X) (c : Fin 96) (d a : BitVec 5) (imm : BitVec 15), Starts s c 1 1 x →
    let A := archOf s c
    let u := gr A a.toNat
    let v := gr A d.toNat
    let va := u.val + imm.signExtend 64
    let any (t : Tag) : Prop := t ≠ Tag.sealedW ∧ t ≠ Tag.poison ∧ ¬ (9 ≤ t.toNat ∧ t.toNat ≤ 13)
    let W (i : Instr) (off : Nat) (w : Word) : Prop := Does i s fun t => (t.proc c).ser = true ∧
      Retired s t c (seqEnd A) [{ kind := .device, pa := off, data := ⟨w, Tag.untyped⟩, super := A.psw0.getLsbD 0 }]
    (u.tag = Tag.untyped → any v.tag → va.toNat % 8 = 0 → va.toNat < 0x10000 → W (.iost c d a imm) va.toNat v.val)
    ∧ (u.tag = Tag.untyped → W (.cqpost c d a 0) (0x40 * d.toNat + 0x18) u.val
        ∧ W (.zqpost c d a 0) (0x800 + 0x40 * d.toNat + 0x18) u.val)
    ∧ (u.tag = Tag.untyped → (s.slotChannel (s.partOf c) d.toNat).isSome = true →
        W (.mvgo c d a 0) (0x2000 + 0x40 * d.toNat + 0x18) (u.val ||| 1))
    ∧ ((u.tag = Tag.pointer ∨ u.tag = Tag.untyped) → W (.jcommit c 0 a 0) 0x4020 u.val)
    ∧ (Plain A → u.tag = Tag.untyped → any v.tag → va.toNat % 8 ≠ 0 → Traps (.iost c d a imm) s c 7)
    ∧ (Plain A → s.slotChannel (s.partOf c) d.toNat = none → Traps (.mvgo c d a 0) s c 3)) ∧
  (∀ (s : State) (x : X) (c : Fin 96) (d a : BitVec 5) (imm : BitVec 15), StartsExt s c x →
    let A := archOf s c
    let va := (gr A a.toNat).val + imm.signExtend 64
    ((gr A a.toNat).tag = Tag.untyped → va.toNat % 8 = 0 → va.toNat < 0x10000 →
      Does (.iold c d a imm) s fun t => archOf t c = seqEnd
        (setG A d.toNat ⟨(s.pageRead (s.partOf c) va.toNat (A.psw0.getLsbD 0)).1, Tag.untyped⟩))
    ∧ (∀ ch, s.slotChannel (s.partOf c) a.toNat = some ch → ch ∉ s.cmp.unsettled →
      Does (.mvsync c d a 0) s fun t => archOf t c = seqEnd (setG A d.toNat ⟨s.peek (aMov ch 0x28), Tag.untyped⟩)
        ∧ t.mem = s.mem ∧ t.coh = s.coh))

/-! ## Units of work and packed decimal -/

/-- Units of work (R75–R77, R106), with no patch loaded and operands that fit their words: one unit of `n` bytes advances
the address registers, counts the lengths down and says in CC whether more remains; MOVB, FILLB and MAPB store exactly the
unit's bytes into the words of the destination.

Clauses that rest on the model's own choices: log entries 21 and 23. -/
def Obligations.UnitsOfWork : Prop :=
  ∀ (s : State) (x : X) (c : Fin 96) (d r : BitVec 5), Starts s c 44 33 x → s.patched = false →
    d.toNat % 2 = 0 → r.toNat % 2 = 0 → d ≠ 0 → r ≠ 0 →
    let A := archOf s c
    let da := gr A d.toNat
    let sa := gr A r.toNat
    let dl := gr A (d.toNat + 1)
    let sl := gr A (r.toNat + 1)
    let x1 : X := { x with free := x.free + 1 }
    let toEnd (w : Word) : Nat := 4096 - w.toNat % 4096
    let pu (t : Tag) : Prop := t = Tag.pointer ∨ t = Tag.untyped
    let clean (l : List OpWord) : Prop := ∀ w ∈ l, w.w.tag = Tag.untyped
    let adv (B : Arch) (k : Nat) (m : Nat) : Arch := setG B k ⟨(gr B k).val + BitVec.ofNat 64 m, (gr B k).tag⟩
    let cut (B : Arch) (k : Nat) (m : Nat) : Arch := setG B k ⟨(gr B k).val - BitVec.ofNat 64 m, (gr B k).tag⟩
    let more (len n : Nat) : BitVec 2 := if n < len then 3 else 0
    let P (i : Instr) (B : Arch) (cc : BitVec 2) (ld : List OpWord) (b : Bytes) : Prop := Does i s fun t =>
      ∃ ents, Retired s t c (seqEnd { B with cc := cc }) ents ∧ written ents = b ∧ places ents = ld.map OpWord.pa
    pu da.tag → dl.tag = Tag.untyped →
    (∀ (ls ld : List OpWord) (y z : X), pu sa.tag →
      let n := min (min 256 dl.val.toNat) (min (toEnd da.val) (toEnd sa.val))
      s.touch c .load (wordVas sa.val n) x1 = .ok (ls, y) → s.touch c .store (wordVas da.val n) y = .ok (ld, z) →
      clean ls → clean ld →
      P (.movb c d r 0) (cut (adv (adv A d.toNat n) r.toNat n) (d.toNat + 1) n) (more dl.val.toNat n) ld
        (opBytes sa.val n ls))
    ∧ (∀ (ld : List OpWord) (y : X), sa.tag = Tag.untyped →
      let n := min (min 256 dl.val.toNat) (toEnd da.val)
      s.touch c .store (wordVas da.val n) x1 = .ok (ld, y) → clean ld →
      P (.fillb c d r 0) (cut (adv A d.toNat n) (d.toNat + 1) n) (more dl.val.toNat n) ld
        (List.replicate n (sa.val.setWidth 8)))
    ∧ (∀ (l1 l2 : List OpWord) (y z : X), pu sa.tag → sl.tag = Tag.untyped →
      let a1 := dl.val.toNat
      let a2 := sl.val.toNat
      let n := min (min 256 (min a1 a2)) (min (toEnd da.val) (toEnd sa.val))
      s.touch c .load (wordVas da.val n) x1 = .ok (l1, y) → s.touch c .load (wordVas sa.val n) y = .ok (l2, z) →
      clean l1 → clean l2 →
      let p := opBytes da.val n l1
      let q := opBytes sa.val n l2
      let B (m : Nat) : Arch := cut (cut (adv (adv A d.toNat m) r.toNat m) (d.toNat + 1) m) (r.toNat + 1) m
      (p = q → P (.cmpb c d r 0) (B n)
        (if n < min a1 a2 then 3 else if a1 < a2 then 1 else if a2 < a1 then 2 else 0) [] [])
      ∧ (∀ k, k < p.length → k < q.length → p.take k = q.take k → p.getD k 0 ≠ q.getD k 0 →
          P (.cmpb c d r 0) (B k) (if (p.getD k 0).toNat < (q.getD k 0).toNat then 1 else 2) [] []))
    ∧ (∀ (l1 : List OpWord) (y : X), sa.tag = Tag.untyped →
      let n := min (min 256 dl.val.toNat) (toEnd da.val)
      s.touch c .load (wordVas da.val n) x1 = .ok (l1, y) → clean l1 →
      let p := opBytes da.val n l1
      let B (m : Nat) : Arch := cut (adv A d.toNat m) (d.toNat + 1) m
      ((sa.val.setWidth 8 : Byte) ∉ p → P (.scanb c d r 0) (B n) (more dl.val.toNat n) [] [])
      ∧ (∀ k, k < p.length → p.getD k 0 = sa.val.setWidth 8 → (sa.val.setWidth 8 : Byte) ∉ p.take k →
          P (.scanb c d r 0) (B k) 1 [] [])
      ∧ ∃ w : Word, w.setWidth 32 = crc32cRaw (sa.val.setWidth 32) p ∧
          P (.crcb c d r 0) (setG (B n) r.toNat ⟨w, Tag.untyped⟩) (more dl.val.toNat n) [] [])
    ∧ (∀ (lm l1 ld : List OpWord) (y z w : X), pu sa.tag →
      let n := min (min 256 dl.val.toNat) (toEnd da.val)
      s.touch c .load (wordVas sa.val 256) x1 = .ok (lm, y) → s.touch c .load (wordVas da.val n) y = .ok (l1, z) →
      s.touch c .store (wordVas da.val n) z = .ok (ld, w) → clean lm → clean ld →
      P (.mapb c d r 0) (cut (adv A d.toNat n) (d.toNat + 1) n) (more dl.val.toNat n) ld
        ((opBytes da.val n ld).map fun b => (opBytes sa.val 256 lm).getD b.toNat 0))

/-- Packed decimal (R107, R125–R130), with no patch loaded: each instruction stores the bytes of its decimal result in
operand 1 with the tag DECIMAL and sets the decimal CC, where the result fits operand 1; DCMP and DTEST store nothing; a
zero divisor leaves operand 1 as it is with CC 3 and takes Decimal Overflow unless it is masked.

Conversions of packed decimal (R107, R131–R133), with no patch loaded: CVDB to a register pair, CVBD from one, PACKA
from ASCII digits and UNPKA to them.

Clauses that rest on the model's own choices: log entry 21. -/
def Obligations.Decimals : Prop :=
  (
  ∀ (s : State) (x y : X) (c : Fin 96) (l1 l2 b1 b2 : BitVec 5) (ls : List OpWord) (p q : Bytes) (u v : Int),
    Starts s c 64 5 x → s.patched = false →
    let A := archOf s c
    let n1 := l1.toNat + 1
    let n2 := l2.toNat + 1
    let o1 := gr A b1.toNat
    let o2 := gr A b2.toNat
    let x1 : X := { x with free := x.free + 1 }
    let dec := isD (A.psw0.getLsbD 6)
    let fits (r : Int) : Prop := r.natAbs < 10 ^ (2 * n1 - 1)
    let sign (r : Int) : BitVec 2 := if r = 0 then 0 else if r < 0 then 1 else 2
    let P (i : Instr) (r : Int) : Prop := Does i s fun t => ∃ ents,
      Retired s t c (seqEnd { A with cc := sign r }) ents
      ∧ written ents = decBytes n1 (decide (r < 0)) r.natAbs ∧ places ents = ls.map OpWord.pa
      ∧ ∀ e ∈ ents, e.data.tag = Tag.decimal ∧ e.keep = false
    (Reads s c x1 true true true dec dec o1 o2 n1 n2 y ls p q → decVal p = some u → decVal q = some v →
      (fits (u + v) → P (.dadd c l1 l2 b1 b2) (u + v)) ∧ (fits (u - v) → P (.dsub c l1 l2 b1 b2) (u - v))
      ∧ (fits (u * v) → P (.dmul c l1 l2 b1 b2) (u * v))
      ∧ (v ≠ 0 → fits (u.tdiv v) → P (.ddiv c l1 l2 b1 b2) (u.tdiv v))
      ∧ (v ≠ 0 → fits (u.tmod v) → P (.drem c l1 l2 b1 b2) (u.tmod v))
      ∧ (v = 0 → A.psw0.getLsbD 7 = true → Does (.ddiv c l1 l2 b1 b2) s fun t =>
          Retired s t c (seqEnd { A with cc := 3 }) [])
      ∧ (v = 0 → A.psw0.getLsbD 7 = false → Plain A → Does (.ddiv c l1 l2 b1 b2) s fun t =>
          Retired s t c (enterExc (seqEnd { A with cc := 3 }) 0x0D (causeWord 0x0D false 0 0 false 0 0) 0) []))
    ∧ (Reads s c x1 true false true dec dec o1 o2 n1 n2 y ls p q → decVal p = some u → decVal q = some v →
      WritesCc (.dcmp c l1 l2 b1 b2) s c (if u = v then 0 else if u < v then 1 else 2))
    ∧ (Reads s c x1 false true true dec dec o1 o2 n1 n2 y ls p q → decVal q = some v → fits v →
      P (.dzadd c l1 l2 b1 b2) v)
    ∧ (Reads s c x1 true false false dec isU o1 {} n1 0 y ls p q → decVal p = some u →
      WritesCc (.dtest c l1 0 b1 0) s c (sign u))
    ∧ (Reads s c x1 true true false dec isU o1 {} n1 0 y ls p q → decVal p = some u →
      (o1.tag = Tag.pointer ∨ o1.tag = Tag.untyped) → o2.tag = Tag.untyped →
      let k := o2.val.toNat % 128
      let m : Nat := 10 ^ (128 - k)
      (k < 64 → fits (u * 10 ^ k) → P (.dsrr c l1 0 b1 b2) (u * 10 ^ k) ∧ P (.dsrr c l1 1 b1 b2) (u * 10 ^ k))
      ∧ (64 ≤ k → fits (u.tdiv m) → P (.dsrr c l1 0 b1 b2) (u.tdiv m))
      ∧ (64 ≤ k → let r : Int := ((u.natAbs + m / 2) / m : Nat)
          fits r → P (.dsrr c l1 1 b1 b2) (if u < 0 then -r else r)))
    ∧ (Plain A → Reads s c x1 true true true dec dec o1 o2 n1 n2 y ls p q → decVal p = none →
      Traps (.dadd c l1 l2 b1 b2) s c 0x0B)) ∧ (
  ∀ (s : State) (x y : X) (c : Fin 96) (l1 l2 b1 b2 : BitVec 5) (ls : List OpWord) (p q : Bytes) (u : Int),
    Starts s c 64 5 x → s.patched = false →
    let A := archOf s c
    let n1 := l1.toNat + 1
    let n2 := l2.toNat + 1
    let o1 := gr A b1.toNat
    let o2 := gr A b2.toNat
    let x1 : X := { x with free := x.free + 1 }
    let dec := isD (A.psw0.getLsbD 6)
    let txt := isT (A.psw0.getLsbD 6)
    let sign (r : Int) : BitVec 2 := if r = 0 then 0 else if r < 0 then 1 else 2
    let P (i : Instr) (cc : BitVec 2) (b : Bytes) : Prop := Does i s fun t => ∃ ents,
      Retired s t c (seqEnd { A with cc := cc }) ents ∧ written ents = b ∧ places ents = ls.map OpWord.pa
    (Reads s c x1 true false false dec isU o1 {} n1 0 y ls p q → decVal p = some u → b2.toNat % 2 = 0 →
      -(2 ^ 127) ≤ u → u < 2 ^ 127 →
      Does (.cvdb c l1 0 b1 b2) s fun t => Retired s t c (seqEnd { setG (setG A b2.toNat
        ⟨BitVec.ofInt 64 (u / 2 ^ 64), Tag.untyped⟩) (b2.toNat + 1) ⟨BitVec.ofInt 64 u, Tag.untyped⟩ with cc := sign u }) [])
    ∧ (let hi := gr A b2.toNat
       let lo := gr A (b2.toNat + 1)
       let r : Int := hi.val.toInt * 2 ^ 64 + lo.val.toNat
       Reads s c x1 false true false dec isU o1 {} n1 0 y ls p q → b2.toNat % 2 = 0 →
        (o1.tag = Tag.pointer ∨ o1.tag = Tag.untyped) → hi.tag = Tag.untyped → lo.tag = Tag.untyped →
        r.natAbs < 10 ^ (2 * n1 - 1) → P (.cvbd c l1 0 b1 b2) (sign r) (decBytes n1 (decide (r < 0)) r.natAbs))
    ∧ (∀ m : Nat, Reads s c x1 false true true dec txt o1 o2 n1 n2 y ls p q → asciiVal q 0 = some m →
        m < 10 ^ (2 * n1 - 1) → P (.packa c l1 l2 b1 b2) (if m = 0 then 0 else 2) (decBytes n1 false m))
    ∧ (Reads s c x1 false true true txt dec o1 o2 n1 n2 y ls p q → decVal q = some u → u.natAbs < 10 ^ n1 →
        P (.unpka c l1 l2 b1 b2) (sign u)
          ((List.range n1).reverse.map fun i => BitVec.ofNat 8 (0x30 + u.natAbs / 10 ^ i % 10))))

/-! ## Windows, the gate, interrupts and sparing -/

/-- Interrupts (R62, R67–R70, R74): an enabled pending event enters at the boundary with its number in the cause; a pending
NMI enters with C10 to C14 saved; Device Time at TIMECMP makes TIMER pending. Registers that the entry does not name, the
gate and the rest of the block stay.

NMI entry (R74): C10 to C14 take the PC, the PSW, the cause, CC with the loop depth and the address; NL, S and EL are
set and the processor stands at C8 + 0xFC0. An exception while EL is set is taken as DOUBLE_FAULT.

Clauses that rest on the model's own choices: log entry 14. -/
def Obligations.InterruptsTaken : Prop :=
  (
  ∀ (s : State) (c : Fin 96),
    let A := archOf s c
    let p := s.proc c
    (∀ e : Nat, s.runs c = true → p.fails = 0 → p.nmi = [] → p.ser = false → irqOf A = some e →
      Does (.eventInterrupt c) s fun t =>
        Retired s t c (enterExc A 0x20 (causeWord 0x20 false 0 0 false e 0) 0) [] ∧ (t.proc c).waiting = none)
    ∧ (∀ (sub det : Nat) (l : List (Nat × Nat)), s.runs c = true → p.fails = 0 → p.nmi = (sub, det) :: l →
        A.psw0.getLsbD 3 = false → p.ser = false →
      Does (.nmiEntry c) s fun t => Retired s t c (enterNmi A sub det 0) [] ∧ (t.proc c).nmi = l)
    ∧ (s.dieOn c = true → s.procOf c = c → p.running = true → (cr A 19).toNat ≤ s.nowStage.toNat →
        s.core.images.find (s.imgKey c) = none →
      Does (.timerCompare c) s fun t => archOf t c = setC A 16 (cr A 16 ||| 0x80)
        ∧ (∀ k, k ≠ c.val → t.proc k = s.proc k) ∧ t = { s with core := { s.core with procs := t.core.procs } })) ∧ (
  (∀ (a : Arch) (sub det : Nat) (addr : Word),
    let b := enterNmi a sub det addr
    cr b 10 = a.pc ∧ cr b 11 = a.psw0 ∧ cr b 12 = causeWord 0x3F false 0 0 false sub det ∧ cr b 14 = addr
    ∧ b.psw0.getLsbD 0 = true ∧ b.psw0.getLsbD 2 = true ∧ b.psw0.getLsbD 3 = true ∧ b.pc = cr a 8 + 0xFC0
    ∧ (∀ n, (n < 10 ∨ 14 < n) → cr b n = cr a n) ∧ b.g = a.g ∧ b.f = a.f ∧ b.cc = a.cc) ∧
  (∀ (s : State) (x : X) (c : Fin 96), Starts s c 1 0 x → (archOf s c).psw0.getLsbD 2 = true →
    (archOf s c).psw0.getLsbD 3 = false →
    Does (.brk c 0 0 0) s fun t => Retired s t c (enterNmi (archOf s c) 3 0 0) []))

/-- Windows (R30, R33, R34): equal signatures pass the oldest window, whose stores may then leave and at whose end the
checkpoint moves; unequal ones, or a detected error, restore the checkpoint, drop what has not passed, count a failed
execution and note it in PAIR_LAST; the fourth failure fences the processor.

The head of the gate (R31, R101, R151, R169, R188): a passed store is written into the line that the pair's L2 owns and
leaves the gate; TLBI and TLBIA remove the partition's translations; a CLEAN.L is sent to the line's home; an entry whose
window has not passed stays.

Clauses that rest on the model's own choices: log entry 13. -/
def Obligations.WindowsAndGate : Prop :=
  (
  ∀ (s : State) (c : Fin 96) (w : ClosedWin) (l : List ClosedWin) (trail : Word),
    let p := s.proc c
    let pr := c.val / 2
    let back (t : State) (cause core : Nat) : Prop :=
      archOf t c = p.ckpt ∧ (t.proc c).closed = [] ∧ (t.proc c).gate = p.gate.filter (·.passed)
      ∧ (t.proc c).fails = p.fails + 1 ∧ t.rf (aPair pr 0x20) 3 0 = cause ∧ t.rf (aPair pr 0x20) 4 4 = core
      ∧ t.rf (aPair pr 8) 4 3 = p.fails + 1 ∧ t.rf (aPair pr 8) 2 0 = 2 ∧ t.mem = s.mem ∧ t.coh = s.coh
      ∧ (∀ k, k ≠ c.val → t.proc k = s.proc k) ∧ raisedBy s t [(pr, 0)]
    (p.closed = w :: l → s.split = false → s.alive c = true → s.rf (aPair pr 0x30) 2 0 = 0 → NoForce s pr 0 →
      (w.misr = trail → p.fails = 0 → Does (.windowComparison c trail) s fun t =>
          t.proc c = { p with
            closed := l, ckpt := w.after, seq := p.seq + 1, fails := 0, kept := none
            gate := p.gate.map fun e => if e.win = w.seq then { e with passed := true } else e }
          ∧ (∀ k, k ≠ c.val → t.proc k = s.proc k) ∧ t = { s with core := { s.core with procs := t.core.procs } })
      ∧ (w.misr ≠ trail → p.fails < 3 → Does (.windowComparison c trail) s fun t => back t 1 0))
    ∧ (∀ trailing : Bool, s.alive c = true → p.running = true → p.parked = false → s.coreFenced c = false →
        pr ∉ s.core.resetting → s.split = false → p.fails < 3 →
        Does (.detectedError c trailing false false) s fun t =>
          (back t 2 (b2n trailing) ∨ back t 3 (b2n trailing)))
    ∧ (p.closed = w :: l → s.split = false → s.alive c = true → s.rf (aPair pr 0x30) 2 0 = 0 → NoForce s pr 0 →
        NoForce s pr 3 → w.misr ≠ trail → p.fails = 3 →
        Does (.windowComparison c trail) s fun t => (t.proc c).running = false ∧ (t.proc c).closed = []
          ∧ (t.rf (aPair pr 8) 2 0 = 3 ∨ t.rf (aPair pr 8) 2 0 = 4)
          ∧ ∃ m, t.core.images.find pr = some m ∧ m.a = p.ckpt ∧ m.seq = p.seq)) ∧ (
  ∀ (s : State) (c : Fin 96) (e : GateEnt) (g : List GateEnt),
    let p := c.val / 2
    let line := e.pa / 128
    let a := e.pa / 8 * 8
    (s.proc c).gate = e :: g → s.alive c = true → (s.proc c).fails ≠ 4 →
    (e.passed = false → Does (.gateStoreRelease c) s fun t => t = s)
    ∧ (e.passed = true → (s.l2 p).wfull = [] →
      (∀ ln : L2Line, e.kind = .store → s.streamOn p = false → (s.l2 p).lines.find line = some ln → (ln.st = .m ∨ ln.st = .e) →
        (∀ t ∈ s.coh.l2, t.1 ≠ p → ownerIn [t] line = none) → s.tracked e.pa = [] → Does (.gateStoreRelease c) s fun t =>
          (t.proc c).gate = g
          ∧ (t.l2 p).lines.find line =
              some { ln with st := .m, data := ln.data.set (e.pa % 128 / 8) (applyEnt a (ln.data.getD (e.pa % 128 / 8) {}) e) }
          ∧ (∀ k, k ≠ line → (t.l2 p).lines.find k = (s.l2 p).lines.find k) ∧ t.mem = s.mem ∧ t.regs = s.regs)
      ∧ (e.kind = .tlbi → Does (.gateStoreRelease c) s fun t => (t.proc c).gate = g ∧ t.mem = s.mem ∧ t.coh = s.coh
          ∧ ∀ k x, x ∈ t.core.tlb.get [] k → x.part = s.partOf c → e.pa / 2 ^ x.log2 ≠ x.vpage)
      ∧ (e.kind = .tlbia → Does (.gateStoreRelease c) s fun t => (t.proc c).gate = g ∧ t.mem = s.mem ∧ t.coh = s.coh
          ∧ ∀ k x, x ∈ t.core.tlb.get [] k → x.part ≠ s.partOf c)
      ∧ (e.kind = .clean → s.maintSent p line .clean = false → Does (.gateStoreRelease c) s fun t =>
          t.proc c = s.proc c ∧ t.coh.msgs = s.coh.msgs ++ [.request p line .clean []])))

/-- External operations (R32): once issued, a page read's word is in flight; when the result arrives it is kept for the
execution of the instruction, and of its re-execution.

Clauses that rest on the model's own choices: log entry 6. -/
def Obligations.ExternalOperations : Prop :=
  ∀ (s : State) (x : X) (c : Fin 96) (a w : Word) (op : ExtOp),
    (StartsExt s c x → Does (.externalOpIssue c (.iold a)) s fun t =>
      (t.proc c).inflight = some (.iold a, ⟨(s.pageRead (s.partOf c) a.toNat (super (archOf s c))).1, Tag.untyped⟩))
    ∧ ((s.proc c).inflight = some (op, ⟨w, Tag.untyped⟩) → s.farOpen c = false → s.coh.msgs = [] →
      Does (.externalOpResult c) s fun t =>
        t.proc c = { s.proc c with inflight := none, kept := some (op, ⟨w, Tag.untyped⟩) }
        ∧ (∀ k, k ≠ c.val → t.proc k = s.proc k) ∧ t = { s with core := { s.core with procs := t.core.procs } })

/-- Roles, tests and images of pairs (R34, R36, R37): a permitted PAIR_ROLE write takes effect and moves the pair to IDLE,
LOADING or FENCED; a refused one changes nothing but the change stream; PAIR_TEST takes 0 to 4; PAIR_CKPT is written in
LOADING only; a spare that fails its self-test is fenced.

Clauses that rest on the model's own choices: log entries 6, 9 and 13. -/
def Obligations.PairRegisters : Prop :=
  ∀ (s : State) (w : Writer) (p : Fin 48) (v : Word), Accepts s w (aPair p 0) →
    let a := aPair p 0
    let old := s.rd a
    let new := s.merged a v 0xFF
    let r0 := fld old 1 0
    let st := s.rf (aPair p 8) 2 0
    (roleOk r0 (fld new 1 0) (fld new 13 8) = false → Does (.pairRoleWrite w p v 0xFF) s fun t => Wrote s t [])
    ∧ (fld new 1 0 = 3 → r0 ≠ 3 → st ≠ 3 → st ≠ 4 → Does (.pairRoleWrite w p v 0xFF) s fun t =>
        t.rd a = new ∧ t.rf (aPair p 8) 2 0 = 4 ∧ (t.proc (2 * p)).running = false ∧ (t.proc (2 * p + 1)).running = false
        ∧ t.mem = s.mem ∧ t.coh = s.coh)
    ∧ (fld new 1 0 = 2 → r0 = 2 → fld new 13 8 ≠ 0 → st = 5 → Does (.pairRoleWrite w p v 0xFF) s fun t =>
        t.rd a = new ∧ t.rf (aPair p 8) 2 0 = 6 ∧ t.core.images.find p = some {} ∧ t.mem = s.mem)
    ∧ (fld new 1 0 = 0 → r0 = 2 → Does (.pairRoleWrite w p v 0xFF) s fun t =>
        t.rd a = new ∧ t.rf (aPair p 8) 2 0 = 5 ∧ t.mem = s.mem)
    ∧ (Accepts s w (aPair p 0x30) → v.toNat < 5 → Does (.pairTestWrite w p v 0xFF) s fun t =>
        Wrote s t [aPair p 0x30] ∧ t.rf (aPair p 0x30) 2 0 = v.toNat)
    ∧ (Accepts s w (aPair p 0x30) → 5 ≤ v.toNat % 8 → Does (.pairTestWrite w p v 0xFF) s fun t => Wrote s t [])
    ∧ (∀ off : BitVec 12, ckptOff off.toNat = true → Accepts s w (aPair p off.toNat) →
        (st ≠ 6 → Does (.pairCkptWrite w p off v 0xFF) s fun t => Wrote s t [])
        ∧ (st = 6 → Does (.pairCkptWrite w p off v 0xFF) s fun t =>
            t.core.images.get {} p = ckptSet (s.core.images.get {} p) off.toNat v ∧ t.mem = s.mem ∧ t.coh = s.coh))
    ∧ (r0 = 2 → st = 5 → s.dieOn (2 * p) = true → fld (s.merged a 3 1) 1 0 = 3 → Does (.spareSelfTest p false) s fun t =>
        t.rf a 1 0 = 3 ∧ t.rf (aPair p 8) 2 0 = 4 ∧ t.mem = s.mem)

/-- Sparing (R37–R39, R42): in split mode the free odd core of a spare pair takes over a fenced core's image and its pending
events; with no spare left the image is kept for the partition under the processor's logical number; a fenced pair's L2
that has written everything back is powered down.

FENCED_L2_EMPTY (R38): the L2 of a fenced pair that holds no dirty line is powered down and holds nothing.

Clauses that rest on the model's own choices: log entry 24. -/
def Obligations.SparingAndFencing : Prop :=
  (
  ∀ (s : State) (c k : Fin 96) (m : ProcImg),
    let q := s.partOf c
    let key := s.imgKey c
    s.core.waiting.head? = some c.val → s.pwr.powered = true → s.hibernating = false → s.coh.lost = false →
    s.core.images.find key = some m →
    (s.split = true → NoForce s (c / 2) 2 → k.val ∈ s.spareCores c → k.val % 2 = 1 →
      s.partState (s.partOf k) = 2 → s.core.images.find (64 + k.val) = none → Does (.stewardSparing c k) s fun t =>
        (t.proc k).running = true ∧ (t.proc k).a.pc = m.a.pc ∧ (t.proc k).a.g = m.a.g ∧ (t.proc k).seq = m.seq
        ∧ c.val ∉ t.core.waiting ∧ t.core.images.find key = none ∧ raisedBy s t [(c.val / 2, 1)])
    ∧ (s.spareCores c = [] → s.rf (aPair (c / 2) 8) 2 0 ≠ 4 → NoForce s (c / 2) 2 → Does (.stewardSparing c k) s fun t =>
        t.parts.lost.find (lostKey q (s.logical (c / 2))) = some { m with a := Arch.withEvents m.a m.latched }
        ∧ c.val ∉ t.core.waiting ∧ t.core.images.find key = none)) ∧ (
  ∀ (s : State) (p : Fin 48), p.val ∈ s.core.draining → (s.l2 p).miss = [] → (s.l2 p).wb = [] → (s.l2 p).wfull = [] →
    (∀ t ∈ (s.l2 p).lines, (t.2.st = .s ∨ t.2.st = .e) ∧ s.coh.txn.find t.1 = none) →
    Does (.fencedL2Empty p) s fun t => p.val ∈ t.core.l2off ∧ p.val ∉ t.core.draining ∧ t.l2 p = {}
      ∧ (∀ k, k ≠ p.val → t.l2 k = s.l2 k) ∧ t.mem = s.mem ∧ t.regs = s.regs)

/-! ## Coherence -/

/-- Read requests at a home (R156, R158, R159): a line that no L2 holds is granted from L3, exclusively for a read and in M
for a read to own, whose L3 copy goes; a line that is nowhere is fetched from memory; the owner or the sharers are snooped
first.

Writing requests at a home (R154, R156, R157, R159, R169): a write-back goes into L3 and is acknowledged; a clean eviction
drops the owner's directory entry; a WriteFull blocks the line and is answered READY, and its RELEASE writes memory and
unblocks the line; CLEAN and FLUSH write dirty data to memory; a far atomic is performed on the home's copy.

Clauses that rest on the model's own choices: log entry 18. -/
def Obligations.Homes : Prop :=
  (
  ∀ (s : State) (p q : Fin 48) (line : BitVec 39) (l : L3Line),
    let n := line.toNat
    (Asked s p n .readShared [] →
      (s.coh.dir.find n = none → s.l3Find n = some l → Does (.homeReadshared p line) s fun t =>
        t.coh.msgs = [.grant p n .e (some l.data)] ∧ t.coh.dir.find n = some { st := .em, owner := p }
        ∧ t.coh.txn.find n = none ∧ t.coh.l3 = s.coh.l3 ∧ t.mem = s.mem ∧ t.regs = s.regs)
      ∧ (s.coh.dir.find n = none → s.l3Find n = none → s.coh.evb = [] → Does (.homeReadshared p line) s fun t =>
        t.coh.msgs = [] ∧ t.coh.txn.find n = some { pair := p, req := .readShared, fetch := true } ∧ t.mem = s.mem)
      ∧ (∀ e : DirEnt, s.coh.dir.find n = some e → e.st = .em → e.owner = q → q ≠ p → Does (.homeReadshared p line) s fun t =>
        t.coh.msgs = [.snpShared q n] ∧ t.coh.txn.find n = some { pair := p, req := .readShared, missing := [q.val] }
        ∧ t.coh.dir = s.coh.dir ∧ t.mem = s.mem))
    ∧ (Asked s p n .readOwn [] →
      (s.coh.dir.find n = none → s.l3Find n = some l → Does (.homeReadown p line) s fun t =>
        t.coh.msgs = [.grant p n .m (some l.data)] ∧ t.coh.dir.find n = some { st := .em, owner := p }
        ∧ t.l3Find n = none ∧ t.mem = s.mem)
      ∧ (∀ e : DirEnt, s.coh.dir.find n = some e → e.st = .s → e.sharers = [q.val] → q ≠ p →
        Does (.homeReadown p line) s fun t => t.coh.msgs = [.snpInv q n]
          ∧ t.coh.txn.find n = some { pair := p, req := .readOwn, missing := [q.val] } ∧ t.mem = s.mem))
    ∧ (∀ (e : DirEnt) (others : List Nat), Asked s p n .upgrade [] → s.coh.dir.find n = some e → e.st = .s →
        e.sharers = p.val :: others → p.val ∉ others →
        (others = [] → Does (.homeUpgrade p line) s fun t => t.coh.msgs = [.grant p n .m none]
          ∧ t.coh.dir.find n = some { st := .em, owner := p, lastAtomic := e.lastAtomic } ∧ t.mem = s.mem)
        ∧ (others ≠ [] → Does (.homeUpgrade p line) s fun t => t.coh.msgs = others.map (fun k => .snpInv k n)
          ∧ t.coh.txn.find n = some { pair := p, req := .upgrade, missing := others } ∧ t.mem = s.mem))) ∧ (
  ∀ (s : State) (p : Fin 48) (line : BitVec 39) (d : List TWord) (l : L3Line),
    let n := line.toNat
    let owned := s.coh.dir.find n = some { st := .em, owner := p }
    (s.homeUp n = true → s.coh.msgs = [.request p n .writeBack d] → d ≠ [] → s.coh.txn.find n = none → owned → isCas n = false →
      s.coh.l3 = [] → s.rd (aCoh (homeOf n) 0) = 0xFFFF → Does (.homeWriteback p line) s fun t =>
        t.coh.msgs = [.wback p n] ∧ t.coh.dir.find n = none ∧ t.coh.l3 = [(n, { data := d, dirty := true, way := 0 })]
        ∧ t.mem = s.mem)
    ∧ (Asked s p n .evictClean [] → owned → Does (.homeEvictclean p line) s fun t =>
        t.coh.msgs = [] ∧ t.coh.dir.find n = none ∧ t.coh.l3 = s.coh.l3 ∧ t.mem = s.mem)
    ∧ (Asked s p n .writeFull d → s.coh.dir.find n = none → Does (.homeWritefull p line) s fun t =>
        t.coh.msgs = [.ready p n] ∧ t.coh.blocked = s.coh.blocked ++ [n] ∧ t.mem = s.mem)
    ∧ (s.homeUp n = true → s.coh.msgs = [.request p n .release d] → s.coh.blocked.contains n = true → d.length = 16 →
      s.tracked (n * 128) = [] → Does (.homeRelease p line) s fun t =>
        t.coh.msgs = [] ∧ n ∉ t.coh.blocked ∧ Holds t n d ∧ t.l3Find n = none
        ∧ ∀ k, k / 16 ≠ n → t.mem.words.get {} k = s.mem.words.get {} k)
    ∧ (s.coh.dir.find n = none → s.l3Find n = some l → l.dirty = true → l.data.length = 16 →
      (Asked s p n .clean [] → Does (.homeClean p line) s fun t =>
        Holds t n l.data ∧ t.coh.l3.find n = some { data := l.data, dirty := false, way := l.way }
        ∧ t.coh.msgs = [] ∧ ∀ k, k / 16 ≠ n → t.mem.words.get {} k = s.mem.words.get {} k)
      ∧ (Asked s p n .flush [] → Does (.homeFlush p line) s fun t =>
        Holds t n l.data ∧ t.l3Find n = none ∧ t.coh.msgs = []
        ∧ ∀ k, k / 16 ≠ n → t.mem.words.get {} k = s.mem.words.get {} k))
    ∧ (∀ (core : Nat) (b c : TWord) (pa : Nat), pa / 128 = n → Asked s p n (.farAtomic core false 0 pa b c) [] →
      s.coh.dir.find n = none → s.l3Find n = some l → s.tracked pa = [] →
      (l.data.getD (pa % 128 / 8) {}).tag = Tag.untyped → Does (.homeFarAtomic p line) s fun t =>
        let old := l.data.getD (pa % 128 / 8) {}
        t.coh.msgs = [.atomicDone core n old]
        ∧ t.coh.l3.find n = some { data := l.data.set (pa % 128 / 8) ⟨old.val + b.val, Tag.untyped⟩, dirty := true, way := l.way }
        ∧ t.mem = s.mem))

/-- Snoops at an L2 and their answers (R158, R159, R170): the state that the line takes and the answer with the line's data,
for each state that it can be in; the home grants the reader a shared copy from the owner's answer.

The coherent domain is lost (R171–R173) after an answer that does not come, or an uncorrectable entry or protocol error:
the event is raised, every slice shows DOWN, and a module reset with cause 5 begins.

Clauses that rest on the model's own choices: log entry 18. -/
def Obligations.SnoopsAndLoss : Prop :=
  (
  ∀ (s : State) (p q : Fin 48) (line : BitVec 39) (ln : L2Line),
    let n := line.toNat
    let D (i : Instr) (st' : Moesi) (had : Moesi) (d : Option (List TWord)) : Prop := Does i s fun t =>
      t.coh.msgs = [.answer p n had d] ∧ (t.l2 p).lines.find n = some { ln with st := st' }
      ∧ (∀ k, k ≠ n → (t.l2 p).lines.find k = (s.l2 p).lines.find k) ∧ t.mem = s.mem ∧ t.coh.dir = s.coh.dir
    let G (i : Instr) (had : Moesi) (d : Option (List TWord)) : Prop := Does i s fun t =>
      t.coh.msgs = [.answer p n had d] ∧ t.l2State p n = .i
      ∧ (∀ k, k ≠ n → (t.l2 p).lines.find k = (s.l2 p).lines.find k) ∧ t.mem = s.mem ∧ t.coh.dir = s.coh.dir
    (s.dieUp (p / 24) = true → (s.l2 p).lines.find n = some ln →
      (s.coh.msgs = [.snpShared p n] →
        (ln.st = .m → D (.l2Snpshared p line) .o .m (some ln.data)) ∧ (ln.st = .o → D (.l2Snpshared p line) .o .o (some ln.data))
        ∧ (ln.st = .e → D (.l2Snpshared p line) .s .e (some ln.data)) ∧ (ln.st = .s → D (.l2Snpshared p line) .s .s none))
      ∧ (s.coh.msgs = [.snpClean p n] →
        (ln.st = .m → D (.l2Snpclean p line) .e .m (some ln.data)) ∧ (ln.st = .o → D (.l2Snpclean p line) .s .o (some ln.data))
        ∧ (ln.st = .e → D (.l2Snpclean p line) .e .e none) ∧ (ln.st = .s → D (.l2Snpclean p line) .s .s none))
      ∧ (s.coh.msgs = [.snpInv p n] →
        (ln.st = .m → G (.l2Snpinv p line) .m (some ln.data)) ∧ (ln.st = .o → G (.l2Snpinv p line) .o (some ln.data))
        ∧ (ln.st = .e → G (.l2Snpinv p line) .e none) ∧ (ln.st = .s → G (.l2Snpinv p line) .s none)))
    ∧ (∀ (d : List TWord) (e : DirEnt), s.homeUp n = true → s.coh.msgs = [.answer q n .m (some d)] →
        s.coh.txn.find n = some { pair := p, req := .readShared, missing := [q.val] } → s.coh.dir.find n = some e →
        e.st = .em → e.owner = q → e.sharers = [] → Does (.homeSnoopAnswer q line) s fun t =>
          t.coh.msgs = [.grant p n .s (some d)] ∧ t.coh.dir.find n = some { e with st := .o, sharers := [p.val] }
          ∧ t.coh.txn.find n = none ∧ t.mem = s.mem)) ∧ (
  ∀ (s : State) (n : Fin 24) (agent : BitVec 8) (line : BitVec 39), s.coh.lost = false → s.pwr.powered = true →
    s.hibernating = false → s.flt.reset = none → s.agentHere agent.toNat = true →
    let L (i : Instr) (src ev : Nat) : Prop := Does i s fun t =>
      t.coh.lost = true ∧ t.flt.reset = some (5, src) ∧ (∀ k : Nat, k < 24 → t.rb (aCoh k 8) 13 = true)
      ∧ ⟨src, ev, s.time, false⟩ ∈ t.flt.queue ∧ t.mem = s.mem ∧ t.core = s.core
    L (.coherenceLoss n 1 agent line) (48 + n) 2 ∧ L (.coherenceLoss n 3 agent line) 77 0
    ∧ (48 ≤ agent.toNat → L (.coherenceLoss n 2 agent line) (48 + n) 2)
    ∧ (agent.toNat < 48 → L (.coherenceLoss n 2 agent line) agent.toNat 6)
    ∧ (s.cohWaits agent.toNat line.toNat = true → homeOf line.toNat < 24 → L (.coherenceTimeout agent line) 78 0))

/-- Messages to an L2 (R152, R154, R158, R160): a grant installs the line and frees the miss entry; READY lets the WriteFull's
RELEASE go; WbAck frees the write-back buffer; a NACKed request backs off, at the 64th NACK as STARVING, and is sent
again when the backoff ends.

Clauses that rest on the model's own choices: log entry 18. -/
def Obligations.L2Messages : Prop :=
  ∀ (s : State) (p : Fin 48) (line : BitVec 39), s.dieUp (p / 24) = true →
    let n := line.toNat
    (∀ (st : Moesi) (d : List TWord) (way : Fin 16), s.coh.msgs = [.grant p n st (some d)] →
      (s.l2 p).lines.find n = none → s.l2WayOk p n way ((s.l2 p).miss.get {} n).half = true → s.l2Occupant p n way = none →
      NoForce s p 4 → NoForce s p 5 → Does (.l2Grant p line way) s fun t =>
        t.coh.msgs = [] ∧ (t.l2 p).lines.find n = some { st := st, data := d, way := way } ∧ (t.l2 p).miss.find n = none
        ∧ (∀ k, k ≠ n → (t.l2 p).lines.find k = (s.l2 p).lines.find k) ∧ t.mem = s.mem ∧ t.regs = s.regs)
    ∧ (∀ d : List TWord, s.coh.msgs = [.ready p n] → (s.l2 p).wfull = [(n, d, false)] →
      (s.proc (2 * p)).fails ≠ 4 → (s.proc (2 * p + 1)).fails ≠ 4 → Does (.l2Ready p line) s fun t =>
        t.coh.msgs = [.request p n .release d] ∧ (t.l2 p).wfull = [] ∧ (t.l2 p).miss.find n = none ∧ t.mem = s.mem)
    ∧ (∀ e : WbEnt, s.coh.msgs = [.wback p n] → (s.l2 p).wb = [e] → e.line = n → Does (.l2Wback p line) s fun t =>
        t.coh.msgs = [] ∧ (t.l2 p).wb = [] ∧ (t.l2 p).lines = (s.l2 p).lines ∧ t.mem = s.mem)
    ∧ (∀ m : Miss, (s.l2 p).miss.find n = some m →
      (s.coh.msgs = [.nack p n] → m.nacks ≠ 63 → Does (.l2Nack p line) s fun t =>
        (t.l2 p).miss.find n = some { m with nacks := m.nacks + 1, backoff := true } ∧ t.coh.msgs = [] ∧ t.regs = s.regs)
      ∧ (s.coh.msgs = [.nack p n] → m.nacks = 63 → Does (.l2Nack p line) s fun t =>
        (t.l2 p).miss.find n = some { m with nacks := 64, backoff := true, starving := true } ∧ raisedBy s t [(79, 0)])
      ∧ (m.backoff = true → (s.l2 p).wfull = [] → Does (.l2NackRetry p line) s fun t =>
        (t.l2 p).miss.find n = some { m with backoff := false } ∧ t.coh.msgs = s.coh.msgs ++ [.request p n m.req []]
        ∧ t.mem = s.mem))

/-- Cache-as-Store and the predictor (R162, R165–R167): a permitted COH_WAYCTL write that converts ways shows the conversion
under way; at its end the new extents hold zero UNTYPED words; a release ends with the ways' lines gone; PRED_CLEAR empties
the pair's predictor.

Clauses that rest on the model's own choices: log entries 6 and 18. -/
def Obligations.CacheAsStore : Prop :=
  ∀ (s : State) (w : Writer) (n : Fin 24) (p : Fin 48) (v : Word),
    let a := aCoh n 0
    let new := s.merged a v 0xFF
    let c0 := fld (s.rd a) 35 32
    let c1 := fld new 35 32
    (Accepts s w a → s.fuse.small = false → wayctlOk new = true → fld (s.rd a) 37 36 = 0 → c0 < c1 →
      Does (.casWaysWrite w n v 0xFF) s fun t => t.rd a = setFld new 37 36 1 ∧ t.coh.converting.find n = some c0
        ∧ t.mem = s.mem)
    ∧ (Accepts s w a → s.fuse.small = false → wayctlOk new = false → Does (.casWaysWrite w n v 0xFF) s fun t => Wrote s t [])
    ∧ (s.rf a 37 36 = 1 → s.dieUp (n / 12) = true → s.coh.l3 = [] → Does (.casConvertDone n) s fun t =>
        t.rf a 37 36 = 0
        ∧ (∀ e ∈ casExtents n c0 (s.coh.converting.get 0 n), ∀ k, extentLines e (k / 16) = true → t.mem.words.get {} k = {})
        ∧ ∀ k, (∀ e ∈ casExtents n c0 (s.coh.converting.get 0 n), extentLines e (k / 16) = false) →
            t.mem.words.get {} k = s.mem.words.get {} k)
    ∧ (s.rf a 37 36 = 2 → s.dieUp (n / 12) = true →
        (∀ e ∈ casExtents n (s.coh.converting.get 0 n) c0, s.accessing (extentPa true e) = false) →
        Does (.casReleaseDone n) s fun t => t.rf a 37 36 = 0
        ∧ ∀ e ∈ casExtents n (s.coh.converting.get 0 n) c0, ∀ k, extentLines e k = true →
            t.mem.words.get {} (16 * k) = {} ∧ t.coh.dir.find k = none ∧ ∀ q, (t.l2 q).lines.find k = none)
    ∧ (Accepts s w (aPair p 0x680) → v.getLsbD 1 = true → Does (.predClear w p v 0xFF) s fun t =>
        (t.l2 p).pred = [] ∧ (t.l2 p).lines = (s.l2 p).lines ∧ t.mem = s.mem)

/-! ## Memory -/

/-- The controllers (R157, R178–R181, R183, R192): a home's read delivers memory's words and installs them in L3; an
uncorrectable sector is delivered and rewritten as POISON and counted; an accepted eviction is in memory and leaves the
buffer; a tag sector that arrives is held; a corrected patrol read is counted; the scrubber of the control SRAM reports.

The control store (R137–R145): GO starts a load in state NONE while LOCK is clear; a good image is loaded with its match
entries, a bad one leaves REJECTED with its reason and an event; LOCK stays set; DISABLE turns every match entry off; PEEK
shows the words selected; a scrub reports what it finds.

Clauses that rest on the model's own choices: log entries 6, 9, 19 and 21. -/
def Obligations.MemoryAndControlStore : Prop :=
  (
  ∀ (s : State) (p : Fin 48) (line : BitVec 39),
    let n := line.toNat
    let m := mcOf n
    let calm : Prop := s.rf (aMc m 0x10) 1 0 = 0 ∧ NoForce s (80 + m) 0 ∧ NoForce s (80 + m) 1 ∧ NoForce s (80 + m) 2
      ∧ NoForce s (80 + m) 3
    let plain : Prop := ∀ w ∈ s.memLine n, w.tag = Tag.untyped
    (s.homeUp n = true → calm → plain → isCas n = false → s.coh.msgs = [] → s.coh.dir.find n = none → s.coh.l3 = [] →
      s.rd (aCoh (homeOf n) 0) = 0xFFFF → s.coh.txn.find n = some { pair := p, req := .readShared, fetch := true } →
      (Does (.mcRead line {} 0) s fun t => t.coh.msgs = [.grant p n .e (some (s.memLine n))]
        ∧ t.coh.l3.find n = some { data := s.memLine n, way := 0 } ∧ t.coh.txn.find n = none ∧ t.mem = s.mem
        ∧ t.regs = s.regs)
      ∧ (Does (.mcRead line { d0 := .uncorrectable } 0) s fun t =>
        t.coh.msgs = [.grant p n .e (some (poisonSector (s.memLine n) 0))] ∧ Holds t n (poisonSector (s.memLine n) 0)
        ∧ (∀ k, k / 16 ≠ n → t.mem.words.get {} k = s.mem.words.get {} k)
        ∧ raisedBy s t [(80 + m, 1)] ∧ t.rf (aMc m 0) 3 0 = 1))
    ∧ (∀ ws : List TWord, s.homeUp n = true → s.coh.evb = [(n, ws)] → ws.length = 16 → (∀ w ∈ ws, w.tag = Tag.untyped) →
      s.coh.txn = [] →
      let E (i : Instr) : Prop := Does i s fun t => t.coh.evb = [] ∧ Holds t n ws
        ∧ (∀ k, k / 16 ≠ n → t.mem.words.get {} k = s.mem.words.get {} k) ∧ t.regs = s.regs
      E (.mcWrite line ws 0) ∧ ∀ sl : Fin 24, homeOf n = sl → E (.evictionWriteAccepted sl line))
    ∧ (∀ (c : Fin 16) (t0 : BitVec 34), s.rf (aMc c 0x10) 1 0 = 0 → NoForce s (80 + c) 2 → NoForce s (80 + c) 3 →
      s.tagHeld c t0.toNat = false → s.dieUp (c / 8) = true → ((tagLines c t0.toNat).all fun l => s.paValid (l * 128)) = true →
      Does (.tagBufferFill c t0 .good) s fun t => t.tagHeld c t0.toNat = true ∧ t.mem.words = s.mem.words ∧ t.regs = s.regs)
    ∧ (∀ (c : Fin 16) (k : BitVec 34), k.toNat < 2 ^ 33 → s.dieUp (c / 8) = true → s.rf (aMc c 0x10) 1 0 = 0 →
      NoForce s (80 + c) 0 → NoForce s (80 + c) 1 →
      let l := lineAt c (k.toNat / 4 % 4) (k.toNat / 16)
      s.paValid (l * 128) = true → isPoisoned (s.memLine l) (k.toNat % 4) = false →
      Does (.patrolScrub c k .corrected) s (fun t => raisedBy s t [(80 + c.val, 0)] ∧ t.mem = s.mem
        ∧ t.rf (aMc c 8) 31 0 = min (s.rf (aMc c 8) 31 0 + 1) (2 ^ 32 - 1))
      ∧ Does (.patrolScrub c k .good) s fun t => t = s)
    ∧ (s.pwr.powered = true → ∀ r : Fin 5,
      Does (.hcsScrub r true false) s (fun t => t.mem = s.mem ∧ t.regs = s.regs ∧
        raisedBy s t ([(104 + r.val, 0), (109, 1)] ++ if r.val = 4 then [(109, 0)] else []))
      ∧ Does (.hcsScrub r false true) s (fun t => t.mem = s.mem ∧ t.regs = s.regs ∧
        raisedBy s t ([(104 + r.val, 1)] ++ if r.val = 4 then [(109, 0)] else [])))) ∧ (
  ∀ (s : State) (w : Writer) (v : Word),
    let st := s.rf (aUcs 8) 2 0
    let W (i : Instr) (P : State → Prop) : Prop := Does i s fun t => t.mem = s.mem ∧ t.coh = s.coh ∧ t.core = s.core ∧ P t
    (Accepts s w (aUcs 0x10) →
      (v.getLsbD 32 = true → v.getLsbD 33 = false → v.getLsbD 34 = false → s.rb (aUcs 0x10) 33 = false → st = 0 →
        W (.patchLoadGo w v 0xFF) fun t => t.rf (aUcs 8) 2 0 = 1)
      ∧ (v.getLsbD 33 = true → v.getLsbD 34 = false → W (.ucsLock w v 0xFF) fun t => t.rb (aUcs 0x10) 33 = true)
      ∧ (v.getLsbD 34 = true → W (.ucsDisable w v 0xFF) fun t =>
        t.rf (aUcs 8) 2 0 = 4 ∧ ∀ i : Nat, i < 64 → t.rb (aUcs (0x100 + 8 * i)) 31 = false))
    ∧ (st = 1 → s.pwr.powered = true → s.hibernating = false →
      (∀ img : PatchImg, s.patchReason (some img) = 0 → Does (.patchLoadDone (some img)) s fun t =>
        t.rf (aUcs 8) 2 0 = 2 ∧ t.rf (aUcs 8) 63 32 = img.rev.toNat
        ∧ (∀ i : Nat, i < 1024 → t.core.ucode.words.get 0 i = img.words.getD i 0)
        ∧ (∀ i : Nat, i < 64 → t.rd (aUcs (0x100 + 8 * i)) = img.matches_.getD i 0 &&& 0x83FF7FFF) ∧ t.mem = s.mem)
      ∧ (∀ img : Option PatchImg, s.patchReason img ≠ 0 → W (.patchLoadDone img) fun t =>
        t.rf (aUcs 8) 2 0 = 3 ∧ t.rf (aUcs 8) 15 8 = s.patchReason img ∧ raisedBy s t [(235, 0)]))
    ∧ (Accepts s w (aUcs 0x18) → ∀ (core : Fin 96) (i : Fin 1024), s.pairPresent (core / 2) = true →
      v = BitVec.ofNat 64 (1 + core.val * 2 ^ 8 + i.val * 2 ^ 16) →
      let x := s.core.ucode.words.get 0 i
      W (.ucsPeek w v 0xFF) fun t => t.rd (aUcs 0x20) = x.setWidth 64 ∧ t.rd (aUcs 0x28) = (x >>> 64).setWidth 64
        ∧ t.rd (aUcs 0x30) = (x >>> 128).setWidth 64)
    ∧ (∀ (core : Fin 96) (i : Fin 1024), s.rf (aUcs 8) 26 16 ≠ 0 → s.pairPresent (core / 2) = true → s.dieOn core = true →
      W (.patchRamScrub core i true false) (fun t => raisedBy s t [(232, 0)])
      ∧ W (.patchRamScrub core i false true) fun t => raisedBy s t [(233, 0)]))

/-! ## Partitions -/

/-- The commands of PART_CTL and what completes them (R225, R226, R234, R248, R249, R469): the state that each leads to
and what it sets up or releases; in a state that does not allow it, a command sets CMD_ERR and does nothing else.
The command values are 1 to 8 (10_partitions.md).

Clauses that rest on the model's own choices: log entries 6, 9 and 25. -/
def Obligations.PartitionCommands : Prop :=
  ∀ (s : State) (w : Writer) (q : Fin 64), q ≠ 0 →
    let a := aPart q 8
    let st := s.partState q
    let others (t : State) : Prop := t.mem = s.mem ∧ t.coh = s.coh
      ∧ ∀ b, b ≠ a → b ≠ aJrn 0x10 → b ≠ aDpx 0x30 → t.rd b = s.rd b
    let refused (i : Instr) : Prop := Does i s fun t => Wrote s t [a] ∧ t.rb a 11 = true ∧ t.partState q = st
    let ends (i : Instr) : Prop := Does i s fun t => t.partState q = 7 ∧ q.val ∉ t.parts.migKey
      ∧ t.mem.words = s.mem.words ∧ (t.mb (.part q)).state = .idle ∧ (t.mb (.part q)).msg = []
      ∧ ∀ p ∈ s.pairsOf q, (t.proc (2 * p)).running = false ∧ (t.proc (2 * p + 1)).running = false
    (Accepts s w (aPart q 0) →
      (s.createOk q = true → Does (.partCreate w q) s fun t => others t ∧ t.partState q = 1 ∧ t.rf a 7 4 = 0
        ∧ t.inbox q = {} ∧ (∀ n, n < 512 → t.host.wins.find (q * 512 + n) = none) ∧ t.core = s.core)
      ∧ (s.createOk q = false → refused (.partCreate w q))
      ∧ (st = 1 → s.split = false → Does (.partStart w q) s fun t => t.partState q = 2 ∧ t.mem = s.mem ∧ t.coh = s.coh
        ∧ ∀ p ∈ s.pairsOf q, p ∉ s.core.resetting → t.rf (aPair p 8) 2 0 = 0
          ∧ t.proc (2 * p) = { running := true, a := s.startArch p, ckpt := s.startArch p, seq := (s.proc (2 * p)).seq })
      ∧ (st ≠ 1 → refused (.partStart w q))
      ∧ (st = 2 → Does (.partFreeze w q) s fun t => t.partState q = 3 ∧ t.rf a 7 4 = 1 ∧ t.mem = s.mem ∧ t.coh = s.coh
        ∧ ∀ c ∈ s.procsOf q, s.fencedProc c = false → (t.proc c).frozen = true ∧ archOf t c = archOf s c
          ∧ t.rf (aPair (c / 2) 8) 2 0 = 5)
      ∧ (st ≠ 2 → refused (.partFreeze w q))
      ∧ (st = 4 → s.parts.resume.find q = none → Does (.partThaw w q) s fun t => t.partState q = 2 ∧ t.mem = s.mem
        ∧ t.coh = s.coh ∧ ∀ c ∈ s.procsOf q, s.fencedProc c = false → c / 2 ∉ s.core.resetting →
          (s.proc c).running = true → (t.proc c).frozen = false ∧ archOf t c = archOf s c)
      ∧ (st ≠ 4 → refused (.partThaw w q) ∧ refused (.partExport w q))
      ∧ (st = 4 → Does (.partExport w q) s fun t => t.partState q = 5 ∧ q.val ∈ t.parts.migKey ∧ t.mem = s.mem)
      ∧ (st = 0 → Does (.partImport w q) s fun t => others t ∧ t.partState q = 6 ∧ q.val ∈ t.parts.migKey ∧ t.core = s.core)
      ∧ (st ≠ 0 → refused (.partImport w q))
      ∧ (st = 1 ∨ st = 4 → ends (.partDestroy w q))
      ∧ (st ≠ 1 ∧ st ≠ 4 → refused (.partDestroy w q))
      ∧ (st = 6 → ends (.partAbort w q))
      ∧ (st ≠ 6 → refused (.partAbort w q)))
    ∧ (st = 3 → s.allStopped q = true → s.drained q = true → Does (.partFreezeDone q) s fun t =>
        RegsOnly s t [a] ∧ t.partState q = 4)
    ∧ (st = 5 → ends (.partExportConfirmed q true))
    ∧ (st = 5 → Does (.partExportConfirmed q false) s fun t => t.partState q = 4 ∧ q.val ∉ t.parts.migKey ∧ t.mem = s.mem
        ∧ t.core = s.core ∧ ∀ b, b ≠ a → t.rd b = s.rd b)
    ∧ (∀ img : PImage, st = 6 → s.parts.migImage.find q = some img →
        (s.imageCheck q img = none → Does (.partImportInstalled q img) s fun t =>
          t.partState q = 4 ∧ t.rf a 7 4 = 1 ∧ t.rd (aPart q 0x50) = img.rdomain ∧ q.val ∉ t.parts.migKey)
        ∧ (s.imageCheck q img ≠ none → ends (.partImportInstalled q img)))
    ∧ (st = 7 → (∀ e ∈ s.cry.vault, e.1 / 16384 ≠ q.val) → s.extentsOf q = [] → Does (.partDestroyDone q) s fun t =>
        t.partState q = 0 ∧ (∀ o ∈ [0x18, 0x20, 0x28, 0x30], t.rd (aPart q o) = regReset s.fuse.small (aPart q o))
        ∧ (∀ p, p < 48 → s.rf (aPair p 0) 13 8 = q.val → t.rf (aPair p 0) 13 8 = 0) ∧ t.mem = s.mem)

/-- What else reaches a partition (R190, R191, R232, R237, R239, R241–R245): service entries, parking, share periods,
mailboxes, dirty tracking and the Extent Map.

Clauses that rest on the model's own choices: log entries 6, 9 and 25. -/
def Obligations.PartitionServices : Prop :=
  ∀ (s : State) (w : Writer) (q : Fin 64), q ≠ 0 →
    let b := s.inbox q
    let mig := aPart q 0x40
    (∀ (k : InKind) (tk : Word) (rest : List (InKind × Word)) (slot : Nat), b.waiting = (k, tk) :: rest →
      s.slotFree q slot = true →
      ((∃ x, k = .xcomplete x ∨ k = .xrestore x) ∨ ∃ e ∈ s.dpx.mirror, k = .feed e.r.jsn) →
      Does (.serviceEntryDeliver q slot) s fun t =>
        t.inbox q = { b with slots := b.slots.set slot { kind := k }, order := b.order ++ [slot],
                             fill := b.fill.set slot (b.fill.get 0 slot + 1), waiting := rest }
        ∧ ∀ x, k = .xcomplete x → (t.xt x).state = .free)
    ∧ (∀ (c : Fin 96) (m : Word), (s.proc c).waiting = some m → s.runs c = true → s.split = false →
      cr (archOf s c) 16 &&& m = 0 → irqOf (archOf s c) = none → (s.proc c).nmi = [] → s.settledProc c = true →
      s.rf (aPart (s.partOf c) 0x30) 31 0 ≠ 0 → Does (.park c) s fun t =>
        t.proc c = { s.proc c with parked := true } ∧ t.rf (aPair (c / 2) 8) 2 0 = 1
        ∧ (∀ k, k ≠ c.val → t.proc k = s.proc k) ∧ t.mem = s.mem ∧ t.coh = s.coh)
    ∧ (∀ (c : Fin 96) (m : Word), (s.proc c).waiting = some m → (s.proc c).parked = true → (s.proc c).running = true →
      s.split = false → s.procOf c = c → s.dieOn c = true → cr (archOf s c) 16 &&& m ≠ 0 → Does (.unpark c) s fun t =>
        t.proc c = { s.proc c with parked := false } ∧ t.rf (aPair (c / 2) 8) 2 0 = 0
        ∧ (∀ k, k ≠ c.val → t.proc k = s.proc k) ∧ t.mem = s.mem ∧ t.coh = s.coh)
    ∧ (s.time.toNat / 40000 ≠ s.parts.period → Does .sharePeriod s fun t =>
        t = { s with parts := { s.parts with period := s.time.toNat / 40000, eclk := [], bytes := [] } })
    ∧ (∀ (m : MbId) (v : Word), m = .part q ∨ (∃ port, m = .pf port ∧ s.hostUp port = true) →
        ((s.mb m).state ≠ .posted → 1 ≤ fld v 6 0 → fld v 6 0 ≤ 64 → Does (.mboxDbWrite w m v 0xFF) s fun t =>
          t = (s.setMb m { s.mb m with state := .posted, len := fld v 6 0 }).emit .stewardWake)
        ∧ ((s.mb m).state = .posted → Does (.mboxDbWrite w m v 0xFF) s fun t =>
          t = s.setMb m { s.mb m with ignored := satInc (s.mb m).ignored 0xFFFF })
        ∧ ((s.mb m).state = .posted → Accepts s w (0x600048 + 0x80 * mbKey m) → Does (.mboxAckWrite w m v 0xFF) s fun t =>
          t.mb m = { s.mb m with ackStatus := v.setWidth 8, ackDetail := (v >>> 8).setWidth 8, state := .done }
          ∧ t.mem = s.mem ∧ t.coh = s.coh))
    ∧ (Accepts s w mig → ∀ v : Word,
        (s.rb mig 0 = false → v.getLsbD 0 = true → Does (.dirtyTrackStart w q v 0xFF) s fun t =>
          t.rb mig 0 = true ∧ t.rb mig 3 = true ∧ t.mem = s.mem)
        ∧ (s.rb mig 3 = false → v.getLsbD 1 = true → Does (.partSnap w q v 0xFF) s fun t =>
          t.rb mig 2 = !s.rb mig 2 ∧ t.rb mig 3 = true ∧ t.mem = s.mem))
    ∧ (s.rb mig 3 = true → s.coh.msgs = [] → s.coh.txn = [] → Does (.dirtyScanDone q) s fun t =>
        t.rb mig 3 = false ∧ t.mem = s.mem ∧ ∀ p k, (t.l2 p).lines.find k =
          ((s.l2 p).lines.find k).map fun ln => if s.lineOf q k then (scanLine (k, ln)).2 else ln)
    ∧ (∀ (cas : Bool) (i : Fin 128) (v : Word), (cas = true → i.val < 96) →
        let a := aExt q cas i
        let new := s.merged a v 0xFF
        (Accepts s w a →
          (s.rf a 1 0 = 0 → fld new 1 0 = 1 → s.partState q ≠ 7 → s.extentExists cas (fld new 14 8) = true →
            s.extentTaken cas a (fld new 14 8) = false → Does (.extentMapWrite w q cas i v 0xFF) s fun t =>
              t.rd a = new ∧ Wrote s t [a])
          ∧ (s.rf a 1 0 = 0 → fld new 1 0 = 1 → s.extentTaken cas a (fld new 14 8) = true →
            Does (.extentMapWrite w q cas i v 0xFF) s fun t => Wrote s t [])
          ∧ (s.rf a 1 0 = 1 → fld new 1 0 = 0 → fld new 14 8 = s.rf a 14 8 → Does (.extentMapWrite w q cas i v 0xFF) s fun t =>
            t.rf a 1 0 = 2 ∧ (q.val, cas, i.val) ∈ t.mem.unmapping ∧ t.mem.words = s.mem.words))
        ∧ (s.rf a 1 0 = 2 → s.accessing (extentPa cas (s.rf a 14 8)) = false → Does (.unmapDone q cas i) s fun t =>
            t.rf a 1 0 = 0 ∧ (q.val, cas, i.val) ∉ t.mem.unmapping
            ∧ (s.cachedIn (extentPa cas (s.rf a 14 8)) = [] → t.mem.words = s.mem.words)))

/-! ## Host interface -/

/-- Queue pairs (R211, R213–R216, R220, R222, R231): doorbells, descriptor fetch, coalescing, enable and reset.

Clauses that rest on the model's own choices: log entries 6, 9 and 27. -/
def Obligations.HostQueues : Prop :=
  ∀ (s : State) (port : Fin 2) (fn : Fin 64) (qp : Fin 16) (v : Word),
    let r := s.qp port fn qp
    let idx := fld v 15 0
    let Q (i : Instr) (r' : Qp) : Prop := Does i s fun t => t = s.setQp port fn qp r'
    let H (i : Instr) (cause : Nat) : Prop := Does i s fun t => raisedBy s t [(hifSrc port 6, 0)]
      ∧ t.qp port fn qp = { r with mode := .halted, cause := cause } ∧ t.mem = s.mem ∧ t.regs = s.regs ∧ t.out = s.out
    let sqGood : Prop := idx < sqSize r ∧ fld v 63 16 = 0
    let cqGood : Prop := idx < cqSize r ∧ fld v 63 16 = 0
      ∧ ringDiff (cqSize r) idx r.cqHead ≤ ringDiff (cqSize r) r.cqTail r.cqHead
    (s.hostUp port = true → s.fnHere port fn = true →
      (sqGood → r.mode = .active ∨ r.mode = .halted ∨ r.mode = .frozen → Q (.sqDoorbell port fn qp v) { r with sqTail := idx })
      ∧ (¬ sqGood → r.mode = .active → H (.sqDoorbell port fn qp v) 3)
      ∧ (cqGood → r.mode = .active ∨ r.mode = .halted ∨ r.mode = .frozen → Q (.cqDoorbell port fn qp v) { r with cqHead := idx })
      ∧ (¬ cqGood → r.mode = .active → H (.cqDoorbell port fn qp v) 4)
      ∧ (¬ sqGood → r.mode ≠ .active → Does (.sqDoorbell port fn qp v) s fun t => t = s)
      ∧ (¬ cqGood → r.mode ≠ .active → Does (.cqDoorbell port fn qp v) s fun t => t = s)
      ∧ (r.mode = .disabled →
        let ok : Prop := (fn = 0 ∨ s.vfPart port fn ≠ 0) ∧ 6 ≤ fld r.cfg 4 0 ∧ fld r.cfg 4 0 ≤ 16 ∧ 6 ≤ fld r.cfg 12 8
          ∧ fld r.cfg 12 8 ≤ 16 ∧ fld r.cfg 23 16 < (if fn = 0 then 256 else 16)
        (ok → Does (.qctlEnable port fn qp) s fun t => t.mem = s.mem ∧ t.regs = s.regs ∧ t.out = s.out
          ∧ (t.qp port fn qp).mode = .active ∧ (t.qp port fn qp).phase = true ∧ (t.qp port fn qp).sqHead = 0
          ∧ (t.qp port fn qp).sqTail = 0 ∧ (t.qp port fn qp).cqHead = 0 ∧ (t.qp port fn qp).cqTail = 0)
        ∧ (¬ ok → Q (.qctlEnable port fn qp) { r with cause := 5 }))
      ∧ (r.mode = .active ∨ r.mode = .halted ∨ r.mode = .frozen → Does (.qctlReset port fn qp) s fun t =>
        (t.qp port fn qp).mode = .resetting ∧ t.mem = s.mem)
      ∧ ∀ i : Fin 32768, r.mode = .active → s.admits = true → r.sqFetch ≠ r.sqTail → (s.wo i).state = .free →
        let q := s.fnCtx port fn
        (s.admitWo q = true → s.outstanding port fn qp < cqFree r → Does (.descriptorFetch port fn qp i) s fun t =>
          t.wo i = { state := .reserved, port := port, fn := fn, qp := qp, part := q, admitted := s.time,
                     rd := .desc r.sqFetch }
          ∧ t.qp port fn qp = { r with sqFetch := (r.sqFetch + 1) % sqSize r, waitCounted := false }
          ∧ t.out = s.out ++ [.hostRead port (r.sqBase + BitVec.ofNat 64 (64 * r.sqFetch)) 64] ∧ t.mem = s.mem)
        ∧ (s.admitWo q = false → r.waitCounted = false → q ≠ 0 → Does (.descriptorFetch port fn qp i) s fun t =>
          RegsOnly (s.setQp port fn qp { r with waitCounted := true }) t [aPart q 0x38]
          ∧ t.rf (aPart q 0x38) 15 0 = min (s.rf (aPart q 0x38) 15 0 + 1) 0xFFFF))
    ∧ (r.mode = .resetting → r.fnReset = false → Does (.queueResetDone port fn qp) s fun t =>
        (t.qp port fn qp).mode = .disabled ∧ (t.qp port fn qp).sqHead = 0 ∧ (t.qp port fn qp).cqTail = 0
        ∧ (t.qp port fn qp).sqBase = r.sqBase ∧ t.mem = s.mem ∧ t.regs = s.regs ∧ t.out = s.out)
    ∧ (r.mode = .resetting → r.fnReset = true → Q (.queueResetDone port fn qp) { cause := r.cause })
    ∧ (∀ t0 : Word, r.firstUnsig = some t0 → 0 < r.unsignalled → fld r.cfg 47 32 ≠ 0 →
        fld r.cfg 47 32 ≤ (s.time - t0).toNat → s.hostUp port = true →
        let m := s.host.msix.get {} (fnKey port fn)
        m.enabled = true → m.fnMask = false → fld r.cfg 23 16 ∈ m.unmasked → Does (.coalesceTimer port fn qp) s fun t =>
          t = (s.setQp port fn qp { r with unsignalled := 0, firstUnsig := none }).emit (.msix port fn (fld r.cfg 23 16)))

/-- Descriptors and work orders (R203–R209, R212, R217, R223, R235): the checks in their order, each with its status; a new
Receipt is pending and its data is read; a delivered entry stands in the Work Inbox; the response, then the completion
entry, leave.

Clauses that rest on the model's own choices: log entries 6 and 27. -/
def Obligations.HostDescriptors : Prop :=
  ∀ (s : State) (i : Fin 32768) (d : Desc) (ents : List (BitVec 128)),
    let e := s.wo i
    let r := s.qp e.port e.fn e.qp
    let S (i' : Instr) (st : BitVec 8) : Prop := Does i' s fun t => (t.wo i).status = st ∧ (t.wo i).state = .posting
      ∧ (t.wo i).rd = .none ∧ t.mem = s.mem
    let win := s.win e.part (rcptSource d.receipt)
    let seq := rcptSeq d.receipt
    let inl := inlineEnts d
    s.readable e = true → s.forcedRead e.port = none →
    (e.state = .reserved → e.rd = .desc r.sqHead →
      (dOpcode d = 1 → e.fn ≠ 0 →
        (descOk d = false → S (.work i d) 0x11)
        ∧ (descOk d = true → segType d.e2 = 3 → Does (.work i d) s fun t =>
          t.wo i = { e with desc := d, rd := .chain (segAddr d.e2) (linkCount d.e2) 1 [] }
          ∧ t.out = s.out ++ [.hostRead e.port (segAddr d.e2) (256 * linkCount d.e2)] ∧ t.mem = s.mem
          ∧ (t.qp e.port e.fn e.qp).sqHead = (r.sqHead + 1) % sqSize r)
        ∧ (descOk d = true → segType d.e2 ≠ 3 →
          let form : Prop := rcptPart d.receipt = e.part ∧ rcptSource d.receipt < 0x80 ∧ segTotal 1 inl ≤ s.entrySize e.part
          let open_ : Prop := s.partState e.part = 1 ∨ s.partState e.part = 2
          (¬ form → S (.work i d) 0x11)
          ∧ (form → ¬ open_ → S (.work i d) 0x70)
          ∧ (form → open_ → staleSeq win.high seq = true → S (.work i d) 0x30)
          ∧ (form → open_ → staleSeq win.high seq = false → win.outs.find seq = none → win.lossy = false →
            Does (.work i d) s fun t => (t.wo i).state = .reading ∧ (t.wo i).rd = .segs ∧ (t.wo i).desc = d
              ∧ (t.win e.part (rcptSource d.receipt)).outs.find seq = some (.pending i)
              ∧ t.out = s.out ++ (segList 1 inl).map (fun a => .hostRead e.port a.1 a.2) ∧ t.mem = s.mem)
          ∧ (∀ st res solo sag com jsn, form → open_ → staleSeq win.high seq = false →
            win.outs.find seq = some (.done st res solo sag com jsn) → Does (.work i d) s fun t =>
              (t.wo i).status = 0x01 ∧ (t.wo i).orig = st ∧ (t.wo i).result = res ∧ (t.wo i).state = .posting
              ∧ t.mem = s.mem)))
      ∧ (dOpcode d = 1 → e.fn = 0 → S (.work i d) 0x10)
      ∧ (dOpcode d = 2 → descOk d = true → d.receipt = 0 → d.e0 = 0 → d.e1 = 0 → d.e2 = 0 → S (.nopDescriptor i d) 0x00)
      ∧ (dOpcode d = 2 → descOk d = false ∨ d.receipt ≠ 0 → S (.nopDescriptor i d) 0x11)
      ∧ (opcodeDefined e.fn (dOpcode d) = false → S (.hostInvalidOpcode i d) 0x10))
    ∧ (∀ (a : Word) (n hops : Nat) (got : List (BitVec 128)), ents.length = 16 * n →
      (e.state = .reserved → e.rd = .chain a n hops got →
        let res := chainEnts (segCount (inlineEnts e.desc) + segCount got) ents
        (res = .bad → S (.chainReadDone i ents) 0x11) ∧ (res = .limit → S (.chainReadDone i ents) 0x21)
        ∧ (∀ a' m, res = .more a' m →
          (hops = 32 → S (.chainReadDone i ents) 0x21)
          ∧ (hops ≠ 32 → Does (.chainReadDone i ents) s fun t =>
            t.wo i = { e with rd := .chain a' m (hops + 1) (got ++ ents) }
            ∧ t.out = s.out ++ [.hostRead e.port a' (256 * m)] ∧ t.mem = s.mem))
        ∧ (res = .done → rcptPart e.desc.receipt ≠ e.part → S (.chainReadDone i ents) 0x11))
      ∧ (e.state = .posting → e.rd = .reread a n hops got → chainEnts 0 ents = .done →
        (crc32c (entBytes (got ++ ents)) = e.chainCrc → Does (.chainRereadDone i ents) s fun t =>
          (t.wo i).rd = .none ∧ (t.wo i).outs = segList 2 (inlineEnts e.desc ++ got ++ ents) ∧ (t.wo i).status = e.status
          ∧ t.mem = s.mem)
        ∧ (crc32c (entBytes (got ++ ents)) ≠ e.chainCrc → Does (.chainRereadDone i ents) s fun t =>
          (t.wo i).rd = .none ∧ (t.wo i).status = 0x11 ∧ (t.wo i).outLen = 0 ∧ (t.wo i).resp = [] ∧ t.mem = s.mem)))
    ∧ (e.state = .reading → e.rd = .segs →
      (∀ (data : Bytes) (slot : Nat), data.length = e.segIn → s.slotFree e.part slot = true →
        (s.slotMapped e.part slot = true → Does (.seginReadDone i data slot) s fun t =>
          (t.wo i).state = .delivered ∧ (t.wo i).slot = some slot
          ∧ (t.inbox e.part).slots.find slot = some { kind := .work i }
          ∧ (t.inbox e.part).order = (s.inbox e.part).order ++ [slot])
        ∧ (s.slotMapped e.part slot = false → S (.seginReadDone i data slot) 0x11))
      ∧ (r.mode = .active → Does (.completionTimeout i) s fun t => (t.wo i).status = 0x20 ∧ (t.wo i).state = .posting
        ∧ t.qp e.port e.fn e.qp = { r with mode := .halted, cause := 2 } ∧ raisedBy s t [(hifSrc e.port 3, 0)]
        ∧ t.mem = s.mem))
    ∧ (e.state = .posting → e.rd = .none → r.mode = .active ∨ r.mode = .halted → Does (.responseSend i) s fun t =>
        (t.wo i).state = .free ∧ (t.qp e.port e.fn e.qp).cqTail = (r.cqTail + 1) % cqSize r
        ∧ (t.qp e.port e.fn e.qp).phase = (if (r.cqTail + 1) % cqSize r = 0 then !r.phase else r.phase) ∧ t.mem = s.mem
        ∧ ∃ before after, t.out = s.out ++ before ++ [.hostWrite e.port (r.cqBase + BitVec.ofNat 64 (32 * r.cqTail))
            (leBytes 8 e.desc.receipt.toNat ++ leBytes 8 e.result.toNat
              ++ leBytes 8 (e.outLen.toNat + r.sqHead * 2 ^ 32 + e.qp * 2 ^ 48)
              ++ leBytes 8 (dCid e.desc + e.status.toNat * 2 ^ 16 + b2n e.solo * 2 ^ 24 + b2n e.dup * 2 ^ 25
                + b2n e.sagResumed * 2 ^ 26 + b2n r.phase * 2 ^ 31 + e.orig.toNat * 2 ^ 32))] ++ after)

/-- Links and functions of the host ports (R194, R197, R200, R220, R221, R223, R448): link down and up, resets of a port, a
function and the VFs, NumVFs and VF Enable, detected errors, the binding of a VF, the lock of HIF_CFG.

Clauses that rest on the model's own choices: log entries 6, 8 and 9. -/
def Obligations.HostLinks : Prop :=
  ∀ (s : State) (w : Writer) (port : Fin 2),
    let up := aHif port 0
    let gone (t : State) (f0 : Nat) : Prop := t.mem = s.mem ∧ ∀ f n : Nat, f0 ≤ f → f < 64 → n < 16 → s.fnHere port f = true →
      t.host.msix.find (fnKey port f) = none ∧ (t.qp port f n).mode = .resetting ∧ (t.qp port f n).cause = 7
    (s.hostUp port = true →
      (Does (.pcieLinkDown port) s fun t => t.rf up 7 0 = 0 ∧ t.rf up 31 16 = min (s.rf up 31 16 + 1) 0xFFFF
        ∧ raisedBy s t [(hifSrc port 0, 0)] ∧ t.mem = s.mem
        ∧ ∀ f n : Nat, f < 64 → n < 16 → (s.qp port f n).mode = .active ∨ (s.qp port f n).mode = .halted →
          (t.qp port f n).mode = .frozen ∧ (t.qp port f n).cause = 6)
      ∧ (Does (.hotReset port) s fun t => gone t 0 ∧ t.rf up 7 0 = 0 ∧ t.host.vfEnable.get false port = false
        ∧ t.host.numVfs.get 0 port = 0)
      ∧ (∀ f : Fin 64, f ≠ 0 → s.fnHere port f = true → Does (.functionLevelReset port f) s fun t => t.mem = s.mem
        ∧ t.host.msix.find (fnKey port f) = none
        ∧ ∀ n : Nat, n < 16 → (t.qp port f n).mode = .resetting ∧ (t.qp port f n).cause = 7)
      ∧ (Does (.functionLevelReset port 0) s fun t => gone t 0 ∧ t.host.vfEnable.get false port = false)
      ∧ (s.host.vfEnable.get false port = true → Does (.vfEnableClear port) s fun t => gone t 1
        ∧ t.host.vfEnable.get false port = false)
      ∧ (Does (.vfEnableSet port) s fun t => t = { s with host := { s.host with vfEnable := t.host.vfEnable } }
        ∧ t.host.vfEnable.get false port = true)
      ∧ (∀ n : BitVec 16, n.toNat ≤ 63 →
        (s.host.vfEnable.get false port = false → Does (.numvfsWrite port n) s fun t =>
          t = { s with host := { s.host with numVfs := t.host.numVfs } } ∧ t.host.numVfs.get 0 port = n.toNat)
        ∧ (s.host.vfEnable.get false port = true → Does (.numvfsWrite port n) s fun t => t = s)))
    ∧ (Does (.perst port) s fun t => gone t 0 ∧ t.rf up 7 0 = 0 ∧ t.host.vfEnable.get false port = false
        ∧ t.host.numVfs.get 0 port = 0)
    ∧ (∀ (speed : Fin 8) (width : Fin 16), s.hostUp port = false → s.pwr.powered = true → speed ≠ 0 →
        speed.val ≤ s.rf (aHif port 8) 19 17 → width.val ∈ [1, 2, 4, 8] → width.val ≤ s.rf (aHif port 8) 23 20 →
        Does (.pcieLinkUp port speed width) s fun t => RegsOnly s t [up, aClk 0] ∧ t.rb (aClk 0) (2 + port) = true
          ∧ t.rf up 7 0 = 1 + speed.val * 2 + width.val * 16)
    ∧ (∀ k : Fin 8, k = 1 ∨ k = 2 ∨ k = 4 ∨ k = 5 → Does (.pcieErrorDetected port k none) s fun t =>
        raisedBy s t [(hifSrc port k, 0)] ∧ t = { s with flt := t.flt })
    ∧ (∀ (vf : Fin 64) (v : Word), vf ≠ 0 →
        let a := aHif port (0x100 + 8 * vf)
        let new := s.merged a v 0xFF
        Accepts s w a →
        (s.vfBusy port vf = false → fld new 5 0 = 0 ∨ s.boundVf port (fld new 5 0) = none → fld new 5 0 ≠ s.vfPart port vf →
          Does (.hifVfbindWrite w port vf v 0xFF) s fun t => Wrote s t [a] ∧ t.vfPart port vf = fld new 5 0)
        ∧ (s.vfBusy port vf = true → Does (.hifVfbindWrite w port vf v 0xFF) s fun t => Wrote s t []))
    ∧ (∀ v : Word, Accepts s w (aHif port 8) → v.getLsbD 24 = true → Does (.hifCfgLock w port v 0xFF) s fun t =>
        Wrote s t [aHif port 8] ∧ t.rb (aHif port 8) 24 = true)

/-! ## Crypto complex -/

/-- Fetching a crypto request (R252, R259, R261–R267, R270, R274): the request whose checks pass runs on a free engine of its
class; one that fails a check completes with that check's STATUS and RESULT. The vault operations complete without an
engine. Every opcode of R264 is named.

Clauses that rest on the model's own choices: log entry 28. -/
def Obligations.CryptoRequests : Prop :=
  ∀ (s : State) (q : Fin 64) (n : Fin 32),
    let p := s.pq .cry q n
    let k := s.freeReq
    let r : Req := { part := q, queue := n, slot := p.head, words := s.pqWords .cry q n
                     starter := p.ringers.get 0 p.head, order := s.cry.fetched }
    let taken (t : State) : Prop := (t.pq .cry q n).head = (p.head + 1) % pqSize p
    let ends (i : Instr) (base : State) (st : Nat) (res : Word) (len : Nat) (evs : List (Nat × Nat)) : Prop :=
      Does i s fun t => taken t ∧ Completed base s t .cry q n (complOf r st res len 0)
        ∧ t.cry.reqs.find k = none ∧ t.cry.vault = s.cry.vault ∧ raisedBy s t evs
    s.pqFetchOk .cry q n = true → (rqWord r 0).getLsbD 16 = false → s.admitCry q = true → RingRoom s .cry q n →
    (∀ (e e2 : Fin 112) (op : Nat) (i : Instr), rqOp r = op →
      (op, i) ∈ [(0x10, .ecSign q n e), (0x11, .ecVerify q n e), (0x12, .ecDh q n e), (0x13, .ecKeygen q n e),
        (0x14, .edSign q n e), (0x15, .edVerify q n e), (0x16, .edKeygen q n e), (0x18, .rsaSign q n e),
        (0x19, .rsaVerify q n e), (0x1A, .rsaEncrypt q n e), (0x1B, .rsaDecrypt q n e), (0x20, .mldsaKeygen q n e),
        (0x21, .mldsaSign q n e), (0x22, .mldsaVerify q n e), (0x24, .mlkemKeygen q n e), (0x25, .mlkemEncaps q n e),
        (0x26, .mlkemDecaps q n e), (0x28, .hybridSign q n e e2), (0x29, .hybridVerify q n e e2), (0x30, .aesEnc q n e),
        (0x31, .aesDec q n e), (0x32, .gcmSeal q n e), (0x33, .gcmOpen q n e), (0x34, .tdeaEnc q n e),
        (0x35, .tdeaDec q n e), (0x38, .hash q n e), (0x3A, .hmacGen q n e), (0x3B, .hmacVer q n e),
        (0x3C, .cmacGen q n e), (0x3D, .cmacVer q n e), (0x3E, .mac3Gen q n e), (0x3F, .mac3Ver q n e),
        (0x40, .pinXlate q n e), (0x50, .keyGen q n e), (0x51, .keyDerive q n e), (0x52, .keyImport q n e),
        (0x53, .keyExport q n e), (0x60, .random q n e)] →
      let pair := if cryClass op = 4 then some e2.val else none
      s.enginesOk (cryClass op) e pair = true → s.cryTurn q (cryClass op) = true →
      (s.cryCheck r = none → Does i s fun t => taken t ∧ t.req k = { r with stage := .running, engine := e, engine2 := pair }
        ∧ t.rb (aCry (8 * e)) 2 = true ∧ t.rf (aCry (8 * e)) 13 8 = q.val ∧ (t.pq .cry q n).outstanding = p.outstanding + 1
        ∧ t.mem = s.mem ∧ t.coh = s.coh ∧ t.cry.vault = s.cry.vault ∧ raisedBy s t [])
      ∧ (∀ st res len, s.cryCheck r = some (st, res, len) →
        ends i s st.toNat (BitVec.ofNat 64 res) len (if st = St.keyDenied then [(135, 1)] else [])))
    ∧ (cryClass (rqOp r) = 9 → cryTags r = true → ends (.cryptoInvalidOpcode q n) s 0x10 0 0 [])
    ∧ (s.cryCheck r = none →
      (∀ v : VRec, rqOp r = 0x54 → s.cry.vault.find (vKey q (fld (rqWord r 2) 13 0)) = some v →
        Does (.keyDestroy q n) s fun t => taken t ∧ (t.req k).stage = .durable
          ∧ t.cry.vault.find (vKey q (fld (rqWord r 2) 13 0)) = some { v with destroying := true } ∧ t.mem = s.mem)
      ∧ (∀ v : VRec, rqOp r = 0x55 → s.keyRec q (rqWord r 2) = v → (rqOut r).1 % 8 = 0 →
        ends (.keyInfo q n) ((s.writeBytes q (rqOut r).1 (infoBytes (rqWord r 2) v)).writePra q ((rqOut r).1 + 0x20)
          ⟨v.created, Tag.time⟩) 0x00 v.kcv 64 [])
      ∧ (rqOp r = 0x56 →
        (∀ x v, s.vLookup q (rqParam r 0) = some (x, v) → ends (.keyLookup q n)
          (s.writePra q (rqOut r).1 ⟨mkHandle q (x % 16384) v.gen, Tag.sealedW⟩) 0x00 0 8 [])
        ∧ (s.vLookup q (rqParam r 0) = none → ends (.keyLookup q n) s 0x50 2 0 [(135, 1)]))
      ∧ (∀ v : VRec, rqOp r = 0x57 → s.keyRec q (rqWord r 2) = v →
        v.type_.toNat = 0x10 ∨ v.type_.toNat = 0x12 ∨ v.type_.toNat = 0x14 ∨ v.type_.toNat = 0x20 ∨ v.type_.toNat = 0x22 →
        let b := Config.publicOf v.type_.toNat v.param.toNat v.material
        (b.length ≤ (rqOut r).2 → ends (.keyPublic q n) (s.writeBytes q (rqOut r).1 b) 0x00 v.kcv b.length [])
        ∧ ((rqOut r).2 < b.length → ends (.keyPublic q n) s 0x22 0 b.length [])))

/-- Engines, random numbers and the durability of keys (R256, R257, R260, R261, R266–R270, R279): what an engine's end
writes, stated for every value of the random and free inputs; an engine error; reseeding and the entropy source; the erasure
of a key and the end of a change; queue reset.

Clauses that rest on the model's own choices: log entries 6, 28 and 49. -/
def Obligations.CryptoEngines : Prop :=
  ∀ (s : State),
    (∀ (e : Fin 112) (k : Nat), s.runningOn e = some k →
      let r := s.req k
      let q := r.part
      let out := (rqOut r).1
      let cap := (rqOut r).2
      let src := engineSrc e
      r.engine = e.val → r.dropped = false → s.pqLive .cry q r.queue = true → RingRoom s .cry q r.queue →
      (∀ x ∈ s.cry.reqs, x.2.stage ≠ .waiting) → NoForce s src 0 → NoForce s src 1 →
      (s.keysHere r = true → needsRandom r = false ∨ s.rngOk = true → Does (.cryptoEngineDone e) s fun t =>
        t.rb (aCry (8 * e)) 2 = false ∧ ∃ rnd w cost,
          let res := s.cryRun r rnd w
          let m := 8 * res.keys.length + res.data.length
          let done (base : State) (st : Nat) (x : Word) (len : Nat) : Prop :=
            Completed base s t .cry q r.queue (complOf r st x len cost) ∧ t.cry.reqs.find k = none
          (res.status ≠ St.ok →
            done (s.writeBytes q out (List.replicate res.zero 0)) res.status.toNat res.result 0)
          ∧ (res.status = St.ok → cap < m → done s 0x22 0 m)
          ∧ (res.status = St.ok → m ≤ cap → res.keys = [] → s.changesFor (.request k) = false →
            done (s.writeBytes q out res.data) 0x00 res.result m)
          ∧ (∀ v : VRec, res.status = St.ok → m ≤ cap → res.keys = [v] → isVolatile v = false →
            (t.req k).stage = .durable ∧ (t.req k).status = St.ok ∧ (t.req k).result = res.result ∧ ∃ idx gen,
              t.cry.vault.find (vKey q idx) = some { v with gen := gen, created := s.time
                                                            kcv := kcvOf v.type_.toNat v.param.toNat v.material }
              ∧ t.mem = ((s.writeTagged q out [⟨mkHandle q idx gen, Tag.sealedW⟩]).writeBytes q (out + 8) res.data).mem))
      ∧ (s.keysHere r = true → needsRandom r = true → s.rngOk = false → Does (.cryptoEngineDone e) s fun t =>
        t.rb (aCry (8 * e)) 2 = false ∧ Completed s s t .cry q r.queue (complOf r 0x7F 0 0 r.eclk) ∧ t.cry.reqs.find k = none)
      ∧ (r.errors = 0 → Does (.cryptoEngineError e) s fun t => t.rb (aCry (8 * e)) 1 = true ∧ (t.req k).errors = 1
        ∧ (t.req k).words = r.words ∧ raisedBy s t [(src, 0), (src, 1)] ∧ t.mem = s.mem)
      ∧ (r.errors ≠ 0 → Does (.cryptoEngineError e) s fun t => t.rb (aCry (8 * e)) 1 = true ∧ t.cry.reqs.find k = none
        ∧ Completed s s t .cry q r.queue (complOf r 0x7F 0 0 r.eclk)))
    ∧ (∀ i : Fin 4, s.rngOk = true → 2 ^ 20 ≤ s.cry.calls.get 0 i → Does (.drbgReseed i) s fun t =>
        t.cry.calls.get 0 i = 0 ∧ t.cry.reseeded.get 0 i = s.time ∧ raisedBy s t [(132, 1)] ∧ t.mem = s.mem
        ∧ ∀ a, a ≠ aCry 0x408 → t.rd a = s.rd a)
    ∧ (s.pwr.powered = true → (Does .entropyFail s fun t => t.rngOk = false ∧ raisedBy s t [(132, 0)]
        ∧ t.rf (aCry 0x408) 31 16 = min (s.rf (aCry 0x408) 31 16 + 1) 0xFFFF ∧ t.mem = s.mem
        ∧ ∀ a, a ≠ aCry 0x408 → t.rd a = s.rd a)
      ∧ Does .entropyRestart s fun t => RegsOnly s t [aCry 0x408] ∧ t.rngOk = true)
    ∧ (∀ (q : Fin 64) (n : Fin 32), (s.pq .cry q n).mode = .resetting → (s.pq .cry q n).outstanding = 0 →
        Does (.cqResetDone q n) s fun t => t = s.setPq .cry q n { s.pq .cry q n with mode := .disabled })
    ∧ (∀ (dom : Fin 64) (index : Fin 16384) (v : VRec), s.cry.vault.find (vKey dom index) = some v →
        let why := s.cry.erasing.get (.domain dom) (vKey dom index)
        (v.destroying = true → isVolatile v = false → s.keyHeld dom index why = false → Does (.keyErase dom index) s fun t =>
          t.cry.vault.find (vKey dom index) = none ∧ t.mem = s.mem ∧ ∃ m, t.cry.changes = s.cry.changes
            ++ [{ dom := dom, index := index, rec_ := none, why := why, msn := m }])
        ∧ (v.destroying = true → s.keyHeld dom index why = true → Does (.keyErase dom index) s fun t => t = s)
        ∧ (isVolatile v = true → v.destroying = false → Does (.kvUncorrected dom index) s fun t =>
          t.cry.vault.find (vKey dom index) = none ∧ raisedBy s t [(133, 1)] ∧ t.mem = s.mem ∧ t.regs = s.regs)
        ∧ (isVolatile v = false → Does (.kvUncorrected dom index) s fun t =>
          t.cry = s.cry ∧ raisedBy s t [(133, 1)] ∧ t.mem = s.mem ∧ t.regs = s.regs))
    ∧ (∀ (dom : Fin 64) (index : Fin 16384) (c : VChange),
        s.cry.changes.find? (fun c => c.dom = dom.val ∧ c.index = index.val) = some c → c.msn = none → NoForce s 134 0 →
        (Does (.vaultChangeDurable dom index false) s fun t => raisedBy s t [(134, 0)] ∧ t = { s with flt := t.flt })
        ∧ (∀ d, c.why = .domain d → Does (.vaultChangeDurable dom index true) s fun t =>
          t = { s with cry := { s.cry with changes := s.cry.changes.erase c } })
        ∧ (∀ k r, c.why = .request k → s.cry.reqs.find k = some r → r.stage = .durable → (s.cry.changes.erase c).any
            (fun d => d.why == .request k) = false → rqOp r ≠ 0x54 → r.dropped = false → s.pqLive .cry r.part r.queue = true →
          RingRoom s .cry r.part r.queue → Does (.vaultChangeDurable dom index true) s fun t =>
            t.cry.reqs.find k = none ∧ Completed s s t .cry r.part r.queue (complOf r r.status.toNat r.result r.outLen r.eclk)))
    ∧ (∀ (dom : Fin 64) (c : Combo), s.cry.combos.find dom = some c → c.first.toNat + 360000000000 ≤ s.time.toNat →
        Does (.componentExpiry dom) s fun t => t = { s with cry := { s.cry with combos := s.cry.combos.del dom } })

/-- Key management commands of PF0 (R275–R277) with a new Receipt and no chain: what each does to the pending combination and
the vault, and the status, RESULT and response data that its work order is posted with.

Clauses that rest on the model's own choices: log entry 29. -/
def Obligations.KeyCommands : Prop :=
  ∀ (s : State) (i : Fin 32768) (d : Desc) (bytes : Bytes),
    let e := s.wo i
    let r := s.qp e.port e.fn e.qp
    let inl := inlineEnts d
    let data := fit (segTotal 1 inl) bytes
    let arg : Word := BitVec.ofNat 64 (dArg d)
    let dom := fld arg 5 0
    let win := s.win 0 (rcptSource d.receipt)
    let seq := rcptSeq d.receipt
    let rd : HostRd := .ok [] bytes
    let posts (c : Instr) (st : BitVec 8) (res : Word) (out : Bytes) (P : State → Prop) : Prop := Does c s fun t =>
      (t.wo i).state = .posting ∧ (t.wo i).status = st ∧ (t.wo i).result = res ∧ (t.wo i).resp = out
      ∧ (t.win 0 (rcptSource d.receipt)).outs.find seq = some (.done st res e.solo e.sagResumed false 0) ∧ t.mem = s.mem ∧ P t
    s.readable e = true → s.forcedRead e.port = none → e.state = .reserved → e.rd = .desc r.sqHead → e.fn = 0 → e.part = 0 →
    descOk d = true → segType d.e2 ≠ 3 → rcptPart d.receipt = 0 → rcptSource d.receipt < 0x80 →
    staleSeq win.high seq = false → win.outs.find seq = none → s.domainOk dom = true →
    (dOpcode d = 0x40 → fld arg 7 6 = 0 → 1 ≤ fld arg 11 8 → fld arg 11 8 ≤ 9 → 2 ≤ fld arg 15 12 → fld arg 15 12 ≤ 9 →
      fld arg 11 8 ≤ fld arg 15 12 → fld arg 23 16 = 1 → data.length = 16 ∨ data.length = 32 → s.cry.combos.find dom = none →
      let kcv := kcvOf 1 (fld arg 31 24) data
      posts (.keyComponent i d rd) 0x00 kcv [] fun t => raisedBy s t [(136, 0)] ∧ t.cry.vault = s.cry.vault
        ∧ t.cry.combos.find dom = some { count := fld arg 15 12, type_ := 1, param := BitVec.ofNat 8 (fld arg 31 24)
                                         parts := [(fld arg 11 8, data)], first := s.time })
    ∧ (dOpcode d = 0x40 → fld arg 11 8 = 0 ∨ 9 < fld arg 11 8 →
      posts (.keyComponent i d rd) 0x11 0 [] fun t => t.cry.combos = s.cry.combos ∧ t.cry.vault = s.cry.vault)
    ∧ (∀ (c : Combo) (a b : Bytes), dOpcode d = 0x41 → s.cry.combos.find dom = some c → s.time.toNat < c.first.toNat + 360000000000 → c.count = 2 →
      c.parts = [(1, a), (2, b)] → data.length = 64 → ofLe (slice data 2 2) < 2 ^ 13 → 8 ≤ segTotal 2 inl →
      s.vRoom dom 1 (Config.granules (xorBytes a b).length) = none →
      Does (.keyCombine i d rd) s fun t => t.cry.combos.find dom = none ∧ t.mem = s.mem ∧ ∃ idx gen,
        t.cry.vault.find (vKey dom idx) = some
          { type_ := c.type_, param := c.param, usage := BitVec.ofNat 16 (ofLe (slice data 2 2)), material := xorBytes a b
            label := BitVec.ofNat 64 (ofLe (slice data 16 8)), gen := gen, created := s.time
            kcv := kcvOf c.type_.toNat c.param.toNat (xorBytes a b) }
        ∧ (t.wo i).result = mkHandle dom idx gen)
    ∧ (dOpcode d = 0x41 → s.cry.combos.find dom = none →
      posts (.keyCombine i d rd) 0x11 0 [] fun t => t.cry.vault = s.cry.vault)
    ∧ (dOpcode d = 0x42 → posts (.keyComponentClear i d rd) 0x00 0 [] fun t => t.cry.combos.find dom = none
        ∧ t.cry.vault = s.cry.vault)
    ∧ (let h : Word := BitVec.ofNat 64 (ofLe (data.take 8))
       let h1 : Word := BitVec.ofNat 64 (ofLe (slice data 8 8))
       let blk := data.drop 8
       (∀ v : VRec, dOpcode d = 0x43 → 8 ≤ data.length → blk.length ≤ 16384 → s.plainKey dom h ⟨[1, 2], none, some 5, []⟩ false = none →
        s.vRoom dom 1 (Config.needGranules 0x52 0 blk.length) = none → Config.blockVersion blk = 0x44 →
        (s.keyRec dom h).type_ ≠ 2 → Config.unwrap (s.keyRec dom h).material blk = some (true, v) → isVolatile v = false →
        s.fuse.small = false → Does (.keyLoadBlock i d rd) s fun t => t.mem = s.mem ∧ ∃ idx gen,
          t.cry.vault.find (vKey dom idx) = some { v with destroying := false, gen := gen, created := s.time
                                                          kcv := kcvOf v.type_.toNat v.param.toNat v.material }
          ∧ (t.wo i).result = mkHandle dom idx gen)
       ∧ (dOpcode d = 0x44 → data.length = 16 → s.plainKey dom h ⟨[1], none, some 4, []⟩ false = none →
        s.plainKey dom h1 {} true = none →
        let k := s.keyRec dom h1
        let blk := Config.wrap (s.keyRec dom h).material k
        blk.length ≤ segTotal 2 inl → posts (.keyUnloadBlock i d rd) 0x00 k.kcv blk fun t => t.cry.vault = s.cry.vault)
       ∧ (∀ v : VRec, dOpcode d = 0x45 → data.length = 8 → s.plainKey dom h {} false = none →
        s.cry.vault.find (vKey dom (fld h 13 0)) = some v → Does (.keyDelete i d rd) s fun t =>
          t.cry.vault.find (vKey dom (fld h 13 0)) = some { v with destroying := true }
          ∧ t.cry.erasing.find (vKey dom (fld h 13 0)) = some (.command i) ∧ (t.wo i).state = .reading ∧ t.mem = s.mem)
       ∧ (dOpcode d = 0x45 → data.length ≠ 8 → posts (.keyDelete i d rd) 0x11 0 [] fun t => t.cry.vault = s.cry.vault)
       ∧ (dOpcode d = 0x46 → data.length = 8 →
        (∀ x v, s.vLookup dom (BitVec.ofNat 64 (ofLe data)) = some (x, v) → 64 ≤ segTotal 2 inl →
          posts (.keyQuery i d rd) 0x00 v.kcv (infoBytes (mkHandle dom (x % 16384) v.gen) v) fun t => t.cry.vault = s.cry.vault)
        ∧ (s.vLookup dom (BitVec.ofNat 64 (ofLe data)) = none →
          posts (.keyQuery i d rd) 0x50 2 [] fun t => t.cry.vault = s.cry.vault)))

/-! ## Compression engines and the Block Mover -/

/-- Compression (R282, R284–R289): the fetch of a request whose checks pass or fail, the end of a run for every value of the
unspecified bytes, and an engine error: the request starts again elsewhere, and the second error completes it.

The Block Mover (R290–R294): a chunk's move and its tag check, the appended CRC, the end of a run and what it leaves in
the channel's registers, an abort, and the return of a read of MOV_SYNC.

Clauses that rest on the model's own choices: log entries 6 and 30. -/
def Obligations.CompressionAndMover : Prop :=
  (
  ∀ (s : State),
    (∀ (q : Fin 64) (n : Fin 32),
      let p := s.pq .cmp q n
      let k := ((List.range (s.cmp.reqs.length + 1)).find? fun k => (s.cmp.reqs.find k).isNone).getD 0
      let r : Req := { part := q, queue := n, slot := p.head, words := s.pqWords .cmp q n, starter := p.ringers.get 0 p.head }
      let ends (i : Instr) (st : Nat) : Prop := Does i s fun t => (t.pq .cmp q n).head = (p.head + 1) % pqSize p
        ∧ Completed s s t .cmp q n (complOf r st 0 0 0) ∧ t.cmp.reqs.find k = none ∧ raisedBy s t []
      s.pqFetchOk .cmp q n = true → (rqWord r 0).getLsbD 16 = false → RingRoom s .cmp q n →
      (∀ (e : Fin 8) (op : Nat) (i : Instr), fld (rqWord r 0) 7 0 = op →
        (op, i) ∈ [(1, .compress q n e), (2, .decompress q n e)] →
        s.ceOnline e = true → s.heldBy e = [] → (∀ x ∈ s.cmp.reqs, x.2.engine ≠ 0xFF) → s.zqTurn q = true →
        (s.zqCheck r = none → Does i s fun t => (t.pq .cmp q n).head = (p.head + 1) % pqSize p
          ∧ t.creq k = { r with stage := .running, engine := e } ∧ (t.pq .cmp q n).outstanding = p.outstanding + 1
          ∧ t.rb (0xB00000 + 8 * e) 2 = true ∧ t.rf (0xB00000 + 8 * e) 13 8 = q.val ∧ t.mem = s.mem ∧ t.coh = s.coh
          ∧ raisedBy s t [])
        ∧ (∀ st, s.zqCheck r = some st → ends i st.toNat))
      ∧ (fld (rqWord r 0) 7 0 ≠ 1 → fld (rqWord r 0) 7 0 ≠ 2 → (∀ i, i < 8 → rqTag r i = Tag.untyped) →
        ends (.compressInvalidOpcode q n) 0x10))
    ∧ (∀ (e : Fin 8) (k : Nat),
      let r := s.creq k
      let q := r.part
      let a := 0xB00000 + 8 * e.val
      s.zqRunning e = some k → r.dropped = false → s.pqLive .cmp q r.queue = true → RingRoom s .cmp q r.queue →
      (∀ x ∈ s.cmp.reqs, x.1 ≠ k → x.2.engine ≠ e.val ∧ x.2.engine ≠ 0xFF) →
      (NoForce s (144 + e) 0 → NoForce s (144 + e) 1 → Does (.compressEngineDone e) s fun t =>
        t.rb a 2 = false ∧ t.rf a 63 32 = min (s.rf a 63 32 + 1) 0xFFFFFFFF ∧ t.cmp.reqs.find k = none
        ∧ ∃ free w,
          let input := s.readBytes q (zqIn r).1 (zqIn r).2
          let (st, res, len, out) := zqRun r input free w
          Completed (s.writeBytes q (zqOut r).1 out) s t .cmp q r.queue (complOf r st.toNat res len
            (Config.compressCost (fld (rqWord r 0) 7 0) (zqFormat r) (zqLevel r) input)))
      ∧ (s.heldBy e = [(k, r)] → r.stage = .running → r.errors = 0 → Does (.compressEngineError e) s fun t =>
        t.rb a 1 = true ∧ (t.creq k).errors = 1 ∧ (t.creq k).words = r.words ∧ t.mem = s.mem
        ∧ raisedBy s t [(144 + e, 0), (144 + e, 1)]
        ∧ ((∃ f, f < 8 ∧ f ≠ e.val ∧ s.ceOnline f = true ∧ ∀ x ∈ s.cmp.reqs, x.2.engine ≠ f) →
          (t.creq k).stage = .running ∧ (t.creq k).engine ≠ e.val))
      ∧ (s.heldBy e = [(k, r)] → r.stage = .running → r.errors ≠ 0 → Does (.compressEngineError e) s fun t =>
        t.rb a 1 = true ∧ t.cmp.reqs.find k = none ∧ Completed s s t .cmp q r.queue (complOf r 0x7F 0 0 0)))) ∧ (
  ∀ (s : State) (ch : Fin 64),
    (∀ r : MovRun, s.cmp.runs.find ch = some r → r.leave = none → NoForce s (movSrc ch) 1 →
      let ends (i : Instr) (base : State) (st : Nat) (crc : Word) (n : Nat) : Prop := Does i s fun t =>
        t.cmp.runs = s.cmp.runs.del ch ∧ t.mem = base.mem ∧ t.coh = base.coh ∧ t.rf (aMov ch 0x18) 15 8 = st
        ∧ t.rf (aMov ch 0x18) 2 1 = 1 ∧ t.rf (aMov ch 0x30) 39 0 = n % 2 ^ 40
        ∧ ((r.crcSel = 1 ∨ r.crcSel = 2) → t.rd (aMov ch 0x20) = movChk r.crcSel crc)
        ∧ t.rf (aMov ch 0x28) 31 0 = (s.rf (aMov ch 0x28) 31 0 + 1) % 2 ^ 32
        ∧ raisedBy s t (if st = 0x00 ∨ st = 0x61 then [] else [(movSrc ch, 2)])
      let src := r.src + r.done
      let dst := r.dst + r.done
      let n := min (r.count - r.done) (min (4096 - src % 4096) (4096 - dst % 4096))
      let crc := movCrc r.crcSel r.crc (s.movBytes r.owner src n)
      let go := r.abort = false ∧ r.fail = false
      let m := movApp r.crcSel r.append
      let place := r.dst + r.count
      (r.abort = true → ends (.moverChunk ch) s 0x61 r.crc r.done ∧ ends (.moverAbort ch) s 0x61 r.crc r.done)
      ∧ (r.abort = false → Does (.moverAbort ch) s fun t => t = s)
      ∧ (r.abort = false → r.fail = true → ends (.moverChunk ch) s 0x7F r.crc r.done)
      ∧ (go → r.done < r.count →
        (s.movValid r.owner src n && s.movValid r.owner dst n) = true → s.movTagsOk r.owner src n dst n = true →
        (r.done + n = r.count → m = 0 → ends (.moverChunk ch) (s.movMove r.owner src dst n) 0x00 crc r.count)
        ∧ (r.done + n < r.count ∨ m ≠ 0 → Does (.moverChunk ch) s fun t =>
          t.cmp.runs = s.cmp.runs.set ch { r with crc := crc, done := r.done + n }
          ∧ t.mem = (s.movMove r.owner src dst n).mem ∧ t.coh = (s.movMove r.owner src dst n).coh
          ∧ t.rf (aMov ch 0x30) 39 0 = (r.done + n) % 2 ^ 40 ∧ raisedBy s t []))
      ∧ (go → r.done < r.count → (s.movValid r.owner src n && s.movValid r.owner dst n) = false →
        ends (.moverChunk ch) s 0x11 r.crc r.done)
      ∧ (go → r.done < r.count → (s.movValid r.owner src n && s.movValid r.owner dst n) = true →
        s.movTagsOk r.owner src n dst n = false → ends (.moverChunk ch) s 0x52 r.crc r.done)
      ∧ (go → r.count ≤ r.done → s.movValid r.owner place m = true → s.movTagsOk r.owner (place + 1) 0 place m = true →
        ends (.moverChunk ch) (s.movPut r.owner 3 place (leBytes m (movChk r.crcSel r.crc).toNat)) 0x00 r.crc r.done))
    ∧ (∀ c : Fin 96, (ch.val, c.val) ∈ s.cmp.syncs → s.cmp.runs.find ch = none → Does (.moverSyncReturn ch c) s fun t =>
        t.cmp.syncs = s.cmp.syncs.filter (· ≠ (ch.val, c.val)) ∧ t.mem = s.mem ∧ t.coh = s.coh ∧ t.regs = s.regs
        ∧ ∀ d, (List.range 32).find? (fun d => s.slotChannel (s.partOf c) d == some ch.val) = some d →
          t.proc c = { s.proc c with
            kept := some (.mvsync (BitVec.ofNat 5 d), ⟨s.peek (aMov ch 0x28), Tag.untyped⟩) }))

/-! ## Journal, Strongroom and Ledger -/

/-- The Journal unit (R209, R345–R350, R352, R354, R355, R357–R359, R364, R365): staging a commit and the ACK word of one that is not
staged, the end of a local write, a batch's way out, the end of an epoch by an edge or at its nominal end, Receipt windows
rebuilt from records, and a read of the anchors.

Clauses that rest on the model's own choices: log entries 6, 31, 32 and 46. -/
def Obligations.JournalUnit : Prop :=
  ∀ (s : State),
    (∀ (r : CommitReq) (rest : List CommitReq), s.mayStage = true → s.jrn.commits = r :: rest →
      let q := r.to_.part
      let a := r.to_.addr
      let ws := s.rangeWords q a 64
      let w (i : Nat) : Word := (ws.getD i {}).val
      let back := { r.to_ with noEvent := (w 0).getLsbD 8 }
      let acks (st : Nat) (dup : Bool) (jsn : Nat) : Prop := Does .commitStage s fun t =>
        let base := s.writePra q (a + 0x38)
          ⟨BitVec.ofNat 64 (st + b2n dup * 2 ^ 9 + 2 ^ 15 + jsn % 2 ^ 48 * 2 ^ 16), Tag.untyped⟩
        t.jrn.commits = rest ∧ t.jrn.ring = s.jrn.ring ∧ t.mem = base.mem ∧ t.coh = base.coh ∧ raisedBy s t []
      (a % 8 ≠ 0 ∨ s.mapped q a 64 = false → Does .commitStage s fun t =>
        t.jrn.commits = rest ∧ t.jrn.ring = s.jrn.ring ∧ t.mem = s.mem ∧ t.coh = s.coh)
      ∧ (a % 8 = 0 → s.mapped q a 64 = true →
        (∀ st, s.commitCheck q ws = some st → acks st.toNat false 0)
        ∧ (s.commitCheck q ws = none →
          (∀ st j, s.commitWin q (fld (w 0) 1 0) (w 2) (w 1) = some (st, j) → acks st.toNat (st == St.replayed) j)
          ∧ (s.commitWin q (fld (w 0) 1 0) (w 2) (w 1) = none →
            (s.commitRoom (w 5).toNat = false → r.counted = false → Does .commitStage s fun t =>
              t.jrn = { s.jrn with commits := { r with counted := true } :: rest } ∧ raisedBy s t [(100, 0)] ∧ t.mem = s.mem)
            ∧ (s.commitRoom (w 5).toNat = true → Does .commitStage s fun t =>
              t.jrn.commits = rest ∧ t.mem = s.mem ∧ t.coh = s.coh ∧ t.rd (aJrn 0x10) = s.rd (aJrn 0x10) + 1
              ∧ (∃ e : JEnt, t.jrn.ring = s.jrn.ring ++ [e] ∧ e.ack = some back ∧ e.acked = false ∧ e.written = false
                ∧ e.r.kind = 1 ∧ e.r.receipt = w 1 ∧ e.r.result = w 3 ∧ e.r.jsn = s.rd (aJrn 0x10) ∧ e.r.stamp = s.time
                ∧ e.r.status = BitVec.ofNat 8 (fld (w 0) 23 16) ∧ e.r.payload = s.readBytes q (w 4).toNat (w 5).toNat
                ∧ e.r.domain = (if w 2 = 0 then s.rd (aPart q 0x50) else w 2))
              ∧ (fld (w 0) 1 0 = 1 → (t.win q (rcptSource (w 1))).outs.find (rcptSeq (w 1)) =
                some (.done (BitVec.ofNat 8 (fld (w 0) 23 16)) (w 3) false false true (s.rd (aJrn 0x10)))))))))
    ∧ (∀ (e : JEnt) (remap : Bool), s.jrn.ring.find? (fun x => x.r.jsn = e.r.jsn ∧ !x.written) = some e →
      NoForce s 98 0 → NoForce s 99 0 →
      (s.rf 0x1200000 12 0 ≠ 1024 → Does (.strongroomWriteDone e.r.jsn remap true) s fun t => t.jrn = s.jrn ∧ t.mem = s.mem
        ∧ t.rf 0x1200000 12 0 = s.rf 0x1200000 12 0 - 1 ∧ t.rf 0x1200008 31 28 = 3 ∧ raisedBy s t [(98, 0), (99, 0)])
      ∧ (∀ k, s.jrn.ring = [e] → s.jrn.marks = [] → e.hashed = false → e.acked = false → e.never = false → e.ack = some k →
        e.sealDue = none → e.r.kind = 1 → s.mayStage = true → s.healthy = false →
        Does (.strongroomWriteDone e.r.jsn false false) s fun t =>
          let solo := !e.mirrored
          t.mem = (s.writePra k.part (k.addr + 0x38) ⟨BitVec.ofNat 64
            (b2n solo * 2 ^ 8 + 2 ^ 15 + e.r.jsn.toNat % 2 ^ 48 * 2 ^ 16), Tag.untyped⟩).mem
          ∧ t.jrn.racc = accumulate s.jrn.racc e.r ∧ t.jrn.records = s.jrn.records + 1 ∧ raisedBy s t []
          ∧ ∀ x ∈ t.jrn.ring, x.written = true ∧ x.acked = true))
    ∧ (∀ (x : Fin 65536) (ce : Option (Fin 8)) (a z : JRec),
      let partner := !s.adopted.isEmpty
      let limit := s.rf (aJrn 0) 28 16 * 1024
      let recs := takeBatch limit 0 (if partner then s.adopted else s.unbatched)
      let raw := recs.flatMap padRec
      let g := s.rf (aJrn 0) 9 1
      recs.head? = some a → recs.getLast? = some z → limit ≤ raw.length ∨ a.stamp.toNat + 400000 ≤ s.time.toNat →
      s.rb (aJrn 0) 0 = true → s.mayStage = true → (s.xt x).state = .free → s.admitXt 0 = true → s.pgOwner g = 0 →
      fld (s.pgCfg g) 7 0 ≠ 0 → (∀ e, ce = some e → s.ceOnline e = true) →
      (ce = none → ∀ e, e < 8 → s.ceOnline e = false) → Does (.batchTimer x ce) s fun t =>
        t.jrn.sent = s.jrn.sent ++ [{ number := s.jrn.batchNo, firstJsn := a.jsn, lastJsn := z.jsn, rawLen := raw.length
                                      count := recs.length, xent := some x.val, partner := partner }]
        ∧ t.jrn.batchNo = s.jrn.batchNo + 1
        ∧ (partner = true → t.jrn.batch = s.jrn.batch ∧ t.dpx.adopt = some (z.jsn + 1))
        ∧ (partner = false → t.jrn.batch = some { firstJsn := z.jsn + 1 } ∧ t.dpx.adopt = s.dpx.adopt)
        ∧ (t.xt x).xtype = 2 ∧ (t.xt x).ctx = 0 ∧ (t.xt x).address = a.jsn ∧ t.mem = s.mem)
    ∧ (s.ledgerRuns = true →
      let n := s.jrn.nominal.toNat
      let win := s.jrn.len.toNat / 8
      let b := s.time - 3
      (s.rb (aJrn 0x100) 29 = true → (∀ e, s.jrn.accepted = some e → e.toNat < b.toNat) →
        (n ≤ b.toNat + win → b.toNat ≤ n + win → Does .epochSyncEdge s fun t => t.rd (aJrn 0x110) = s.rd (aJrn 0x110) + 1
          ∧ t.rd (aJrn 0x118) = b ∧ t.jrn.accepted = some (BitVec.ofNat 64 (n + win)) ∧ t.rf (aJrn 0x108) 6 1 = 0
          ∧ t.mem = s.mem)
        ∧ (b.toNat + win < n ∨ n + win < b.toNat → Does .epochSyncEdge s fun t => raisedBy s t [(240, 0)]
          ∧ t.rf (aJrn 0x120) 31 0 = min (s.rf (aJrn 0x120) 31 0 + 1) 0xFFFFFFFF ∧ t.jrn = s.jrn ∧ t.mem = s.mem
          ∧ ∀ c, c ≠ aJrn 0x120 → t.rd c = s.rd c))
      ∧ (∀ e, s.rb (aJrn 0x100) 29 = true → s.jrn.accepted = some e → b.toNat ≤ e.toNat → Does .epochSyncEdge s fun t =>
        raisedBy s t [(241, 0)] ∧ t.jrn = s.jrn ∧ t.mem = s.mem ∧ ∀ c, c ≠ aJrn 0x120 → t.rd c = s.rd c)
      ∧ ((if s.rb (aJrn 0x100) 29 then n + win + 3 else n) ≤ s.time.toNat → Does .epochDecision s fun t => t.rd (aJrn 0x110) = s.rd (aJrn 0x110) + 1
        ∧ t.rd (aJrn 0x118) = s.jrn.nominal ∧ t.mem = s.mem
        ∧ (s.rb (aJrn 0x100) 29 = true → t.rf (aJrn 0x108) 6 2 = min (s.rf (aJrn 0x108) 6 2 + 1) 31)
        ∧ (s.rb (aJrn 0x100) 29 = false → t.rf (aJrn 0x108) 6 1 = 0)))
    ∧ (∀ (q : Fin 64) (recs : List JRec) (gaps : Nat), q ≠ 0 → s.partState q ≠ 2 → s.boot.booting = true →
      (∀ r : JRec, gaps = 0 → recs = [r] → s.jrn.ring = [] → r.kind = 1 → r.window = 1 → r.context.toNat = q.val →
        s.rebuildFrom ≤ r.stamp.toNat → (∀ t ∈ s.host.wo, t.2.sagResumed = false) →
        staleSeq (s.win q (rcptSource r.receipt)).high (rcptSeq r.receipt) = false →
        Does (.receiptWindowRebuild q recs gaps) s fun t => raisedBy s t [] ∧ t.mem = s.mem ∧ t.regs = s.regs
          ∧ (t.win q (rcptSource r.receipt)).outs.find (rcptSeq r.receipt) = some (.done r.status r.result false false true r.jsn)
          ∧ (t.win q (rcptSource r.receipt)).high = raiseHigh (s.win q (rcptSource r.receipt)).high (rcptSeq r.receipt))
      ∧ (gaps ≠ 0 → Does (.receiptWindowRebuild q recs gaps) s fun t => raisedBy s t (List.replicate gaps (245, 0))
        ∧ t.mem = s.mem ∧ t.regs = s.regs ∧ (∀ src, src < 128 → (t.win q src).lossy = true)
        ∧ ∀ w ∈ t.xchg.pwins.get [] q, w.lossy = true))
    ∧ (∀ since, s.jrn.lossyFrom = some since → since.toNat + s.rf (aJrn 0) 47 32 * 400000000 ≤ s.time.toNat →
      Does .lossyEnd s fun t => t.anyLossy = false ∧ t.jrn.lossyFrom = none ∧ t.mem = s.mem ∧ t.regs = s.regs)
    ∧ (∀ (w : Writer) (v : Word), Accepts s w (aJrn 0x180) → Does (.ldgRead w v 0xFF) s fun t =>
        t.rf (aJrn 0x180) 24 0 = fld v 24 0 ∧ t.mem = s.mem ∧ ∀ i, i < 32 → t.rd (aJrn (0x200 + 8 * i)) =
          BitVec.ofNat 64 (ofLe (slice (Config.anchors ((s.jrn.seals ++ s.dpx.partnerSeals).map sealBytes)
            (s.jrn.changeRing.map recBytes) (fld v 24 0 / 256 * 256)) (8 * i) 8)))

/-! ## Channel ports and Courier lanes -/

/-- Start-up and loss of a link (R295, R308–R311, R316): every row of the state table. `leaves` says what going down does;
on an ACTIVE link it also sends LDOWN, drops what the link layer holds and counts LINK_DOWN (R311).

Traffic of an ACTIVE link (R301–R307): what is sent, acknowledged and replayed, a frame that fails its check, and
protocol errors.

Clauses that rest on the model's own choices: log entries 6, 9 and 33. -/
def Obligations.Links : Prop :=
  (
  ∀ (s : State) (l : Fin 264),
    let k := s.lk l
    let st := s.lkState l
    let a := aLink l 8
    let frame (ty : Nat) (b : Bytes) : Frame :=
      { ftype := ty, ackv := decide (st = 3), crv := decide (st = 3), ackseq := (if st = 3 then k.nextRx - 1 else 0),
        credit := (if st = 3 then k.granted else []), body := .bytes b }
    let hello (nonce : BitVec 32) : Bytes := (leBytes 16 s.fuse.ident.toNat ++ leBytes 2 (if isLane l then l - 256 else l) ++ [BitVec.ofNat 8 (b2n (isLane l) + 2), 0]
        ++ (initialGrant l).flatMap (fun c => leBytes 2 c.toNat) ++ leBytes 2 4096 ++ leBytes 2 0 ++ leBytes 4 nonce.toNat
        ++ leBytes 4 0)
    let linit (nonce : BitVec 32) : Frame := { ftype := 3, ackv := false, crv := false, body := .bytes (hello nonce) }
    let left (t : State) (dest reason : Nat) : Prop := t.lkState l = dest ∧ t.rf a 11 8 = reason
      ∧ (st = 3 → (t.lk l).held = [] ∧ (t.lk l).nextTx = 0 ∧ (t.lk l).nextRx = 0
        ∧ t.rf (aLink l 0x58) 63 48 = min (s.rf (aLink l 0x58) 63 48 + 1) 0xFFFF
        ∧ (∃ before after, raisedBy s t (before ++ (linkSrc l, 0) :: after))
        ∧ (reason ≠ 3 → reason ≠ 5 → reason ≠ 8 → ∃ more, t.out =
          s.out ++ .frame l (frame 5 [BitVec.ofNat 8 reason, 0, 0, 0, 0, 0, 0, 0]) :: more))
    let leaves (i : Instr) (dest reason : Nat) : Prop := Does i s fun t => left t dest reason
    let sound (fr : Frame) : Prop := NoForce s (linkSrc l) 1 ∧ fr.version = 1
    let silent (fr : Frame) : Prop := sound fr ∧ fr.ackv = false ∧ fr.crv = false
    (∀ (w : Writer) (v : Word), Accepts s w (aLink l 0) →
      (st = 0 → s.rb (aLink l 0) 0 = false → v.getLsbD 0 = true → v.getLsbD 4 = false → Does (.portEnable w l v 0xFF) s fun t =>
        t.lkState l = 1 ∧ Wrote s t [aLink l 0, a])
      ∧ (s.rb (aLink l 0) 0 = true → v.getLsbD 0 = false → leaves (.portDisable w l v 0xFF) 0 7)
      ∧ (v.getLsbD 0 = true → v.getLsbD 4 = true → leaves (.retrain w l v 0xFF) 4 12))
    ∧ (st = 1 → (Does (.trainingDone l) s fun t => ∃ nonce, t.lkState l = 2 ∧ t.lk l = { nonce := nonce }
        ∧ t.out = s.out ++ [.frame l (linit nonce)] ∧ t.rb a 3 = true ∧ t.rb a 4 = true ∧ t.mem = s.mem)
      ∧ Does (.trainingTimeout l) s fun t => left t 4 9 ∧ raisedBy s t [(linkSrc l, 4)] ∧ t.out = s.out ∧ t.mem = s.mem)
    ∧ (st = 2 → (Does (.linitTimer l) s fun t => t = s.emit (.frame l (linit k.nonce)))
      ∧ (k.mismatch = false → leaves (.initTimeout l) 4 10)
      ∧ (k.mismatch = true → Does (.initTimeout l) s fun t => t = s))
    ∧ (st = 4 → s.rb (aLink l 0) 0 = true → Does (.holdoffExpiry l) s fun t => RegsOnly s t [a] ∧ t.lkState l = 1)
    ∧ (∀ fr : Frame, fr.ftype = 3 →
      let b := frameBytes fr
      let nonce := BitVec.ofNat 32 (ofLe (slice b 0x20 4))
      let lo := BitVec.ofNat 64 (ofLe (slice b 0 8))
      let hi := BitVec.ofNat 64 (ofLe (slice b 8 8))
      let lack (own : BitVec 32) : Bytes := leBytes 4 nonce.toNat ++ leBytes 4 own.toNat
      let known (t : State) : Prop := t.rd (aLink l 0x10) = lo ∧ t.rd (aLink l 0x18) = hi
        ∧ t.rf (aLink l 0x30) 15 0 = ofLe (slice b 0x10 2) ∧ t.rf (aLink l 0x30) 28 16 = ofLe (slice b 0x1C 2)
        ∧ (t.lk l).peerNonce = some nonce ∧ (t.lk l).lackSent = true
      (st = 2 → sound fr → linitOk l b = false → Does (.linit l fr) s fun t => t = s.raise (linkSrc l) 6)
      ∧ (st = 2 → sound fr → linitOk l b = true → s.rb (aLink l 0) 2 = true → lo ≠ s.rd (aLink l 0x20) ∨ hi ≠ s.rd (aLink l 0x28) →
        Does (.linit l fr) s fun t => t.lkState l = 2 ∧ t.rf a 11 8 = 11 ∧ t.out = s.out ∧ (t.lk l).mismatch = true
          ∧ raisedBy s t (if k.badNonce = some nonce then [] else [(linkSrc l, 5)]))
      ∧ (st = 2 → sound fr → linitOk l b = true →
        s.rb (aLink l 0) 2 = false ∨ (lo = s.rd (aLink l 0x20) ∧ hi = s.rd (aLink l 0x28)) →
        Does (.linit l fr) s fun t => t.lkState l = 2 ∧ known t ∧ t.out = s.out ++ [.frame l (frame 4 (lack k.nonce))]
          ∧ raisedBy s t [] ∧ t.mem = s.mem)
      ∧ (st = 3 → silent fr → k.peerNonce = some nonce → Does (.linit l fr) s fun t => t.lkState l = 3 ∧ t.regs = s.regs
          ∧ t.out = s.out ++ [.frame l (frame 4 (lack k.nonce))] ∧ raisedBy s t [] ∧ t.mem = s.mem)
      ∧ (st = 3 → silent fr → k.peerNonce ≠ some nonce → linitOk l b = true → s.rb (aLink l 0) 2 = false →
        Does (.linit l fr) s fun t => left t 2 6 ∧ known t))
    ∧ (∀ fr : Frame, fr.ftype = 4 → st = 2 → sound fr → k.lackSent = true → BitVec.ofNat 32 (ofLe ((frameBytes fr).take 4)) = k.nonce →
        Does (.lack l fr) s fun t => t.lkState l = 3 ∧ (t.lk l).nextTx = 0 ∧ (t.lk l).nextRx = 0 ∧ (t.lk l).replayRun = 0
          ∧ (t.lk l).consumed = [0, 0, 0, 0] ∧ (t.lk l).limit = k.linitLimit ∧ (t.lk l).granted = initialGrant l)
    ∧ (∀ fr : Frame, fr.ftype = 5 → st = 3 → sound fr → (fr.ackv = false → fr.crv = false → leaves (.ldown l fr) 4 5)
      ∧ (s.takeAck l fr = none → leaves (.ldown l fr) 4 4))
    ∧ (st = 3 → leaves (.ackTimeout l) 4 2)
    ∧ (st = 3 → Does (.pcsLockLoss l) s fun t => left t 4 3 ∧ t.rb a 3 = false ∧ t.rb a 4 = false)
    ∧ (st ≠ 3 → Does (.pcsLockLoss l) s fun t => RegsOnly s t [a] ∧ t.rb a 3 = false ∧ t.rb a 4 = false ∧ t.lkState l = st)
    ∧ (∀ o : Fin 34, s.lkAbsent l = false → (if l.val < 256 then l / 8 else 32 + (l - 256) / 4) = o.val →
        Does (.octetPllUnlock o) s fun t => t.lkState l = 4 ∧ t.rf a 11 8 = 8 ∧ t.rb a 3 = false
          ∧ t.rb (aClk 0) (pllBit o) = false ∧ (st = 3 → (t.lk l).held = [])
          ∧ ∃ more, raisedBy s t ((if o.val < 32 then (160 + o.val, 7) else (228 + (o.val - 32), 0)) :: more))) ∧ (
  ∀ (s : State) (l : Fin 264),
    let k := s.lk l
    let src := linkSrc l
    let cnt := aLink l 0x58
    let control (ty : Nat) : Out := .frame l { ftype := ty, ackv := true, crv := true, ackseq := k.nextRx - 1
                                               credit := k.granted, body := .bytes [] }
    let down (i : Instr) (reason : Nat) : Prop := Does i s fun t => t.lkState l = 4 ∧ t.rf (aLink l 8) 11 8 = reason
      ∧ (t.lk l).held = [] ∧ (t.lk l).nextTx = 0 ∧ ∃ before after, raisedBy s t (before ++ (src, 0) :: after)
    let acks (i : Instr) : Prop := Does i s fun t => t.out = s.out ++ [control 1] ∧ t.regs = s.regs ∧ t.mem = s.mem
      ∧ t.lk l = { k with owesAck := false, unacked := 0 }
    (s.lkAbsent l = false → Does (.frameCheckFail l) s fun t => raisedBy s t [(src, 1)] ∧ t.mem = s.mem
      ∧ t.rf cnt 15 0 = min (s.rf cnt 15 0 + 1) 0xFFFF
      ∧ t.out = s.out ++ (if s.lkState l = 3 ∧ k.nakSent = false then [control 2] else [])
      ∧ (t.lk l).held = k.held ∧ (t.lk l).nextRx = k.nextRx ∧ (s.lkState l = 3 → (t.lk l).nakSent = true))
    ∧ (s.lkState l = 3 →
      (∀ fr : Frame, fr.version = 1 → fr.ackv = true → NoForce s src 1 →
        let sent := (k.nextTx - 1 - k.acked).toNat
        let d := (fr.ackseq - k.acked).toNat
        let rest := (splitAcked fr.ackseq k.held).2
        let run := if d = 0 then k.replayRun else 0
        let credit := fr.crv = true → ∀ v, v < 4 → (fr.credit.getD v 0 - k.limit.getD v 0).toNat < 0x8000
        let taken (t : State) : Prop := (t.lk l).held = rest ∧ (t.lk l).acked = fr.ackseq
          ∧ (fr.crv = true → ∀ v, v < 4 → (t.lk l).limit.getD v 0 = fr.credit.getD v 0)
        (fr.ftype = 1 → d ≤ sent → credit → Does (.ack l fr) s fun t => taken t ∧ (t.lk l).replayRun = run ∧ t.lkState l = 3)
        ∧ (fr.ftype = 1 → sent < d → 0x8000 ≤ (k.acked - fr.ackseq).toNat → down (.ack l fr) 4)
        ∧ (fr.ftype = 1 → d ≤ sent → fr.crv = true → (∃ v, v < 4 ∧ 0x8000 ≤ (fr.credit.getD v 0 - k.limit.getD v 0).toNat) →
          down (.ack l fr) 4)
        ∧ (fr.ftype = 2 → d ≤ sent → credit → run ≠ 8 → Does (.nak l fr) s fun t => taken t ∧ (t.lk l).replayRun = run + 1
          ∧ (t.lk l).replay = rest.length ∧ t.lkState l = 3 ∧ t.rf cnt 31 16 = min (s.rf cnt 31 16 + 1) 0xFFFF
          ∧ t.rf cnt 47 32 = min (s.rf cnt 47 32 + 1) 0xFFFF ∧ raisedBy s t [(src, 2)])
        ∧ (fr.ftype = 2 → d ≤ sent → credit → run = 8 → down (.nak l fr) 1)
        ∧ (fr.ftype = 2 → sent < d → 0x8000 ≤ (k.acked - fr.ackseq).toNat → down (.nak l fr) 4))
      ∧ (∀ q f more, 0 < k.replay → k.held.drop (k.held.length - k.replay) = (q, f) :: more →
        Does (.frameTransmit l) s fun t => t.out = s.out ++ [.frame l (txFrame k q f)] ∧ t.mem = s.mem
          ∧ t.lk l = { k with replay := k.replay - 1, owesAck := false, unacked := 0 }
          ∧ t.rd (aLink l 0x48) = s.rd (aLink l 0x48) + 1)
      ∧ (∀ f, k.replay = 0 → s.nextFrame l k = some f → Does (.frameTransmit l) s fun t =>
          t.out = s.out ++ [.frame l (txFrame k k.nextTx f)] ∧ t.mem = s.mem ∧ (t.lk l).held = k.held ++ [(k.nextTx, f)]
          ∧ (t.lk l).nextTx = k.nextTx + 1 ∧ (t.lk l).consumed = addVl k.consumed f.vl (frameCredits (bodyLen f.body))
          ∧ t.rd (aLink l 0x48) = s.rd (aLink l 0x48) + 1)
      ∧ (k.replay = 0 → s.nextFrame l k = none → Does (.frameTransmit l) s fun t => t = s)
      ∧ (k.held ≠ [] → k.replayRun < 8 → Does (.replayTimer l) s fun t => raisedBy s t [(src, 2)] ∧ t.mem = s.mem
          ∧ t.lk l = { k with replayRun := k.replayRun + 1, replay := k.held.length }
          ∧ t.rf cnt 47 32 = min (s.rf cnt 47 32 + 1) 0xFFFF)
      ∧ (k.held ≠ [] → k.replayRun = 8 → down (.replayTimer l) 1)
      ∧ (k.held = [] → Does (.replayTimer l) s fun t => t = s)
      ∧ (k.owesAck = true → acks (.ackDue l)) ∧ (k.owesAck = false → Does (.ackDue l) s fun t => t = s)
      ∧ acks (.keepalive l)))

/-! ## Exchanges -/

/-- Outbound exchanges (R318, R319, R321, R325–R331, R333–R336): a start that is issued, attached, waits for a path or fails a
check; responses; the timer, the end of a wait, and a durable outcome. For PROBE the module makes the Receipt itself (R322).
Which status a failed check of a COMMIT gives its outcome record is left to the record (R331); the clause here is about the
other types.

Clauses that rest on the model's own choices: log entries 6 and 34. -/
def Obligations.ExchangeStarts : Prop :=
  ∀ (s : State) (x : Fin 65536),
    (∀ (q : Fin 64) (n : Fin 32) (ty : Nat) (i : Instr),
      let ws := s.pqWords .xch q n
      let w (j : Nat) : Word := (ws.getD j {}).val
      let tg (j : Nat) : Tag := (ws.getD j {}).tag
      let p := s.pq .xch q n
      let ctl := w 0
      let (outA, outN) := ((w 4).toNat, (w 5).toNat)
      let (inA, inN) := ((w 6).toNat, (w 7).toNat)
      let rcpt : Word := if ty = 5 then BitVec.ofNat 64 (q * 2 ^ 57 + 0x1FF * 2 ^ 48 + s.xchg.probeSeq % 2 ^ 48) else w 1
      let target := if ty = 4 then s.openReceipt q (w 2) x else none
      let g := match target with
        | some y => (s.xt y).group
        | none => fld ctl 24 16
      let e : XtEnt :=
        { state := .issued, xtype := ty, cls := fld ctl 5 4, ctx := q, group := g, queue := n, slot := p.head
          receipt := rcpt, domain := s.rd (aPart q 0x50), address := w 2, user := w 3, outAddr := w 4, outLen := outN
          inAddr := w 6, inLen := inN, admitted := s.time, noEvent := ctl.getLsbD 9, cancelOf := target }
      let tagsBad := ∃ j, j < 8 ∧ tg j ≠ Tag.untyped ∧ ¬ (j = 1 ∧ tg j = Tag.receipt)
        ∧ ¬ ((j = 4 ∨ j = 6) ∧ tg j = Tag.pointer)
      let fieldsBad := 6 ≤ ty ∨ 2 ≤ fld ctl 5 4 ∨ fld ctl 7 6 ≠ 0 ∨ fld ctl 15 10 ≠ 0 ∨ fld ctl 63 25 ≠ 0 ∨ 2 ^ 24 ≤ outN
        ∨ 2 ^ 24 ≤ inN ∨ (outN ≠ 0 ∧ (ty = 0 ∨ ty = 4 ∨ ty = 5)) ∨ fld (s.pgCfg (fld ctl 24 16)) 7 0 = 0
        ∨ s.pgOwner (fld ctl 24 16) ≠ q ∨ (ty ≠ 5 ∧ (rcptPart rcpt ≠ q ∨ rcptSource rcpt < 0x80 ∨ 0x1FE < rcptSource rcpt))
        ∨ (ty = 4 ∧ target = none) ∨ s.mapped q outA outN = false ∨ s.mapped q inA inN = false
        ∨ disjoint outA outN inA inN = false
      let dataBad := s.noTags q outA outN [Tag.sealedW, Tag.poison] = false
        ∨ s.noTags q inA inN [Tag.sealedW, Tag.code, Tag.poison] = false
      let taken (t : State) : Prop := (t.pq .xch q n).head = (p.head + 1) % pqSize p ∧ t.coh = s.coh ∧ t.mem = s.mem
      let fails (st : Nat) : Prop := Does i s fun t => (t.pq .xch q n).head = (p.head + 1) % pqSize p
        ∧ (t.xt x).state = .free ∧ Completed s s t .xch q n (xComplWords x e st 0 0 false false)
      (ty, i) ∈ [(0, .xstartRead q n x), (1, .xstartWrite q n x), (2, .xstartCommit q n x), (3, .xstartMessage q n x),
        (4, .xstartCancel q n x), (5, .xstartProbe q n x), (ty, .xstartInvalidXtype q n x)] →
      (6 ≤ ty ↔ i = .xstartInvalidXtype q n x) → n.val < 8 → fld ctl 3 0 = ty →
      s.pqFetchOk .xch q n = true → s.admits = true → (s.xt x).state = .free → ctl.getLsbD 8 = false →
      (s.admitXt q = false → p.waitCounted = false → Does i s fun t => (t.pq .xch q n).head = p.head
        ∧ t.rf (aPart q 0x38) 31 16 = min (s.rf (aPart q 0x38) 31 16 + 1) 0xFFFF ∧ t.xchg.table = s.xchg.table ∧ t.mem = s.mem)
      ∧ (s.admitXt q = true → RingRoom s .xch q n →
        (∀ y ∈ s.xchg.table, y.2.attachedTo ≠ some x.val ∧ y.2.cancelOf ≠ some x.val) →
        (ty ≠ 2 → ty ≠ 4 → tagsBad → fails 0x52) ∧ (ty ≠ 2 → ty ≠ 4 → ¬ tagsBad → fieldsBad → fails 0x11)
        ∧ (ty ≠ 2 → ty ≠ 4 → ¬ tagsBad → ¬ fieldsBad → dataBad → fails 0x52)
        ∧ (¬ tagsBad → ¬ fieldsBad → ¬ dataBad →
          (∀ y, ty ≠ 5 → s.openReceipt q rcpt x = some y → Does i s fun t => taken t
            ∧ (t.xt x).attachedTo = some y ∧ (t.xt x).state = .issued ∧ (t.xt y).next = some x.val
            ∧ ∀ l, l < 256 → t.lk l = s.lk l)
          ∧ (∀ y, s.openReceipt q rcpt x = none → target = some y → (s.xt y).state = .issued ∨ (s.xt y).state = .acked
            ∨ (s.xt y).state = .data ∨ (s.xt y).state = .pathWait → Does i s fun t => (t.xt y).state = .cancelling
              ∧ (t.xt y).cancelOf = some x.val ∧ (t.xt x).cancelOf = some y)
          ∧ (ty = 5 ∨ s.openReceipt q rcpt x = none → (∀ y, target = some y → (s.xt y).state ≠ .pathWait) →
            (∀ l, s.newPort g x = some l → Does i s fun t => taken t ∧ t.xt x = { e with port := l }
              ∧ (let data := s.readBytes q outA outN
                 ∃ old, (t.lk l).queue = old ++ xframes (s.maxPayload l) (reqPrologue e data.length) data ty 0 0 x 0 rcpt
                   (some x.val) q))
            ∧ (s.newPort g x = none → Does i s fun t => (t.xt x).state = .pathWait ∧ (t.xt x).receipt = rcpt
              ∧ (t.pq .xch q n).head = (p.head + 1) % pqSize p ∧ raisedBy s t [(104, 5)]
              ∧ ∀ l, l < 256 → (t.lk l).nextTx = (s.lk l).nextTx)))))
    ∧ (let e := s.xt x
       let more := decide (e.port ∈ e.tried)
       let tried := if more then e.tried else e.port :: e.tried
       let excess := (s.pgUsable e.group).all tried.contains
       let rounds := if excess then e.rounds + 1 else e.rounds
       let spent := excess = true ∧ fld (s.pgCfg e.group) 19 16 ≤ rounds
       e.inbound = false → e.ctx ≠ 0 → e.attachedTo = none →
       (∀ d, e.deadline = some d → e.state = .issued ∨ e.state = .acked ∨ e.state = .data → d.toNat < s.time.toNat →
        (∀ l, ¬ spent → s.nextPort e.group e.port = some l → s.mapped e.ctx e.outAddr.toNat e.outLen = true →
          s.noTags e.ctx e.outAddr.toNat e.outLen [Tag.sealedW, Tag.poison] = true → Does (.exchangeTimeout x) s fun t =>
            (t.xt x).state = .issued ∧ (t.xt x).port = l ∧ (t.xt x).attempt = min (e.attempt + 1) 255
            ∧ (t.xt x).redrives = min (e.redrives + 1) 255 ∧ (t.xt x).rounds = rounds ∧ (t.xt x).receipt = e.receipt
            ∧ raisedBy s t [(104, 4), (104, 3)] ∧ t.mem = s.mem)
        ∧ (spent ∨ s.nextPort e.group e.port = none → RingRoom s .xch e.ctx e.queue → Does (.exchangeTimeout x) s fun t =>
            (t.xt x).state = .pathWait ∧ raisedBy s t [(104, 4), (104, 5)]))
       ∧ (∀ d l, e.deadline = some d → e.state = .pathWait → e.wait = false → d.toNat ≤ s.time.toNat →
        s.nextPort e.group e.port = some l → s.pgUsable e.group ≠ [] → s.mapped e.ctx e.outAddr.toNat e.outLen = true →
        s.noTags e.ctx e.outAddr.toNat e.outLen [Tag.sealedW, Tag.poison] = true → Does (.waitRetry x) s fun t =>
          (t.xt x).state = .issued ∧ (t.xt x).port = l ∧ (t.xt x).rounds = 0 ∧ raisedBy s t [(104, 3)] ∧ t.mem = s.mem)
       ∧ (∀ j : JEnt, s.outcomeRec x = some j → e.state = .done → e.own = false → e.restored = false → e.noCompl = false →
        s.durable j = true → s.mayStage = true → j.never = false → RingRoom s .xch e.ctx e.queue →
        s.pqLive .xch e.ctx e.queue = true → (∀ y ∈ s.xchg.table, y.2.attachedTo ≠ some x.val ∧ y.2.cancelOf ≠ some x.val) →
        Does (.exchangeOutcomeDurable x) s fun t => (t.xt x).state = .free
          ∧ Completed s s t .xch e.ctx e.queue (xComplWords x { e with solo := e.solo || !j.mirrored } e.status.toNat
            e.orig.toNat (xWritten e) false false)))
    ∧ (∀ (l : Fin 264) (fr : Frame) (b : Bytes) (u : State),
      let x := frXid fr
      let e := u.xt x
      l.val < 256 → s.lkState l = 3 → NoForce s (linkSrc l) 1 → fr.ftype = 0 → fr.version = 1 → fr.body = .bytes b →
      b.length ≤ 4096 → fr.vl < 3 → s.takeAck l fr = some u → fr.seq = (u.lk l).nextRx →
      let current := e.inbound = false ∧ e.attachedTo = none ∧ e.port = l.val ∧ frAttempt fr = e.attempt
        ∧ (e.state = .issued ∨ e.state = .acked ∨ e.state = .data)
      let stray (i : Instr) : Prop := Does i s fun t => raisedBy u t [(104, 6)] ∧ t.mem = s.mem ∧ t.xchg = u.xchg
        ∧ (t.lk l).nextRx = (u.lk l).nextRx + 1 ∧ t.rd (aLink l 0x50) = s.rd (aLink l 0x50) + 1
      let timer := some (s.time + BitVec.ofNat 64 (s.rf (aXt (0x2000 + 8 * e.xtype)) 31 0))
      let finishes (i : Instr) (d : Bytes) (off : Nat) (f : XtEnt) : Prop := Does i s fun t => (t.xt x).state = .free
        ∧ Completed (u.writeBytes e.ctx (e.inAddr.toNat + off) d) u t .xch e.ctx e.queue
          (xComplWords x f f.status.toNat f.orig.toNat (off + d.length) false false)
      let plain := e.ctx ≠ 0 ∧ e.own = false ∧ e.restored = false ∧ e.noCompl = false ∧ e.xtype ≠ 2 ∧ e.cancelOf = none
        ∧ e.dup = false ∧ e.inLost = false ∧ u.pqLive .xch e.ctx e.queue = true ∧ RingRoom u .xch e.ctx e.queue
        ∧ ∀ y ∈ u.xchg.table, y.2.attachedTo ≠ some x ∧ y.2.cancelOf ≠ some x
      let d := b.drop 16
      let len := ofLe (slice b 8 4)
      let f := { e with status := (fr.xh1 >>> 8).truncate 8, orig := b.getD 12 0, result := BitVec.ofNat 64 (ofLe (b.take 8)) }
      (frRole fr = 2 →
        (¬ current → e.state ≠ .cancelling → stray (.rspFrame l fr))
        ∧ (current → e.state ≠ .data → frOffset fr = 0 → 16 ≤ b.length → len ≤ e.inLen → d.length ≤ e.inLen → plain →
          u.mapped e.ctx e.inAddr.toNat d.length = true →
          (frLast fr = true → f.status ≠ St.staleReceipt → f.status ≠ St.bufferTooSmall → finishes (.rspFrame l fr) d 0 f)
          ∧ (frLast fr = false → Does (.rspFrame l fr) s fun t => (t.xt x).state = .data ∧ (t.xt x).got = d.length
            ∧ (t.xt x).deadline = timer ∧ (t.xt x).result = f.result ∧ t.mem = (u.writeBytes e.ctx e.inAddr.toNat d).mem)))
      ∧ (frRole fr = 3 →
        (¬ current ∨ (current ∧ frOffset fr ≠ e.got) → e.state ≠ .cancelling → stray (.rspDataFrame l fr))
        ∧ (current → e.state = .data → frOffset fr = e.got → e.tooBig = false → e.got + b.length ≤ e.inLen → plain →
          u.mapped e.ctx (e.inAddr.toNat + e.got) b.length = true →
          (frLast fr = true → e.status ≠ St.staleReceipt → e.status ≠ St.bufferTooSmall →
            finishes (.rspDataFrame l fr) b e.got e)
          ∧ (frLast fr = false → Does (.rspDataFrame l fr) s fun t => (t.xt x).state = .data
            ∧ (t.xt x).got = e.got + b.length ∧ (t.xt x).deadline = timer
            ∧ t.mem = (u.writeBytes e.ctx (e.inAddr.toNat + e.got) b).mem))))

/-- Inbound requests (R231, R235, R249, R317–R321, R332, R336–R339): what the module answers, and what it delivers, attaches or
holds back. The frame is one that its link accepts (R303): `u` is the state once its acknowledgement has been taken.

Clauses that rest on the model's own choices: log entries 26, 33 and 35. -/
def Obligations.InboundRequests : Prop :=
  ∀ (s u : State) (l : Fin 264) (fr : Frame) (b : Bytes),
    let dom : Word := BitVec.ofNat 64 (ofLe (b.take 8))
    let a : Word := BitVec.ofNat 64 (ofLe (slice b 8 8))
    let len := ofLe (slice b 16 4)
    let user : Word := BitVec.ofNat 64 (ofLe (slice b 24 8))
    let data := (b.drop 32).take len
    let ty := frXtype fr
    let k := u.lk l
    let answer (st : Nat) (res : Word) (orig : BitVec 8) (out : Bytes) (xt : Option Nat) (ctx : Nat) : List TxF :=
      xframes (u.maxPayload l) (leBytes 8 res.toNat ++ leBytes 4 out.length ++ [orig, 0, 0, 0]) out ty 2 st (frXid fr)
        (frAttempt fr) fr.xh0 xt ctx
    let accepted (t : State) : Prop := (t.lk l).nextRx = k.nextRx + 1
    let answered (i : Instr) (st : Nat) (res : Word) (orig : BitVec 8) (out : Bytes) : Prop := Does i s fun t =>
      accepted t ∧ (t.lk l).queue = k.queue ++ answer st res orig out none 0 ∧ t.mem = s.mem ∧ t.xchg.table = u.xchg.table
    l.val < 256 → s.lkState l = 3 → NoForce s (linkSrc l) 1 → fr.ftype = 0 → fr.version = 1 → fr.body = .bytes b →
    b.length ≤ 4096 → fr.vl < 3 → s.takeAck l fr = some u → fr.seq = k.nextRx → s.mayStage = true →
    (frRole fr = 0 → ty = 5 → answered (.inboundProbe l fr) 0x00 0 0 [])
    ∧ (frRole fr = 0 → 7 ≤ ty → answered (.inboundReservedXtype l fr) 0x12 0 0 [])
    ∧ (frRole fr = 0 → ty = 0 →
      (s.modulePeer l = false → answered (.inboundRead l fr) 0x12 0 0 [])
      ∧ (s.modulePeer l = true → 32 ≤ b.length → migKind a = 4 → fld a 49 0 = 0 → migPart a ≠ 0 → len = 8 →
        answered (.inboundRead l fr) 0x00 0 0 (leBytes 8 (u.peek (aPart (migPart a) 8)).toNat))
      ∧ (s.modulePeer l = true → migKind a ≠ 4 → answered (.inboundRead l fr) 0x11 0 0 []))
    ∧ (∀ (x : Fin 65536) (i : Instr), frRole fr = 0 → (ty, i) ∈ [(1, .inboundWrite l fr x), (2, .inboundCommit l fr x)] →
      let q := migPart a
      (s.modulePeer l = false → answered i 0x12 0 0 [])
      ∧ (s.modulePeer l = true → migFormOk ty a len = false ∨ s.importing q = false → answered i 0x11 0 0 [])
      ∧ (∀ w v, s.modulePeer l = true → 32 ≤ b.length → migFormOk ty a len = true → s.importing q = true →
        u.openPwin 0 dom (rcptSource fr.xh0) = some (w, v) → v.pAnswer w fr.xh0 = .fresh → v.admits = true →
        v.admitXt 0 = true → (u.xt x).state = .free → frLast fr = true → data.length = len →
        (migKind a = 1 → s.mapped q (fld a 45 0) (128 * (len / 136)) = true → Does i s fun t => accepted t
          ∧ t.mem = (u.writeLines q (len / 136) (fld a 45 0) data).mem ∧ (t.xt x).state = .done
          ∧ (t.lk l).queue = k.queue ++ answer 0 0 0 [] (some x) 0)
        ∧ (migKind a = 2 → Does i s fun t => accepted t ∧ t.mem = s.mem ∧ (t.xt x).state = .done
          ∧ t.parts.migRecs.get [] q = s.parts.migRecs.get [] q ++ parseRecs (len / 64) data
          ∧ (t.lk l).queue = k.queue ++ answer 0 0 0 [] (some x) 0)
        ∧ (migKind a = 3 → ty = 2 → Does i s fun t => accepted t ∧ t.mem = s.mem ∧ (t.xt x).state = .acked
          ∧ t.parts.migImage.find q = some (Config.imageParse (putBytes (s.parts.migBytes.get [] q) (fld a 31 0) data)))))
    ∧ (∀ (x : Fin 65536) (slot : Nat) (i : Instr), frRole fr = 0 →
      (ty, i) ∈ [(3, .inboundMessage l fr x slot), (6, .inboundAttention l fr x slot)] →
      let q := fld a 5 0
      let st := s.partState q
      (s.dpxState = 3 → answered i 0x70 0 0 [])
      ∧ (s.dpxState ≠ 3 → b.length < 32 ∨ q = 0 → answered i 0x11 0 0 [])
      ∧ (s.dpxState ≠ 3 → 32 ≤ b.length → q ≠ 0 → st = 3 ∨ st = 4 → answered i 0x70 0 0 [])
      ∧ (s.dpxState ≠ 3 → 32 ≤ b.length → q ≠ 0 → st ≠ 3 → st ≠ 4 →
        st ≠ 2 ∨ s.acceptIn q l = false ∨ s.entrySize q < len → answered i 0x11 0 0 [])
      ∧ (∀ w v, s.dpxState ≠ 3 → 32 ≤ b.length → q ≠ 0 → st = 2 → s.acceptIn q l = true → len ≤ s.entrySize q →
        u.openPwin q dom (rcptSource fr.xh0) = some (w, v) →
        (v.pAnswer w fr.xh0 = .stale → answered i 0x30 0 0 [])
        ∧ (∀ orig res, v.pAnswer w fr.xh0 = .replay orig res → answered i 0x01 res orig [])
        ∧ (∀ y, v.pAnswer w fr.xh0 = .attach y → (u.xt y).state ≠ .free → Does i s fun t => accepted t ∧ t.mem = s.mem
          ∧ (t.xt y).dups = (u.xt y).dups ++ [frDup l fr] ∧ (t.lk l).queue = k.queue)
        ∧ (v.pAnswer w fr.xh0 = .fresh → v.admitInbound q = false → k.bpSeq ≠ some fr.seq → Does i s fun t =>
          (t.lk l).nextRx = k.nextRx ∧ t.rf (aPart q 0x38) 31 16 = min (s.rf (aPart q 0x38) 31 16 + 1) 0xFFFF ∧ t.mem = s.mem)
        ∧ (v.pAnswer w fr.xh0 = .fresh → v.admits = true → v.admitInbound q = true → (u.xt x).state = .free →
          v.slotFree q slot = true → frLast fr = true → Does i s fun t => accepted t
            ∧ (let n := (s.inbox q).fill.get 0 slot + 1
               let origin := if ty = 6 then 3 else 2
               let kind : InKind := if ty = 6 then .attention else .message x
               t.mem = ((u.writeBytes q (s.slotPay q slot) data).writeTagged q (s.slotHdr q slot)
                 [⟨fr.xh0, Tag.receipt⟩, ⟨BitVec.ofNat 64 (origin + x % 2 ^ 17 * 4 + len % 2 ^ 24 * 2 ^ 32 + fld a 15 8 % 256 * 2 ^ 56),
                   Tag.untyped⟩, ⟨user, Tag.untyped⟩, ⟨dom, Tag.untyped⟩, ⟨s.time, Tag.time⟩, ⟨n, Tag.untyped⟩]).mem
               ∧ (t.inbox q).slots.find slot = some { kind := kind } ∧ (t.inbox q).order = (s.inbox q).order ++ [slot])
            ∧ (t.xt x).receipt = fr.xh0 ∧ (t.xt x).domain = dom ∧ (t.xt x).ctx = q ∧ (t.xt x).inbound = true
            ∧ (ty = 3 → (t.xt x).state = .acked ∧ (t.lk l).queue = k.queue)
            ∧ (ty = 6 → (t.xt x).state = .done ∧ (t.lk l).queue = k.queue ++ answer 0 0 0 [] (some x) q))))
    ∧ (frRole fr = 0 → ty = 4 →
      (∀ y, u.inHolding dom a = some y → (u.xt y).state = .acked → Does (.inboundCancel l fr) s fun t => accepted t
        ∧ (t.xt y).dups = (u.xt y).dups ++ [frDup l fr] ∧ t.mem = s.mem ∧ (t.lk l).queue = k.queue)
      ∧ (u.inHolding dom a = none →
        (∀ st res, u.pOutcome dom a = some (st, res) → answered (.inboundCancel l fr) 0x01 res st [])
        ∧ (u.pOutcome dom a = none → (dom, a) ∉ u.xchg.cancelled → Does (.inboundCancel l fr) s fun t => accepted t
          ∧ (dom, a) ∈ t.xchg.cancelled ∧ (t.lk l).queue = k.queue ++ answer 0x61 0 0 [] none 0 ∧ t.mem = s.mem)))
    ∧ (frRole fr = 1 →
      (u.inEntry l fr = none → Does (.reqDataFrame l fr) s fun t => accepted t ∧ raisedBy u t [(104, 6)] ∧ t.mem = s.mem)
      ∧ (∀ y, u.inEntry l fr = some y → (u.xt y).ctx ≠ 0 →
        let e := u.xt y
        (frOffset fr ≠ e.got → Does (.reqDataFrame l fr) s fun t => accepted t ∧ raisedBy u t [(104, 6)] ∧ t.mem = s.mem)
        ∧ (frOffset fr = e.got → frLast fr = false → e.state = .data → Does (.reqDataFrame l fr) s fun t => accepted t
          ∧ (t.xt y).got = e.got + b.length ∧ (t.xt y).state = .data
          ∧ t.mem = (u.writeBytes e.ctx (s.slotPay e.ctx (inSlot e) + e.got) (b.take (e.reqLen - e.got))).mem)
        ∧ (frOffset fr = e.got → frLast fr = true → e.xtype = 3 → Does (.reqDataFrame l fr) s fun t => accepted t
          ∧ (t.xt y).state = .acked ∧ (t.inbox e.ctx).order = (s.inbox e.ctx).order ++ [inSlot e])))

/-! ## Duplex operation -/

/-- The states of a duplex (R367, R373–R379, R381, R383): what its timers send, what silence, a sideband word, a self-fence, the
loss of the partner, the end of a promotion and the two controls of DPX_CTL lead to. That CONFIRM_ALONE ends FORMING in SINGLE
is a choice of the model (log entry 16).

Clauses that rest on the model's own choices: log entries 6, 9 and 16. -/
def Obligations.DuplexStates : Prop :=
  ∀ (s : State),
    let st := s.dpxState
    let a := aDpx 0x10
    let sent (t : State) (l : Nat) (f : TxF) : Prop := (t.lk l).queue = (s.lk l).queue ++ [f]
    (st = 0 → s.rb (aDpx 0) 0 = true → s.courierUp = true → Does .duplexForming s fun t => t.dpxState = 1
      ∧ t.rd (aDpx 0x30) = 0 ∧ t.rd (aDpx 0x38) = 0 ∧ t.dpx.role = none ∧ t.dpx.held = [] ∧ t.mem = s.mem
      ∧ ∀ l, s.activeLanes.head? = some l → ∃ f i h, sent t l f ∧ f.body = .item i ∧ i.body = .hello h
        ∧ h.ident = s.fuse.ident ∧ h.role = s.rb (aClk 0x408) 17)
    ∧ (∀ l, st = 1 → s.activeLanes.head? = some l → Does .helloTimer s fun t => t = s.pushFrame l
        (itemFrame 0 0 { tgen := BitVec.ofNat 32 s.tgen, body := .hello { ident := s.fuse.ident, holds := s.holdsNow
                                                                          role := s.rb (aClk 0x408) 17 } }))
    ∧ (st ≠ 1 → Does .helloTimer s fun t => t = s)
    ∧ (s.lanternStopped = false → s.pwr.powered = true →
      (Does .heartbeatTimer s fun t => t.dpx.hbSeq = s.dpx.hbSeq + 1 ∧ t.regs = s.regs ∧ t.mem = s.mem
        ∧ ∀ base l, (base = 0 ∨ base = 4) → [256 + base, 257 + base, 258 + base, 259 + base].find? s.linkActive = some l →
          sent t l (itemFrame 0 (BitVec.ofNat 64 (s.dpx.hbSeq + 1)) { tgen := BitVec.ofNat 32 s.tgen
                                                                      body := .heartbeat (s.beatFor l) }))
      ∧ (s.rb (aDpx 0) 2 = true → Does .sidebandTimer s fun t => t = s.emitPin (.sideband
          (sideWord 0x48 st 0 (s.dpx.hbSeq % 65536) (s.fuse.ident.toNat % 2 ^ 32)))))
    ∧ (s.lanternStopped = true → (Does .heartbeatTimer s fun t => t = s) ∧ Does .sidebandTimer s fun t => t = s)
    ∧ (∀ chars : BitVec 72,
      let b := leBytes 9 chars.toNat
      let mine := ofLe (slice b 4 4) = s.partnerId.toNat % 2 ^ 32
      (crc8 (b.take 8) ≠ b.getD 8 0 → Does (.sidebandWord chars) s fun t => t = s.raise 195 2)
      ∧ (crc8 (b.take 8) = b.getD 8 0 →
        (¬ mine → Does (.sidebandWord chars) s fun t => t = s)
        ∧ (mine → b.getD 0 0 = 0x48 → Does (.sidebandWord chars) s fun t => t.dpx.sideAt = s.time ∧ t.rb a 5 = true
          ∧ RegsOnly { s with dpx := t.dpx, flt := t.flt } t [a]
          ∧ raisedBy s t (if s.rb a 5 = true then [] else [(195, 1)]))
        ∧ (mine → b.getD 0 0 = 0x47 → st = 3 → s.rb a 6 = true → s.rb (aDpx 0) 1 = false → Does (.sidebandWord chars) s fun t =>
          t.dpxState = 5 ∧ t.rf a 15 12 = (b.getD 1 0).toNat / 16 ∧ raisedBy s t [(198, 2)])
        ∧ (mine → b.getD 0 0 = 0x47 → st = 3 → s.rb a 6 = false → Does (.sidebandWord chars) s fun t => t.dpxState = 6)))
    ∧ (s.dpx.role = some false → st = 3 ∨ st = 1 →
      (1 < s.dpx.theta → Does .timeSlew s fun t =>
        t = { s with nowStage := s.now, dpx := { s.dpx with theta := s.dpx.theta - 1 } })
      ∧ (s.dpx.theta < -1 → Does .timeSlew s fun t =>
        t = { s with now := s.now + 2, nowStage := s.now, dpx := { s.dpx with theta := s.dpx.theta + 1 } })
      ∧ (-1 ≤ s.dpx.theta → s.dpx.theta ≤ 1 → Does .timeSlew s fun t => t = s))
    ∧ (let c := s.since s.dpx.courierAt
       let d := s.since s.dpx.sideAt
       let courier := if s.rb a 4 = true then [(194, 0)] else []
       let side := if s.rb a 5 = true then [(195, 0)] else []
       (st = 2 → 40000 ≤ c → d < 40000 → Does (.pathSilent true) s fun t => t.dpxState = 2 ∧ t.rb a 3 = true
          ∧ t.rb a 4 = false ∧ t.dpx.held = [] ∧ t.dpx.dropped = true
          ∧ ∃ more, raisedBy s t (courier ++ (if s.dpx.dropped then [] else [(197, 0)]) ++ more))
       ∧ (st = 3 → 40000 ≤ c → d < 40000 → Does (.pathSilent true) s fun t => t.dpxState = 3 ∧ t.rb a 3 = true
          ∧ t.rb a 4 = false ∧ t.rb a 6 = true ∧ t.dpx.ahead = [] ∧ raisedBy s t courier ∧ t.mem = s.mem)
       ∧ (st = 2 ∨ st = 3 → 40000 ≤ d → c < 40000 → Does (.pathSilent false) s fun t => t.dpxState = st ∧ t.rb a 3 = true
          ∧ t.rb a 5 = false ∧ t.rb a 6 = s.rb a 6 ∧ (st = 3 → raisedBy s t side ∧ t.mem = s.mem)
          ∧ ∃ more, raisedBy s t (side ++ more))
       ∧ (c < 40000 → d < 40000 → ∀ k, Does (.pathSilent k) s fun t => t = s)
       ∧ (st = 2 ∨ st = 3 → s.rb a 3 = true → s.rb a 4 = true → s.rb a 5 = true →
          let lost := (st = 2 ∧ s.dpx.dropped = true) ∨ (st = 3 ∧ s.rb a 6 = true)
          Does .pathsHeard s fun t => t.rb a 3 = false ∧ (lost → t.dpxState = 1 ∧ t.dpx.role = s.dpx.role)
            ∧ (¬ lost → t.dpxState = st))
       ∧ (st = 2 → 24000 ≤ c → 24000 ≤ d → Does .selfFence s fun t => t.dpxState = 4 ∧ raisedBy s t [(198, 0)]
          ∧ t.jrn.ring = s.jrn.ring.map (fun (e : JEnt) => if e.acked then e else { e with never := true })
          ∧ (∀ x, (unacked s.jrn.ring).head? = some x → t.rd (aDpx 0x48) = x.r.jsn)
          ∧ (∀ x, (unacked s.jrn.ring).getLast? = some x → t.rd (aDpx 0x50) = x.r.jsn)
          ∧ t.mayStage = false ∧ t.admits = false ∧ t.core = s.core ∧ t.mem = s.mem)
       ∧ (st = 2 → c < 24000 ∨ d < 24000 → Does .selfFence s fun t => t = s)
       ∧ (40000 ≤ c → 40000 ≤ d →
          (st = 3 → s.rb a 6 = true → s.rb (aDpx 0) 1 = false → Does .partnerLoss s fun t => t.dpxState = 5
            ∧ raisedBy s t (courier ++ side) ∧ t.mem = s.mem)
          ∧ (st = 3 → s.rb a 6 = false ∨ s.rb (aDpx 0) 1 = true → Does .partnerLoss s fun t => t.dpxState = 6
            ∧ t.host.wo = [] ∧ ∃ more, raisedBy s t (courier ++ side ++ (198, 1) :: more))
          ∧ (st = 1 → s.dpx.role = some true → Does .partnerLoss s fun t => t.dpxState = 0)
          ∧ (st = 1 → s.dpx.role = some false → Does .partnerLoss s fun t => t.dpxState = 5)
          ∧ (st = 2 → Does .partnerLoss s fun t => t = s)))
    ∧ (st = 6 → Does .promotionComplete s fun t => t.dpxState = 0 ∧ t.tgen = (s.tgen + 1) % 2 ^ 32 ∧ t.dpx.role = none
        ∧ t.host.takeovers = min (s.host.takeovers + 1) 0xFFFF
        ∧ (s.dpx.announced = 2 → t.dpx.partnerSeals = s.dpx.partnerSeals)
        ∧ (s.dpx.announced ≠ 2 → ∃ k, t.dpx.partnerSeals = k :: s.dpx.partnerSeals ∧ k.ident = s.partnerId))
    ∧ (∀ (w : Writer) (v : Word), Accepts s w (aDpx 8) →
      (v.getLsbD 0 = true → v.getLsbD 1 = false →
        (st = 4 → s.rb a 7 = false → Does (.confirmAlone w v 0xFF) s fun t => t.dpxState = 0)
        ∧ (st = 4 → s.rb a 7 = true → Does (.confirmAlone w v 0xFF) s fun t => t.dpxState = 4)
        ∧ (st = 5 → Does (.confirmAlone w v 0xFF) s fun t => t.dpxState = 6)
        ∧ (st = 1 → Does (.confirmAlone w v 0xFF) s fun t => t.dpxState = 0))
      ∧ (v.getLsbD 0 = false → v.getLsbD 1 = true →
        (st = 2 → s.dpx.held = [] → Does (.handover w v 0xFF) s fun t => t.dpxState = 7 ∧ t.admits = false
          ∧ ∃ before after, raisedBy s t (before ++ (198, 3) :: after))
        ∧ (st = 2 → s.dpx.held ≠ [] → Does (.handover w v 0xFF) s fun t => t.dpxState = 2 ∧ t.dpx.handover = true
          ∧ t.admits = false)))

/-- Courier items (R241, R249, R368–R374, R376, R377, R382): what each does on arrival. The frame is one that its lane
accepts (R303): `u` is the state once its acknowledgement has been taken.

Clauses that rest on the model's own choices: log entries 16 and 20. -/
def Obligations.CourierItems : Prop :=
  ∀ (s u : State) (j : Fin 8) (fr : Frame) (i : CItem),
    let l := 256 + j.val
    let st := s.dpxState
    let a := aDpx 0x10
    let tg := max s.tgen i.tgen.toNat
    let here := s.fromPartner l = true
    s.lkState l = 3 → NoForce s (linkSrc l) 1 → fr.ftype = 0 → fr.version = 1 → fr.body = .item i → itemLen i.body ≤ 4096 →
    fr.vl = 0 ∨ fr.vl = 3 → s.takeAck l fr = some u → fr.seq = (u.lk l).nextRx →
    (∀ h : Hello, i.body = .hello h →
      (st ≠ 1 → st = 0 ∨ s.partnerId = 0 ∨ s.partnerId = h.ident → Does (.hello j fr) s fun t => t.dpx = s.dpx ∧ t.mem = s.mem ∧ raisedBy s t [])
      ∧ (st ≠ 0 → s.partnerId ≠ 0 → s.partnerId ≠ h.ident → Does (.hello j fr) s fun t => t.dpx = s.dpx ∧ t.mem = s.mem
        ∧ raisedBy s t [(199, 1)])
      ∧ (st = 1 → s.partnerId = 0 ∨ s.partnerId = h.ident → s.dpx.role = none →
        let mine := s.holdsNow
        let strap := s.rb (aClk 0x408) 17
        let active := if mine ≠ h.holds then mine = true else if mine = true then i.tgen.toNat < s.tgen
          else if strap ≠ h.role then strap = true else s.fuse.ident.toNat < h.ident.toNat
        (mine = true → h.holds = true → s.tgen = i.tgen.toNat → Does (.hello j fr) s fun t => t.dpxState = 0
          ∧ t.rb a 8 = true ∧ raisedBy s t [(199, 0)])
        ∧ ((mine = true → h.holds = true → s.tgen ≠ i.tgen.toNat) → Does (.hello j fr) s fun t =>
          t.dpx.role = some (decide active) ∧ t.dpx.pairKey = true ∧ t.tgen = tg
          ∧ t.rd (aDpx 0x18) = h.ident.truncate 64 ∧ t.rd (aDpx 0x20) = (h.ident >>> 64).truncate 64)))
    ∧ (∀ b : Beat, i.body = .heartbeat b →
      (¬ here → Does (.heartbeat j fr) s fun t => t.dpx = s.dpx ∧ raisedBy s t [] ∧ t.mem = s.mem)
      ∧ (here → Does (.heartbeat j fr) s fun t => t.rb a 4 = true ∧ t.tgen = tg)
      ∧ (here → b.tEcho = 0 → b.msnApplied = 0 →
        (st = 4 → s.rb a 7 = false → b.state = 3 → i.tgen.toNat = s.tgen → s.dpx.dropped = false →
          Does (.heartbeat j fr) s fun t => t.dpxState = 2)
        ∧ (st = 4 → s.rb a 7 = false → s.tgen < i.tgen.toNat → s.rb a 4 = true → Does (.heartbeat j fr) s fun t =>
          t.dpxState = 4 ∧ t.rb a 7 = true ∧ raisedBy s t [(198, 4)])
        ∧ (st = 5 → s.dpx.resynced = true → s.rb a 6 = false → Does (.heartbeat j fr) s fun t => t.dpxState = 3)
        ∧ (st = 5 → s.dpx.resynced = false ∨ s.rb a 6 = true → Does (.heartbeat j fr) s fun t => t.dpxState = 1
          ∧ t.dpx.role = s.dpx.role))
      ∧ (here → st = 3 → s.rb a 4 = true → b.tEcho ≠ 0 → s.dpx.ahead = [] →
        let rtt := (s.time - b.tEcho).toNat - b.tHold.toNat
        let theta : Int := (s.time.toNat : Int) - ((b.tSend.toNat + rtt / 2 : Nat) : Int)
        Does (.heartbeat j fr) s fun t => t.dpxState = 3 ∧ t.dpx.theta = theta ∧ t.rf (aDpx 0x28) 31 16 = rtt % 65536
          ∧ t.dpx.courierAt = s.time ∧ t.mem = s.mem
          ∧ raisedBy s t (if 4 < theta.natAbs ∧ s.dpx.thetaRun = 2 then [(196, 0)] else [])))
    ∧ (∀ n, i.body = .mirrorAck n → st = 2 → s.dpx.handover = false → (s.rd (aDpx 0x38)).toNat < n →
        n ≤ (s.rd (aDpx 0x30)).toNat → Does (.mirrorAck j fr) s fun t => t.rd (aDpx 0x38) = BitVec.ofNat 64 n
          ∧ t.dpx.held = s.dpx.held.filter (fun i => n ≤ i.msn)
          ∧ ∀ e ∈ t.jrn.ring, ∀ k, e.msn = some k → k < n → e.mirrored = true)
    ∧ (∀ r, i.body = .goodbye r → r < 16 → here →
      (st = 3 → s.rb a 6 = true → s.rb (aDpx 0) 1 = false → Does (.goodbye j fr) s fun t => t.dpxState = 5
        ∧ t.rf a 15 12 = r ∧ raisedBy s t [(198, 2)])
      ∧ (st = 3 → s.rb a 6 = false ∨ s.rb (aDpx 0) 1 = true → Does (.goodbye j fr) s fun t => t.dpxState = 6
        ∧ t.dpx.announced = r)
      ∧ (st = 2 → Does (.goodbye j fr) s fun t => t.dpxState = 0 ∧ t.dpx.held = [])
      ∧ (st = 1 → s.dpx.role = some false → Does (.goodbye j fr) s fun t => t.dpxState = 5))
    ∧ (¬ here → ∀ r, i.body = .goodbye r → Does (.goodbye j fr) s fun t => t.dpx = s.dpx ∧ raisedBy s t [])
    ∧ (st = 3 →
      let n := (s.rd (aDpx 0x30)).toNat
      let rows : List (Nat × Instr) := [(1, .journalItem j fr), (2, .workOrderItem j fr), (3, .exchangeItem j fr),
        (4, .partWriteItem j fr), (5, .vaultItem j fr), (6, .snapshot j fr), (7, .snapshotEnd j fr), (8, .migrate j fr)]
      ∀ c, (itemKind i.body, c) ∈ rows → n + 1 < 2 ^ 64 →
        (i.msn < n → Does c s fun t => t.dpx = s.dpx ∧ t.rd (aDpx 0x30) = s.rd (aDpx 0x30) ∧ t.mem = s.mem)
        ∧ (n < i.msn → s.dpx.ahead = [] → Does c s fun t => t.dpx.ahead = [i] ∧ t.rd (aDpx 0x30) = s.rd (aDpx 0x30)
          ∧ t.mem = s.mem)
        ∧ (i.msn = n → s.dpx.ahead = [] → s.itemFits i.body = true → Does c s fun t => t.rd (aDpx 0x38) = BitVec.ofNat 64 (n + 1)
          ∧ t.dpx.ahead = []
          ∧ (∀ m, s.activeLanes.head? = some m → ∃ old f k, (t.lk m).queue = old ++ [f] ∧ f.body = .item k
            ∧ k.body = .mirrorAck (n + 1))
          ∧ match i.body with
            | .journal r => ∃ e, t.dpx.mirror = s.dpx.mirror ++ [e] ∧ e.r = r ∧ e.applied = true
              ∧ (r.kind = 1 → r.context ≠ 0 → r.window = 1 →
                staleSeq (s.win r.context.toNat (rcptSource r.receipt)).high (rcptSeq r.receipt) = false →
                (∀ x ∈ s.host.wo, x.2.sagResumed = false) →
                (t.win r.context.toNat (rcptSource r.receipt)).outs.find (rcptSeq r.receipt)
                  = some (.done r.status r.result false false true r.jsn))
            | .workOrder x e => e.state ≠ .free → t.host.wo.find x = some e
            | .exchange x e => e.state ≠ .free → t.xt x = e
            | .partWrite b v => (∀ q : Fin 64, q ≠ 0 → b = aPart q 0x18 → t.rd b = v)
              ∧ ((b < 0x300000 ∨ 0x33F000 ≤ b) → t.dpx.shadow.find b = some v)
            | .vault dom x r => t.cry.vault.find (vKey dom x) = r
            | .snapshot (.workOrder x e) => e.state ≠ .free → t.host.wo.find x = some e
            | .snapshotEnd => t.rb a 6 = false ∧ t.rb (aDpx 0x40) 40 = false ∧ t.dpx.resynced = true
              ∧ raisedBy s t [(197, 2)]
            | .migrate (.memory q b ws) => s.importing q = true → b % 0x10000 = 0 → s.mapped q b (8 * ws.length) = true →
              t.mem = (s.writeTagged q b ws).mem
            | .migrate (.image img) => s.importing img.part = true → t.parts.migImage.find img.part = some img
            | _ => True))
    ∧ (∀ m x r, i.body = .migrateRsp m x r → Does (.migrateRsp j fr) s fun t => t.tgen = tg ∧ t.dpx = s.dpx ∧ t.mem = s.mem)
    ∧ (∀ ws n, i.body = .mailbox ws n →
      let b := s.mb .partnerIn
      (b.state = .posted → Does (.mailbox j fr) s fun t =>
        t.mb .partnerIn = { b with ignored := min (b.ignored + 1) 0xFFFF } ∧ t.mem = s.mem)
      ∧ (b.state ≠ .posted → 1 ≤ n → n ≤ 64 → Does (.mailbox j fr) s fun t =>
        t.mb .partnerIn = { b with msg := mbTable ws, len := n, state := .posted } ∧ .stewardWake ∈ t.out ∧ t.mem = s.mem))
    ∧ (∀ x y ws, i.body = .mailboxAck x y ws → (s.mb .partnerOut).state = .posted → Does (.mailboxAck j fr) s fun t =>
        t.mb .partnerOut = { s.mb .partnerOut with msg := mbTable ws, ackStatus := x, ackDetail := y, state := .done }
        ∧ .stewardWake ∈ t.out ∧ t.mem = s.mem)

/-! ## Faults -/

/-- Counting and reacting (R387–R391, R393–R396, R401): what the fault logic does with one event of a source that exists; `t` is
the state after it. -/
def Obligations.FaultCounting : Prop :=
  ∀ (s : State) (x : FltEv),
    let i := x.src
    let a := aFlt i 0x18
    let t := s.takeEvent x
    let window := s.fltWindow i x.tick
    let before := if s.flt.win.get 0 i = window then s.rf a 7 0 else 0
    let masked := s.rb (aFlt i 8) x.ev = true ∨ fltClass i x.ev = .informational
    let count := min (before + 1) 255
    let severe := fltClass i x.ev = .uncorrected ∨ s.rf a 15 8 ≤ count
    let set := if severe then s.rf (aFlt i 0x28) 12 8 else s.rf (aFlt i 0x28) 4 0
    let last (m v : Bool) : Word := BitVec.ofNat 64 (x.ev % 16 + b2n x.forced * 2 ^ 4 + b2n m * 2 ^ 5 + b2n v * 2 ^ 6
      + x.tick.toNat % 2 ^ 56 * 2 ^ 8)
    let counted (t : State) : Prop := t.rb (aFlt i 0) x.ev = true
      ∧ t.rf a 63 32 = min (s.rf a 63 32 + 1) 0xFFFFFFFF ∧ t.flt.win.get 0 i = window
    x.ev < 16 → i < 256 → fltReserved i = false → s.fltAbsent i = false →
    (s.fltArmed i = false → t = { s with flt := { s.flt with early := s.flt.early ++ [x] } })
    ∧ (s.fltArmed i = true →
      (masked → counted t ∧ t.rf a 7 0 = before ∧ t.rd (aFlt i 0x30) = last true false
        ∧ t = { s with regs := t.regs, flt := { s.flt with win := t.flt.win } })
      ∧ (¬ masked → set = 0 → counted t ∧ t.rf a 7 0 = count ∧ t.rd (aFlt i 0x30) = last false (decide severe)
        ∧ t = { s with regs := t.regs, flt := { s.flt with win := t.flt.win } })
      ∧ (¬ masked → bitOf (BitVec.ofNat 64 set) 0 = true → counted t ∧ .stewardInt i x.ev ∈ t.out)
      ∧ (¬ masked → bitOf (BitVec.ofNat 64 set) 4 = true → t.lanternStopped = true ∧ counted t)
      ∧ (¬ masked → s.hibernating = false → bitOf (BitVec.ofNat 64 set) 3 = true → t.flt.reset.isSome = true
        ∧ (s.flt.reset = none → t.flt.reset = some (4, i) ∧ t.admits = false ∧ t.mayStage = false ∧ t.lanternStopped = true
          ∧ t.flt.log = some (i, x.ev, s.time)))
      ∧ (¬ masked → s.hibernating = false → set = 2 → 48 ≤ i → t.out = s.out ++ [.stewardNmi i]))

/-- The fault sources (R388, R389, R392, R397, R399, R400, R448): a detector's report and what its block does with it, the fault
registers, an injected event, LANTERN and the Steward watchdog. Where no operand names the object of an event, the model takes a
free one (log entry 17).

Clauses that rest on the model's own choices: log entries 6, 9 and 17. -/
def Obligations.FaultSources : Prop :=
  ∀ (s : State),
    (∀ (i : Fin 256) (e : Fin 16),
      let quiet := (80 ≤ i.val ∧ i.val < 96) ∨ (100 ≤ i.val ∧ i.val ≤ 109) ∨ i.val = 240 ∨ i.val = 241 ∨ i.val = 250
      let gone := fltEvents i ≤ e.val ∨ s.fltSilent i = true
      (gone ∨ i.val = 255 → Does (.faultEvent i e) s fun t => t = s)
      ∧ (¬ gone → quiet → Does (.faultEvent i e) s fun t => t = s.raise i e)
      ∧ (¬ gone → 48 ≤ i.val → i.val < 72 → e.val = 2 → s.coh.lost = false → s.pwr.powered = true → s.hibernating = false →
        s.flt.reset = none → Does (.faultEvent i e) s fun t => t.coh.lost = true ∧ t.flt.reset = some (5, i.val)
          ∧ t.lanternStopped = true ∧ ∃ more, raisedBy s t ((i.val, 2) :: more))
      ∧ (¬ gone → i.val = 97 → Does (.faultEvent i e) s fun t => t.rf 0x1200008 31 28 = 1 ∧ raisedBy s t [(97, 0)])
      ∧ (¬ gone → i.val = 132 → e.val = 0 → Does (.faultEvent i e) s fun t => t.rngOk = false ∧ raisedBy s t [(132, 0)])
      ∧ (¬ gone → i.val = 198 → e.val = 0 → s.dpxState = 2 → Does (.faultEvent i e) s fun t => t.dpxState = 4)
      ∧ (¬ gone → i.val = 216 → s.noSag = false → s.mayRemove = false → s.holdup ≠ 3 → s.dpxState ≠ 6 → Does (.faultEvent i e) s fun t =>
          t.pwr.phase = .stopped ∧ t.rb (aClk 0x800) 10 = true ∧ ∃ more, raisedBy s t ((216, 0) :: more))
      ∧ (¬ gone → i.val = 224 → Does (.faultEvent i e) s fun t => t.rb (aClk 0) 0 = false ∧ raisedBy s t [(224, 0)]))
    ∧ (∀ (w : Writer) (i : Fin 256) (v : Word) (e : Nat), fltReserved i = false → e = fld v 11 8 → v.getLsbD 0 = true →
      Accepts s w (aFlt i 0x10) →
      let a := aFlt i 0x10
      (s.rb a 0 = true → Does (.fltForce w i v 0xFF) s fun t => Wrote s t [] ∧ t.rd a = s.rd a)
      ∧ (s.rb a 0 = false → fltEvents i ≤ e → Does (.fltForce w i v 0xFF) s fun t => Wrote s t [a] ∧ t.rb a 0 = false)
      ∧ (s.rb a 0 = false → e < fltEvents i → forceWaits i e = true → Does (.fltForce w i v 0xFF) s fun t =>
        Wrote s t [a] ∧ t.rb a 0 = true ∧ t.rf a 11 8 = e)
      ∧ (s.rb a 0 = false → i.val = 255 → e < 4 → Does (.fltForce w i v 0xFF) s fun t => Wrote s t [a] ∧ t.rb a 0 = false
        ∧ ⟨255, e, s.time, true⟩ ∈ t.flt.queue))
    ∧ (∀ (w : Writer) (i : Fin 256) (v : Word), fltReserved i = false → Accepts s w (aFlt i 0x20) →
      (9 ≤ fld v 4 0 → fld v 4 0 ≤ 29 → Does (.fltWindowWrite w i v 0xFF) s fun t => t.rf (aFlt i 0x20) 4 0 = fld v 4 0
        ∧ t.rd (aFlt i 0x38) = s.time ∧ t.rf (aFlt i 0x18) 7 0 = 0 ∧ t.flt.win.find i = some 0 ∧ t.mem = s.mem
        ∧ ∀ x ∈ s.flt.early, x.src = i.val → x ∈ t.flt.queue ∧ x ∉ t.flt.early)
      ∧ (fld v 4 0 < 9 ∨ 29 < fld v 4 0 → Does (.fltWindowWrite w i v 0xFF) s fun t => Wrote s t []))
    ∧ (∀ (w : Writer) (i : Fin 256) (v : Word), fltReserved i = false → Accepts s w (aFlt i 0) →
      Does (.fltStatusClear w i v 0xFF) s fun t => Wrote s t [aFlt i 0]
        ∧ ∀ e, e < 16 → t.rb (aFlt i 0) e = (s.rb (aFlt i 0) e && !v.getLsbD e))
    ∧ (∀ (w : Writer) (v : Word), Accepts s w 0x204028 → Does (.kick w v 0xFF) s fun t =>
        (∀ b, b ≠ 0x204028 → b ≠ aJrn 0x10 → b ≠ aDpx 0x30 → t.rd b = s.rd b) ∧ t.mem = s.mem
        ∧ (v.getLsbD 0 = true → t.flt.kicked = s.time)
        ∧ (s.rb 0x70 0 = false → 20 ≤ fld v 12 8 → fld v 12 8 ≤ 29 →
          t.rf 0x204028 12 8 = fld v 12 8 ∧ t.rb 0x204028 1 = v.getLsbD 1)
        ∧ (s.rb 0x70 0 = true ∨ fld v 12 8 < 20 ∨ 29 < fld v 12 8 → 20 ≤ s.rf 0x204028 12 8 → s.rf 0x204028 12 8 ≤ 29 →
          t.rf 0x204028 12 8 = s.rf 0x204028 12 8))
    ∧ (s.pwr.powered = true → s.rb 0x204028 1 = true →
      (2 ^ s.rf 0x204028 12 8 ≤ (s.time - s.flt.kicked).toNat → Does .wdtExpired s fun t => raisedBy s t [(248, 0)]
        ∧ t.regs = s.regs ∧ t.flt.kicked = s.time)
      ∧ ((s.time - s.flt.kicked).toNat < 2 ^ s.rf 0x204028 12 8 → Does .wdtExpired s fun t => t = s))
    ∧ (∀ (w : Writer) (v : Word), Accepts s w 0x70 → Does (.capLockFlt w v 0xFF) s fun t => Wrote s t [0x70]
        ∧ t.rb 0x70 0 = (s.rb 0x70 0 || v.getLsbD 0))
    ∧ (s.pwr.powered = true → s.rb 0x204020 0 = true → s.lanternStopped = false → Does .lanternToggle s fun t =>
        t.pwr.lantern = (!s.pwr.lantern) ∧ t.regs = s.regs ∧ t.mem = s.mem
        ∧ t.out = s.out ++ (if s.pin.pinsHeld then [] else [.pin "LANTERN" (!s.pwr.lantern)]))
    ∧ (s.lanternStopped = true → Does .lanternToggle s fun t => t = s)

/-! ## Power -/

/-- Supplies and the HOLDUP capacitor (R408, R410–R412, R414, R416): power good, the charger's start, the measured capacitance and
the charge target, HIB_READY and what it opens, the short, and the supervisors of VIN and VAUX.

Clauses that rest on the model's own choices: log entries 6 and 36. -/
def Obligations.PowerSupplies : Prop :=
  ∀ (s : State),
    let st := aClk 0x800
    let hold := aClk 0x820
    let target (t : State) (c : Nat) : Prop := let v := t.rf hold 47 32
      v ≤ 54000 ∧ v * v * c ≤ 13800000000000 ∧ (v < 54000 → 13800000000000 < (v + 1) * (v + 1) * c)
    let begins (t : State) (mv : Nat) : Prop := let c := s.rf hold 31 16
      t.rf hold 15 0 = mv
      ∧ (mv < 10000 → t.pwr.measuring = true ∧ t.holdup = 1)
      ∧ (10000 ≤ mv → 2000 ≤ c → c ≤ 6000 → t.pwr.measuring = false ∧ t.holdup = 1 ∧ target t c)
      ∧ (10000 ≤ mv → c < 2000 ∨ 6000 < c → t.pwr.bleeder = true ∧ t.holdup = 0)
    (s.rb st 0 = false → Does .vauxGood s fun t => t.rb st 0 = true ∧ t.out = s.out ++ pinOut s (.pin "REMOVE_OK" false)
      ∧ RegsOnly { s with out := t.out } t [st])
    ∧ (s.rb st 0 = true → (Does .vauxGood s fun t => t = s)
      ∧ Does .vinGood s fun t => t.rb st 1 = true ∧ PowerOnly s t [st] [] ∧ (s.rb st 2 = false → t.pwr.bleeder = false))
    ∧ (∀ mv : BitVec 16, s.rb st 0 = true → s.rb st 1 = true → s.rb st 2 = false → Does (.softstartDone mv) s fun t =>
      t.rb st 2 = true ∧ begins t mv.toNat ∧ PowerOnly s t [st, hold] [])
    ∧ (∀ ticks : BitVec 32, s.pwr.measuring = true → s.holdup = 1 → Does (.holdupMeasured ticks) s fun t =>
      let c := ticks.toNat * 3 / 16000
      t.pwr.measuring = false ∧ t.rf hold 31 16 = min 65535 c
      ∧ (2000 ≤ c → c ≤ 6000 → t.holdup = 1 ∧ target t c ∧ PowerOnly s t [st, hold] [])
      ∧ (c < 2000 ∨ 6000 < c → t.holdup = 3 ∧ t.rb st 5 = false ∧ PowerOnly s t [st, hold] [(217, 1)]))
    ∧ (s.pwr.measuring = false → s.holdup = 1 → s.hibernating = false → 45000 ≤ s.rf hold 47 32 → Does .hibReady s fun t =>
      t.rb st 5 = true ∧ t.rf hold 15 0 = 45000
      ∧ (s.boot.booting = false → s.boot.admission = false → s.boot.held = false → t.boot.admission = true)
      ∧ (s.boot.booting = true ∨ s.boot.admission = true → PowerOnly s t [st, hold] []))
    ∧ (s.boot.opened = false → s.rb (aClk 0x808) 10 = true → s.rb st 5 = false → s.mayOpen = false)
    ∧ (s.pwr.measuring = false → s.holdup = 1 → s.rb st 5 = true → Does .holdupTarget s fun t => t.holdup = 2
      ∧ t.rf hold 15 0 = s.rf hold 47 32 ∧ PowerOnly s t [st, hold] [])
    ∧ (∀ mv : BitVec 16, s.rb st 5 = true → s.rb st 1 = true → s.hibernating = false → mv.toNat < 45000 →
      Does (.holdupLow mv) s fun t => t.rb st 5 = false ∧ t.rf hold 15 0 = mv.toNat ∧ t.holdup ≠ 2
        ∧ PowerOnly s t [st, hold] [(217, 1)])
    ∧ (s.holdup = 1 ∨ s.holdup = 2 → (s.hibernating = false → Does .holdupShort s fun t => t.holdup = 3 ∧ t.rb st 5 = false
        ∧ t.pwr.measuring = false ∧ PowerOnly s t [st] [(217, 0)])
      ∧ (s.hibernating = true → Does .holdupShort s fun t => t = s))
    ∧ (s.pwr.bleeder = true → s.rb st 1 = true → s.rb st 2 = true → Does .holdupBleedDone s fun t => t.pwr.bleeder = false
      ∧ t.pwr.measuring = true ∧ t.holdup = 1 ∧ t.rf hold 15 0 < 10000 ∧ PowerOnly s t [st, hold] [])
    ∧ ((s.noSag = false → s.mayRemove = false → Does .vinLow s fun t => t.rb st 1 = false ∧ PowerOnly s t [st] [(218, 1)])
      ∧ (s.noSag = false → s.mayRemove = true → Does .vinLow s fun t => t.pwr.powered = false ∧ t.pwr.slotA = s.pwr.slotA
        ∧ t.pwr.slotB = s.pwr.slotB)
      ∧ (s.noSag = true → Does .vinLow s fun t => t = s))
    ∧ (s.pwr.powered = true → Does .vinHigh s fun t => t = s.raise 218 0)
    ∧ Does .vauxLow s fun t => t.rb st 0 = false ∧ PowerOnly s t [st] [(220, 0)]
      ∧ (s.hibernating = true → s.pwr.phase ≠ .off → s.pwr.cause = 1 → s.time.toNat ≤ s.pwr.stopTick.toNat + 400000 →
        t.pwr.surprise = true)

/-- Meters, sensors, rails and removal (R407, R415, R424, R425, R426): the period's average, each sensor's throttle level and the
level applied, TEMP_ALERT_N, a removal's start and its last steps, and a rail of a compute die that fails.

Clauses that rest on the model's own choices: log entries 6, 36 and 37. -/
def Obligations.PowerUnits : Prop :=
  ∀ (s : State),
    let st := aClk 0x800
    let raises (old top : Nat) : List (Nat × Nat) := if old < top then [(219, 0)] else []
    (∀ mv ma w : BitVec 16, s.pwr.powered = true → s.hibernating = false → Does (.powerPeriod mv ma w) s fun t =>
      let lvl := if s.rf (aClk 0x808) 9 0 < w.toNat then 1 else 0
      let top := s.pwr.levels.foldl (fun m e => max m e.2) lvl
      t.rf (aClk 0x818) 15 0 = mv.toNat ∧ t.rf (aClk 0x818) 31 16 = ma.toNat ∧ t.rf (aClk 0x818) 47 32 = w.toNat
      ∧ t.rf (aClk 0x818) 63 48 = max w.toNat (s.rf (aClk 0x818) 63 48) ∧ t.pwr.powerLevel = lvl
      ∧ (top < 4 → t.rf st 7 6 = top) ∧ PowerOnly s t [st, aClk 0x818] (raises (s.rf st 7 6) top))
    ∧ (∀ temps : List (BitVec 8), s.pwr.powered = true → s.hibernating = false →
      let absent (i : Nat) : Prop := 29 ≤ i ∨ (s.fuse.small = true ∧ (i = 4 ∨ i = 5 ∨ i = 10 ∨ i = 11))
      let r (i : Nat) : BitVec 8 := (s.readings temps).getD i 0
      let thr : Int := s.rf (aClk 0x828) 15 8
      let hot (lo : Nat) : Prop := ∃ i, i < 32 ∧ (lo : Int) ≤ (r i).toInt
      let old (i : Nat) : Nat := s.pwr.levels.get 0 i
      (∀ i, i < 32 → (absent i → r i = 0) ∧ (¬ absent i → r i = temps.getD i 0))
      ∧ (¬ hot (s.rf (aClk 0x828) 23 16) → Does (.thermalSample temps) s fun t =>
        (∀ i, i < 32 → let l := t.pwr.levels.get 0 i
          (thr + 5 ≤ (r i).toInt → l = 2)
          ∧ ((r i).toInt < thr + 5 → (old i = 2 → l = if (r i).toInt ≤ thr + 2 then 1 else 2)
            ∧ (old i = 1 → l = if (r i).toInt ≤ thr - 3 then 0 else 1) ∧ (old i = 0 → l = if thr ≤ (r i).toInt then 1 else 0)))
        ∧ (∀ i, i < 32 → BitVec.ofNat 8 (t.rf (aClk (0x830 + 8 * (i / 8))) (8 * (i % 8) + 7) (8 * (i % 8))) = r i)
        ∧ (let top := t.pwr.levels.foldl (fun m e => max m e.2) s.pwr.powerLevel
          (top < 4 → t.rf st 7 6 = top)
          ∧ ∃ alert, PowerOnly s t [st, aClk 0x830, aClk 0x838, aClk 0x840, aClk 0x848] (raises (s.rf st 7 6) top ++ alert)
            ∧ (alert = [(219, 2)] ↔ t.pwr.tempAlert = true ∧ s.pwr.tempAlert = false))
        ∧ (t.pwr.tempAlert = true ↔ hot (s.rf (aClk 0x828) 7 0))
        ∧ (t.pwr.tempAlert ≠ s.pwr.tempAlert → t.out = s.out ++ pinOut s (.pin "TEMP_ALERT_N" (!t.pwr.tempAlert))))
      ∧ (hot (s.rf (aClk 0x828) 23 16) → s.pwr.phase = .idle → s.holdup ≠ 3 → s.dpxState ≠ 6 →
        Does (.thermalSample temps) s fun t => t.pwr.phase = .stopped ∧ t.pwr.cause = 2 ∧ t.admits = false ∧ t.mem = {}))
    ∧ (∀ (w : Writer) (v : Word),
      let starts (t : State) : Prop := t.rf st 9 8 = 1 ∧ t.pwr.drain = .draining ∧ t.admits = false
      s.noSag = false → s.pwr.drain = .none →
        (s.dpxState = 0 → Does .attn s fun t => starts t ∧ PowerOnly s t [st] [(222, 0)])
        ∧ (s.dpxState = 2 → Does .attn s fun t => starts t ∧ ∃ more, raisedBy s t ((222, 0) :: more))
        ∧ (s.dpxState = 3 → Does .attn s fun t => starts t ∧ ∃ more, raisedBy s t ((222, 0) :: more) ∧ (198, 3) ∈ more)
        ∧ (Accepts s w (aClk 0x810) → (v.getLsbD 0 = true → Does (.removeReq w v 0xFF) s fun t => starts t)
          ∧ (v.getLsbD 0 = false → Does (.removeReq w v 0xFF) s fun t => Wrote s t [])))
    ∧ (s.noSag = true ∨ s.pwr.drain ≠ .none → Does .attn s fun t => t = s)
    ∧ (∀ expired, s.pwr.drain = .draining → s.dpxState ≠ 2 → s.dpxState ≠ 0 ∨ expired = true ∨ s.quiet = true →
      Does (.removeDrainEnd expired) s fun t =>
        let slot (u : State) : Option HibImage := if s.nextSlot then u.pwr.slotB else u.pwr.slotA
        t.rf st 9 8 = 2 ∧ t.pwr.drain = .done ∧ t.admits = false ∧ ⟨222, 1, s.time, false⟩ ∈ t.flt.queue ∧ t.mem = s.mem
        ∧ (s.pin.pinsHeld = false → .pin "REMOVE_OK" true ∈ t.out)
        ∧ (s.xchg.table = [] → s.host.wo = [] → slot t = slot s)
        ∧ (s.xchg.table ≠ [] ∨ s.host.wo ≠ [] → ∃ i, slot t = some i ∧ i.marker = true ∧ i.cause = 3
          ∧ i.seq = s.pwr.hibSeq + 1 ∧ i.stopTick = s.time ∧ t.rf (aClk 0x850) 2 0 = 3)
        ∧ (s.jrn.running = true → s.time.toNat ≤ s.jrn.nominal.toNat → s.jrn.marks = [] → s.sealRoom 3661 = true →
          ∃ k, t.jrn.seals.head? = some k ∧ k.sag = true ∧ k.stop = s.time ∧ k.epoch = s.rd (aJrn 0x110)))
    ∧ (∀ die : Fin 2, s.pwr.powered = true → s.hibernating = false → die.val ∉ s.pwr.railOff → Does (.railFault die) s fun t =>
      t.pwr.railOff = die.val :: s.pwr.railOff ∧ PowerOnly s t [] [(221, 0)])

/-- The Hibernate sequence (R44, R416, R417, R419, R421, R422, R425–R427): what a sag stops and keeps, the records and the seal
written, the image and PWR_HIB, a hold-up domain that collapses, and the power-on that follows.

Clauses that rest on the model's own choices: log entries 6 and 37. -/
def Obligations.Hibernate : Prop :=
  ∀ (s : State),
    let st := aClk 0x800
    (∀ (k : SagKind) (near : Bool), s.noSag = false → s.mayRemove = false → (k = SagKind.vaux → s.rb st 1 = true) →
      (s.holdup ≠ 3 → s.dpxState ≠ 6 → Does (.sag k near) s fun t =>
        t.pwr.phase = .stopped ∧ t.pwr.cause = 1 ∧ t.pwr.stopTick = s.time ∧ t.pwr.drain = .none
        ∧ (t.pwr.surprise = true ↔ k = SagKind.vaux ∨ near = true) ∧ t.rb st 10 = true ∧ t.rf st 9 8 = 0
        ∧ (k = SagKind.vin → t.rb st 1 = false) ∧ t.core = {} ∧ t.coh = {} ∧ t.mem = {} ∧ t.cry.reqs = [] ∧ t.cmp.reqs = []
        ∧ t.cmp.runs = [] ∧ t.lanternStopped = true ∧ t.admits = false ∧ t.mayStage = false
        ∧ (∀ e ∈ t.jrn.ring, e.acked = false → e.never = true) ∧ (∃ more, raisedBy s t ((216, 0) :: more))
        ∧ (s.boot.opened = true → s.jrn.running = true → s.time.toNat ≤ s.jrn.nominal.toNat → ∃ m, m.sag = true
          ∧ m.stop = s.time ∧ m.epoch = s.rd (aJrn 0x110) ∧ t.jrn.marks = s.jrn.marks ++ [m])
        ∧ (s.boot.opened = false → t.jrn.marks = s.jrn.marks))
      ∧ (s.holdup ≠ 3 → s.dpxState = 6 → Does (.sag k near) s fun t => t.pwr.phase = .waitPromote ∧ t.core = s.core
        ∧ t.mem = s.mem ∧ t.jrn = s.jrn)
      ∧ (s.holdup = 3 → Does (.sag k near) s fun t => t.pwr.powered = false ∧ t.core = {} ∧ t.mem = {}
        ∧ (∀ e ∈ t.jrn.ring, e.written = true ∧ ∃ e0 ∈ s.jrn.ring, e0.written = true ∧ e0.r = e.r)))
    ∧ (∀ (k : SagKind) (near : Bool), s.noSag = true → Does (.sag k near) s fun t => t = s)
    ∧ (∀ (k : SagKind) (near : Bool), s.noSag = false → s.mayRemove = true → (k = SagKind.vaux → s.rb st 1 = true) →
      (k = SagKind.vin → Does (.sag k near) s fun t => t.pwr.powered = false ∧ t.pwr.phase = .idle
        ∧ t.pwr.slotA = s.pwr.slotA ∧ t.pwr.slotB = s.pwr.slotB)
      ∧ (k ≠ SagKind.vin → Does (.sag k near) s fun t => t.rb st 10 = true ∧ PowerOnly s t [st] [(216, 0)]))
    ∧ (s.pwr.phase = .stopped →
      (s.boot.opened = true → Does .hibernateRecordsWritten s fun t => t.pwr.phase = .records ∧ t.mem = s.mem
        ∧ (∀ e ∈ t.jrn.ring, e.r.kind ≠ 3 → e.written = true) ∧ t.pwr.slotA = s.pwr.slotA ∧ t.pwr.slotB = s.pwr.slotB)
      ∧ (s.boot.opened = false → Does .hibernateRecordsWritten s fun t => t.pwr.powered = false ∧ t.pwr.phase = .off
        ∧ t.rb (aClk 0x850) 4 = false ∧ t.pwr.slotA = s.pwr.slotA ∧ t.pwr.slotB = s.pwr.slotB))
    ∧ (s.pwr.phase = .records → Does .hibernateSealWritten s fun t => t.pwr.phase = .sealed
      ∧ (s.jrn.marks = [] → ∀ e ∈ t.jrn.ring, e.written = true)
      ∧ ∀ i, (if s.nextSlot then t.pwr.slotB else t.pwr.slotA) = some i → i.marker = false)
    ∧ (∀ (ticks : BitVec 24) (mj : BitVec 16), s.pwr.phase = .sealed → Does (.hibernateImageWritten ticks mj) s fun t =>
      let h := aClk 0x850
      t.pwr.phase = .off ∧ t.pwr.powered = false ∧ t.rf h 31 8 = ticks.toNat ∧ t.rf h 47 32 = mj.toNat ∧ t.rb h 4 = true
      ∧ t.rb h 3 = s.nextSlot ∧ (s.pwr.cause < 8 → t.rf h 2 0 = s.pwr.cause) ∧ t.rb h 5 = s.pwr.surprise
      ∧ ∃ i, (if s.nextSlot then t.pwr.slotB else t.pwr.slotA) = some i ∧ i.marker = true ∧ i.cause = s.pwr.cause
        ∧ i.seq = s.pwr.hibSeq + 1 ∧ i.stopTick = s.pwr.stopTick ∧ i.nextJsn = s.rd (aJrn 0x10) ∧ i.host = s.host
        ∧ i.parts = s.parts ∧ i.xchg = s.xchg ∧ i.surprise = s.pwr.surprise)
    ∧ (s.pwr.phase = .stopped ∨ s.pwr.phase = .records ∨ s.pwr.phase = .sealed → Does .holdupCollapse s fun t =>
      t.pwr.phase = .off ∧ t.pwr.powered = false ∧ t.rb (aClk 0x850) 4 = false ∧ t.pwr.slotA = s.pwr.slotA
      ∧ t.pwr.slotB = s.pwr.slotB ∧ ∀ e ∈ t.jrn.ring, ∃ e0 ∈ s.jrn.ring, e0.written = true ∧ e0.r = e.r)
    ∧ (∀ (x : Straps) (temps : List (BitVec 8)),
      let on (t : State) : Prop := t.pwr.powered = true ∧ t.pwr.phase = .idle ∧ t.rf (aClk 0x408) 3 0 = 1
        ∧ t.rb (aClk 0x408) 16 = x.split ∧ t.rb (aClk 0x408) 17 = x.role ∧ t.rf (aClk 0x408) 19 18 = x.boot.toNat
        ∧ t.rf (aClk 0x410) 3 0 = 0 ∧ t.rb st 1 = true ∧ t.rb st 2 = true ∧ t.pwr.slotA = s.pwr.slotA
        ∧ t.pwr.slotB = s.pwr.slotB ∧ t.mem = {} ∧ t.admits = false
      (s.pwr.phase = .off → s.pwr.cause ≠ 2 → Does (.vinReturnResume x) s on)
      ∧ (s.pwr.phase = .off → s.pwr.cause = 2 → (Does (.vinReturnResume x) s fun t => t = s)
        ∧ ((∀ i, i < 13 → ((s.readings temps).getD (16 + i) 0).toInt < (s.rf (aClk 0x828) 31 24 : Int)) →
          Does (.overtempResume temps x) s on)
        ∧ ((∃ i, i < 13 ∧ (s.rf (aClk 0x828) 31 24 : Int) ≤ ((s.readings temps).getD (16 + i) 0).toInt) →
          Does (.overtempResume temps x) s fun t => t = s)))

/-! ## Reset, boot and management -/

/-- Boot (R389, R427, R429, R431–R436, R439–R441, R144): power good, and what the end of each stage does; boot that fails, and a
recovery message.

Clauses that rest on the model's own choices: log entries 6, 32, 38 and 39. -/
def Obligations.Boot : Prop :=
  ∀ (s : State),
    let b := aClk 0x410
    let rejects (l : List (Option FwImage)) : List (Nat × Nat) := l.filterMap fun i => if s.fwOk i then none else some (254, 0)
    (∀ x : Straps, s.rb (aClk 0x800) 0 = true → s.rb (aClk 0x800) 2 = true → s.pwr.powered = false ∨ s.rf b 3 0 = 0 →
      Does (.powerGood x) s fun t => t.pwr.powered = true ∧ t.rf b 3 0 = 0 ∧ t.rf (aClk 0x408) 3 0 = 1
        ∧ t.rb (aClk 0x408) 16 = x.split ∧ t.rb (aClk 0x408) 17 = x.role ∧ t.rf (aClk 0x408) 19 18 = x.boot.toNat
        ∧ t.mem = {} ∧ t.core = {} ∧ t.admits = false ∧ ∀ e ∈ t.jrn.ring, ∃ e0 ∈ s.jrn.ring, e0.written = true ∧ e0.r = e.r)
    ∧ (∀ (ms : BitVec 32) (f : BootFacts),
      let stage (k : Nat) (P : State → Prop) : Prop := s.pwr.powered = true → s.boot.booting = true → s.boot.recovering = false →
        s.rb b 7 = false → s.hibernating = false → s.flt.reset = none → s.rf b 3 0 + 1 = k → Does (.bootStageDone ms f) s P
      let done (t : State) (k : Nat) : Prop := t.rf b 3 0 = k ∧ t.rf b 47 16 = ms.toNat
      (s.pwr.powered = false ∨ s.boot.booting = false ∨ s.boot.recovering = true ∨ s.rb b 7 = true ∨ s.hibernating = true
        ∨ s.flt.reset.isSome = true → Does (.bootStageDone ms f) s fun t => t = s)
      ∧ (s.dpx.mirror = [] → s.dpx.partnerSeals = [] → stage 1 fun t => done t 1 ∧ t.now = t.nowStage
        ∧ (s.jrn.ring = [] → s.jrn.seals = [] → t.now = 0)
        ∧ (∀ n : Nat, n < 2 ^ 64 → (∀ e ∈ s.jrn.ring, e.r.stamp.toNat < n) → (∀ k ∈ s.jrn.seals, k.stop.toNat < n) →
          ((∃ e ∈ s.jrn.ring, e.r.stamp.toNat + 1 = n) ∨ (∃ k ∈ s.jrn.seals, k.stop.toNat + 1 = n)) → t.now.toNat = n)
        ∧ (s.rb (aClk 0x408) 18 = true → t.boot.recovering = true)
        ∧ (s.rb (aClk 0x408) 18 = false →
          (∃ w, raisedBy { s with nowStage := w } t (rejects [s.boot.bankA, s.boot.bankB]))
          ∧ (s.fwOk s.boot.bankA = true → (s.fwOk s.boot.bankB = true → fwRev s.boot.bankB ≤ fwRev s.boot.bankA) →
            t.rb b 5 = false ∧ t.rf 0x68 31 0 = fwRev s.boot.bankA)
          ∧ (s.fwOk s.boot.bankB = true → (s.fwOk s.boot.bankA = true → fwRev s.boot.bankA < fwRev s.boot.bankB) →
            t.rb b 5 = true ∧ t.rf 0x68 31 0 = fwRev s.boot.bankB)
          ∧ (s.fwOk s.boot.bankA = false → s.fwOk s.boot.bankB = false →
            (s.rb (aClk 0x408) 19 = true → t.boot.recovering = true)
            ∧ (s.rb (aClk 0x408) 19 = false → t.rb b 7 = true ∧ t.boot.recovering = false))))
      ∧ stage 2 (fun t => done t 2 ∧ t.rb 0x204020 0 = true ∧ t.flt.armed = true ∧ t.flt.early = []
        ∧ t.flt.queue = s.flt.queue ++ s.flt.early ∧ t.out = s.out ++ pinOut s (.pin "LANTERN" true)
        ∧ ∀ i, i < 256 → fltReserved i = false → t.rd (aFlt i 0x38) = s.time)
      ∧ stage 3 (fun t => done t 3 ∧ t.mem = s.mem
        ∧ (s.boot.patch = none → t.core.ucode = s.core.ucode)
        ∧ (s.stagingUsed + 512 ≤ 0x3F0000 → s.ringUsed + 8 ≤ 520192 → t.rb (aUcs 0x10) 33 = true))
      ∧ stage 4 (fun t => done t 4 ∧ RegsOnly s t [b, aClk 0] ∧ t.rf (aClk 0) 5 2 = 15
        ∧ t.rf (aClk 0) 39 8 = if s.fuse.small then 0xFFFF else 0xFFFFFFFF)
      ∧ stage 5 (fun t =>
        (f.hbm0 = true → f.hbm1 = true → done t 5 ∧ t.mem = {} ∧ t.rf 0x900008 9 8 = 3 ∧ t.out = s.out)
        ∧ (f.hbm0 = false ∨ f.hbm1 = false → t.rf b 3 0 = 4 ∧ t.rb b 7 = true ∧ t.lanternStopped = true
          ∧ (s.lanternStopped = false → t.rf 0x204020 19 16 = 4) ∧ t.mem = s.mem))
      ∧ stage 6 (fun t => done t 6 ∧ RegsOnly s t [b])
      ∧ stage 7 (fun t => t.boot.savedParts = s.boot.savedParts)
      ∧ (∀ i : HibImage, s.pwr.slotA = some i → i.marker = true → i.ident = s.fuse.ident →
        (∀ j, s.pwr.slotB = some j → j.marker = true → j.seq.toNat ≤ i.seq.toNat) → stage 8 fun t => done t 8
          ∧ t.rb b 6 = true ∧ t.boot.held = true ∧ t.boot.ref = i.stopTick ∧ t.rd (aDpx 0x30) = i.nextMsn
          ∧ (t.rd (aJrn 0x10)).toNat = max (s.rd (aJrn 0x10)).toNat i.nextJsn.toNat
          ∧ (s.rf (aClk 0x408) 3 0 = 1 → t.rf (aClk 0x408) 3 0 = 2)
          ∧ (∀ x ∈ t.xchg.table, x.2.inbound = false ∧ x.2.restored = true) ∧ t.mem = s.mem
          ∧ (∀ q ∈ t.host.qps, q.2.mode = .frozen ∨ q.2.mode = .disabled) ∧ t.pwr = s.pwr
          ∧ raisedBy s t (if i.surprise then [(222, 2)] else []))
      ∧ ((∀ i, s.pwr.slotA = some i ∨ s.pwr.slotB = some i → i.marker = false) → stage 8 fun t => done t 8
        ∧ t.host = s.host ∧ t.xchg = s.xchg ∧ t.rb b 6 = s.rb b 6 ∧ t.mem = s.mem)
      ∧ stage 9 (fun t => done t 9 ∧ t.jrn.running = true ∧ t.rb (aJrn 0x108) 0 = true ∧ t.mem = s.mem
        ∧ (s.jrn.seals = [] → ∃ k, t.jrn.seals = [k] ∧ k.genesis = true ∧ k.start = s.time ∧ k.stop = s.time ∧ k.epoch = 0
          ∧ k.records = 0 ∧ t.rd (aJrn 0x110) = 1 ∧ t.rd (aJrn 0x118) = s.time)
        ∧ (∀ k l, s.jrn.seals = k :: l → t.jrn.seals = s.jrn.seals ∧ t.jrn.resumed = true ∧ t.rd (aJrn 0x110) = k.epoch + 1
          ∧ t.rd (aJrn 0x118) = k.stop))
      ∧ (s.boot.savedParts = [] → s.boot.held = false → s.boot.admission = false → stage 10 fun t => done t 10
        ∧ t.boot.booting = false
        ∧ (s.rb (aClk 0x800) 5 = true ∨ s.rb (aClk 0x808) 10 = false → t.boot.admission = true)
        ∧ (s.rb (aClk 0x800) 5 = false → s.rb (aClk 0x808) 10 = true → s.boot.opened = false → t.boot.admission = false)))
    ∧ (∀ img : RecImage, s.boot.recovering = true → s.pwr.powered = true → (s.mb (.pf 0)).state = .posted →
      let keep := ((s.mb (.pf 0)).msg.get 0 2).getLsbD 0
      let answers (t : State) (st : BitVec 8) : Prop := (t.mb (.pf 0)).state = .done ∧ (t.mb (.pf 0)).ackStatus = st
      (img.image = none → Does (.recoveryMessage img) s fun t => answers t St.hostReadFault ∧ t.boot = s.boot)
      ∧ (∀ i, img.image = some i → (s.mb (.pf 0)).len = 24 → img.lengthOk = true → (s.mb (.pf 0)).msg.get 0 2 &&& ~~~1 = 0 →
        s.fwHeaderOk i = true →
        (i.sigsOk = false → Does (.recoveryMessage img) s fun t => answers t St.verifyFailed ∧ t.boot = s.boot)
        ∧ (i.sigsOk = true → Does (.recoveryMessage img) s fun t => answers t St.ok ∧ t.boot.recovering = false
          ∧ t.rb b 4 = true ∧ t.rf 0x68 31 0 = i.rev.toNat
          ∧ (keep = false → t.boot.bankA = s.boot.bankA ∧ t.boot.bankB = s.boot.bankB)
          ∧ (keep = true → fwRev s.boot.bankB < fwRev s.boot.bankA → t.boot.bankB = some i ∧ t.boot.bankA = s.boot.bankA)
          ∧ (keep = true → fwRev s.boot.bankA < fwRev s.boot.bankB → t.boot.bankA = some i ∧ t.boot.bankB = s.boot.bankB)))
      ∧ (∀ i, img.image = some i → img.lengthOk = false ∨ s.fwHeaderOk i = false → Does (.recoveryMessage img) s fun t =>
        answers t St.invalidField ∧ t.boot = s.boot))

/-- Module reset, pair reset and management accesses (R3, R26, R199, R221, R394, R407, R424, R427–R429, R444, R445, R454, R470):
what a module reset keeps, RST_CTL, the end of a pair's reset, a write of any register, of a function page and of MSI-X control,
and the reads that clear.

Clauses that rest on the model's own choices: log entries 6, 8, 9, 40 and 44. -/
def Obligations.ResetsAndManagement : Prop :=
  ∀ (s : State),
    (∀ (x : Straps) (cause src : Nat), s.flt.reset = some (cause, src) → s.pwr.phase = .idle → s.pwr.powered = true →
      s.resetSealed = true ∨ (∃ a e t, s.flt.log = some (a, e, t) ∧ t.toNat + 800000 ≤ s.time.toNat) →
      cause < 16 → src < 256 → Does (.moduleResetBegin x) s fun t =>
        let c := aClk 0x408
        t.rf c 3 0 = cause ∧ t.rf c 15 8 = src ∧ t.rf c 63 32 = min (s.rf c 63 32 + 1) 0xFFFFFFFF ∧ t.rb c 16 = x.split
        ∧ t.rb c 17 = x.role ∧ t.rf c 19 18 = x.boot.toNat ∧ t.rf (aClk 0x410) 3 0 = 0 ∧ t.mem = {} ∧ t.core = {} ∧ t.coh = {}
        ∧ t.flt.reset = none ∧ t.admits = false ∧ t.boot.booting = true ∧ t.pwr.slotA = s.pwr.slotA ∧ t.pwr.slotB = s.pwr.slotB
        ∧ (∀ e ∈ t.jrn.ring, e.written = true) ∧ (∀ e ∈ s.jrn.ring, ∃ e1 ∈ t.jrn.ring, e1.r = e.r))
    ∧ (∀ x : Straps, s.flt.reset = none → Does (.moduleResetBegin x) s fun t => t = s)
    ∧ (∀ (w : Writer) (v : Word), Accepts s w (aClk 0x400) →
      let p := fld v 13 8
      (v.getLsbD 0 = false → v.getLsbD 16 = false → Does (.moduleReset w v 0xFF) s (fun t => Wrote s t [aClk 0x400]
        ∧ t.rf (aClk 0x400) 13 8 = p) ∧ Does (.pairGo w v 0xFF) s fun t => Wrote s t [aClk 0x400])
      ∧ (v.getLsbD 0 = true → v.getLsbD 16 = false → s.flt.reset = none → Does (.moduleReset w v 0xFF) s fun t =>
        t.flt.reset = some (3, 0) ∧ t.admits = false ∧ t.mayStage = false ∧ t.lanternStopped = true ∧ t.mem = s.mem)
      ∧ (v.getLsbD 0 = false → v.getLsbD 16 = true → s.pairPresent p = true → p ∉ s.core.resetting →
        s.rf (aPair p 0) 1 0 = 0 ∨ s.rf (aPair p 0) 1 0 = 2 → Does (.pairGo w v 0xFF) s fun t =>
          t.core = { s.core with resetting := s.core.resetting ++ [p] } ∧ t.mem = s.mem)
      ∧ (v.getLsbD 0 = false → v.getLsbD 16 = true → s.rf (aPair p 0) 1 0 = 1 → s.rf (aPair p 0) 13 8 ≠ 0 →
        s.partState (s.rf (aPair p 0) 13 8) ≠ 4 → Does (.pairGo w v 0xFF) s fun t => t.core = s.core ∧ t.mem = s.mem))
    ∧ (∀ p : Fin 48, p.val ∈ s.core.resetting → (s.l2 p).miss = [] → (s.l2 p).wb = [] → (s.l2 p).wfull = [] →
      (∀ t ∈ (s.l2 p).lines, s.coh.txn.find t.1 = none) → s.pwr.powered = true → s.hibernating = false →
      s.rf (aPair p 0) 1 0 ≠ 1 → Does (.pairResetDone p) s fun t =>
        p.val ∉ t.core.resetting ∧ t.proc (2 * p) = {} ∧ t.proc (2 * p + 1) = {} ∧ t.l2 p = {} ∧ t.rd (aPair p 0x18) = 0
        ∧ t.rd (aPair p 0x20) = 0 ∧ t.rd (aPair p 0x28) = 0 ∧ (s.rf (aPair p 8) 2 0 ≠ 4 → t.rf (aPair p 8) 4 0 = 5)
        ∧ ∀ k, k ≠ 2 * p.val → k ≠ 2 * p.val + 1 → t.proc k = s.proc k)
    ∧ (∀ (w : Writer) (a : BitVec 28) (v : Word) (be : Byte),
      (s.hibernating = true ∨ s.pwr.powered = false ∨ s.changeRoom = false ∨ a.toNat % 8 ≠ 0 →
        Does (.mgmtWrite w (.reg a) v be) s fun t => t = s)
      ∧ (s.hibernating = false → s.pwr.powered = true → s.changeRoom = true → s.reaches w = true → a.toNat % 8 = 0 →
        (s.absent a.toNat = true → Does (.mgmtWrite w (.reg a) v be) s fun t => Wrote s t [] ∧ raisedBy s t [(250, 0)])
        ∧ (s.absent a.toNat = false → regFind a.toNat = none → Does (.mgmtWrite w (.reg a) v be) s fun t => Wrote s t []
          ∧ raisedBy s t [(250, 1)])
        ∧ (a.toNat = aClk 0x828 → s.rb (aClk 0x808) 32 = false → Does (.mgmtWrite w (.reg a) v 0xFF) s fun t =>
          Wrote s t [aClk 0x828]
          ∧ (fld v 31 24 < fld v 7 0 → fld v 7 0 ≤ fld v 15 8 → fld v 15 8 + 5 < fld v 23 16 → fld v 23 16 ≤ 115 →
            t.rf (aClk 0x828) 31 0 = fld v 31 0)
          ∧ (¬ (fld v 31 24 < fld v 7 0 ∧ fld v 7 0 ≤ fld v 15 8 ∧ fld v 15 8 + 5 < fld v 23 16 ∧ fld v 23 16 ≤ 115) →
            t.rd (aClk 0x828) = s.rd (aClk 0x828)))
        ∧ (a.toNat = aClk 0x808 → s.fuse.small = false → s.boot.booting = true →
          Does (.mgmtWrite w (.reg a) v 0xFF) s fun t => Wrote s t [aClk 0x808]
            ∧ t.rf (aClk 0x808) 9 0 = (if 600 ≤ fld v 9 0 ∧ fld v 9 0 ≤ 840 then fld v 9 0 else s.rf (aClk 0x808) 9 0)
            ∧ t.rb (aClk 0x808) 10 = (if s.rb (aClk 0x808) 32 then s.rb (aClk 0x808) 10 else v.getLsbD 10)
            ∧ t.rb (aClk 0x808) 32 = (s.rb (aClk 0x808) 32 || v.getLsbD 32))))
    ∧ (∀ (w : Writer) (port : Fin 2) (fn : Fin 64) (qp : Fin 16) (v : Word) (at_ : MTgt) (o : BitVec 16), at_ = .page port fn o →
      s.hostUp port = true → s.fnHere port fn = true →
      let r := s.qp port fn qp
      (o.toNat = 0x40 * qp.val → r.mode ≠ .disabled → Does (.mgmtWrite w at_ v 0xFF) s fun t => t = s)
      ∧ (o.toNat = 0x40 * qp.val → r.mode = .disabled → Does (.mgmtWrite w at_ v 0xFF) s fun t =>
        t = s.setQp port fn qp { r with sqBase := (r.sqBase &&& ~~~ (maskOf 63 12)) ||| (v &&& maskOf 63 12) })
      ∧ (o.toNat = 0x40 * qp.val + 8 → r.mode = .disabled → Does (.mgmtWrite w at_ v 0xFF) s fun t =>
        t = s.setQp port fn qp { r with cqBase := (r.cqBase &&& ~~~ (maskOf 63 12)) ||| (v &&& maskOf 63 12) }))
    ∧ (∀ (w : Writer) (port : Fin 2) (fn : Fin 64) (v : Word), s.hostUp port = true → s.fnHere port fn = true →
      Does (.mgmtWrite w (.msixCtl port fn) v 0xFF) s fun t => t.regs = s.regs ∧ t.mem = s.mem
        ∧ (t.host.msix.get {} (fnKey port fn)).enabled = v.getLsbD 15 ∧ (t.host.msix.get {} (fnKey port fn)).fnMask = v.getLsbD 14)
    ∧ (s.hibernating = false → s.pwr.powered = true →
      (∀ q : Fin 64, q.val ≠ 0 → let a := aPart q 0x38
        Does (.partBpRead q 0xFF) s fun t => t.out = s.out ++ [.readData (s.peek a)] ∧ t.rf a 47 0 = 0
          ∧ RegsOnly { s with out := t.out } t [a])
      ∧ Does (.pwrVinRead 0xFF) s fun t => t.out = s.out ++ [.readData (s.peek (aClk 0x818))] ∧ t.rf (aClk 0x818) 63 48 = 0
        ∧ t.rf (aClk 0x818) 47 0 = s.rf (aClk 0x818) 47 0 ∧ RegsOnly { s with out := t.out } t [aClk 0x818])

/-- The fault registers at a reset (R400): a module reset brings every FLT register to its reset value, with STATUS, TOTAL and
LAST of each source kept; a power-on, one after a Hibernate too, brings every one to its reset value. -/
def Obligations.FaultRegistersAtReset : Prop :=
  ∀ (s : State) (x : Straps) (temps : List (BitVec 8)),
    let flt (a : Nat) : Prop := 0x200000 ≤ a ∧ a < 0x204000 + 0x30
    let source (a : Nat) : Prop := a < 0x204000
    let o (a : Nat) : Nat := a % 0x40
    let initial (t : State) (a : Nat) : Prop := t.rd a = regReset s.fuse.small a
    (∀ cause src : Nat, s.flt.reset = some (cause, src) → s.pwr.phase = .idle → s.pwr.powered = true → s.resetSealed = true →
      Does (.moduleResetBegin x) s fun t => ∀ a, flt a →
        (source a → o a = 0 ∨ o a = 0x30 → t.rd a = s.rd a)
        ∧ (source a → o a = 0x18 → t.rf a 63 32 = s.rf a 63 32 ∧ t.rf a 31 0 = fld (regReset s.fuse.small a) 31 0)
        ∧ (source a → o a ≠ 0 → o a ≠ 0x30 → o a ≠ 0x18 → initial t a) ∧ (¬ source a → initial t a))
    ∧ (s.rb (aClk 0x800) 0 = true → s.rb (aClk 0x800) 2 = true → s.pwr.powered = false ∨ s.rf (aClk 0x410) 3 0 = 0 →
      Does (.powerGood x) s fun t => ∀ a, flt a → initial t a)
    ∧ (s.pwr.phase = .off → s.pwr.cause ≠ 2 → Does (.vinReturnResume x) s fun t => ∀ a, flt a → initial t a)
    ∧ (s.pwr.phase = .off → s.pwr.cause = 2 →
      (∀ i, i < 13 → ((s.readings temps).getD (16 + i) 0).toInt < (s.rf (aClk 0x828) 31 24 : Int)) →
      Does (.overtempResume temps x) s fun t => ∀ a, flt a → initial t a)

/-! ## Pins -/

/-- The I3C telemetry target and the test access port (R398, R450, R459, R462–R464): private writes and reads, dynamic addresses,
the CCCs that return bytes or are accepted without effect, and each instruction of the port.

Clauses that rest on the model's own choices: log entries 6, 8 and 41. -/
def Obligations.Pins : Prop :=
  ∀ (s : State),
    let vaux := s.rb (aClk 0x800) 0
    let bytes (l : Bytes) : List Out := l.map fun x => .i3cByte x
    (∀ (a da : BitVec 7) (d : Bytes) (n : Nat) (ev : Byte) (who : Option (BitVec 7)),
      let ours := vaux = true ∧ s.pin.dynAddr = some a
      (¬ ours → (Does (.i3cPrivateWrite a d true) s fun t => t = s) ∧ (Does (.i3cPrivateRead a n) s fun t => t = s)
        ∧ (Does (.setnewda a da) s fun t => t = s) ∧ (Does (.getpid a) s fun t => t = s) ∧ Does (.getstatus a) s fun t => t = s)
      ∧ (ours → (∀ x y, d = x :: y → Does (.i3cPrivateWrite a d true) s fun t =>
            t = { s with pin := { s.pin with index := x.toNat } })
        ∧ (Does (.i3cPrivateWrite a d false) s fun t => t = s.raise 251 0)
        ∧ (∀ i, s.pin.index = i → i < 256 → Does (.i3cPrivateRead a 8) s fun t =>
          let reg : Option Nat := [0x0, 0x8, 0x10, aClk 0x800, aClk 0x818, aClk 0x820, aClk 0x830, aClk 0x838, aClk 0x840,
            aClk 0x848, aClk 0x850, aClk 0x410, aDpx 0x10, 0x204020][i]?
          t.pin.index = (i + 1) % 256
          ∧ (∀ r, reg = some r → s.pwr.powered = true ∨ i < 6 ∨ i = 0xA ∨ i = 0xD →
            t.out = s.out ++ bytes (leBytes 8 (s.peek r).toNat))
          ∧ (reg = none ∨ (s.pwr.powered = false ∧ ((6 ≤ i ∧ i ≤ 9) ∨ i = 0xB ∨ i = 0xC)) →
            t.out = s.out ++ bytes (List.replicate 8 0))
          ∧ t = { s with out := t.out, pin := t.pin })
        ∧ (Does (.setnewda a da) s fun t => t = { s with pin := { s.pin with dynAddr := some da } })
        ∧ (Does (.rstdaa (some a)) s fun t => t = { s with pin := { s.pin with dynAddr := none } })
        ∧ (Does (.getpid a) s fun t => ∃ l, l.length = 6 ∧ t = { s with out := s.out ++ bytes l }
          ∧ l.drop 2 = (leBytes 4 (s.fuse.ident.toNat % 2 ^ 32)).reverse ∧ (l.getD 1 0).getLsbD 0 = true)
        ∧ (Does (.getbcr a) s fun t => ∃ x : Byte, x.getLsbD 1 = false ∧ x.toNat / 64 = 0
          ∧ t = { s with out := s.out ++ bytes [x] })
        ∧ (Does (.getdcr a) s fun t => ∃ x, t = { s with out := s.out ++ bytes [x] })
        ∧ (Does (.getstatus a) s fun t => ∃ l, l.length = 2 ∧ t = { s with out := s.out ++ bytes l, free := t.free })
        ∧ (Does (.getmwl a) s fun t => ∃ l, l.length = 2 ∧ t = { s with out := s.out ++ bytes l })
        ∧ (Does (.getmrl a) s fun t => ∃ l, l.length = 2 ∧ t = { s with out := s.out ++ bytes l }))
      ∧ (vaux = true → (Does (.rstdaa none) s fun t => t = { s with pin := { s.pin with dynAddr := none } })
        ∧ (s.pin.dynAddr = none → (Does (.setdasa 0x2C da) s fun t => t = { s with pin := { s.pin with dynAddr := some da } })
          ∧ (Does (.entdaa da true) s fun t => ∃ l, l.length = 8
            ∧ t = { s with out := s.out ++ bytes l, pin := { s.pin with dynAddr := some da } })
          ∧ Does (.entdaa da false) s fun t => t = s)
        ∧ (s.pin.dynAddr ≠ none → (Does (.setdasa 0x2C da) s fun t => t = s) ∧ Does (.entdaa da true) s fun t => t = s))
      ∧ (a ≠ 0x2C → Does (.setdasa a da) s fun t => t = s)
      ∧ (Does (.enec who ev) s fun t => t = s) ∧ Does (.disec who ev) s fun t => t = s)
    ∧ (vaux = true → Does .tapActive s fun t =>
        t = { s with pin := { s.pin with tapActive := true, tapInstr := 2 } }.raise 252 0)
    ∧ (s.pin.tapActive = true → ∀ (x : List Bool),
      let takes (t : State) (i : Nat) (b : List Bool) : Prop := t.lanternStopped = true ∧ t.pin.pinsHeld = true
        ∧ t.pin.tapInstr = i ∧ t.pin.boundary = b ∧ t.mem = s.mem
        ∧ (s.lanternStopped = false → t.rf 0x204020 15 8 = 252 ∧ t.rf 0x204020 19 16 = 0)
        ∧ (s.lanternStopped = true → t = { s with pin := t.pin })
      (Does .bypass s fun t => t = { s with pin := { s.pin with tapInstr := 0 } })
      ∧ (Does (.samplePreload x) s fun t => ∃ y, y.length = x.length
        ∧ t = { s with free := t.free, out := s.out ++ [.tapScan y], pin := { s.pin with tapInstr := 1, boundary := x } })
      ∧ (Does .idcode s fun t => ∃ y, y.length = 32 ∧ y.head? = some true
        ∧ (∀ k, k < 16 → y.getD (12 + k) false = (if s.fuse.small then (0x6432 : Word) else 0x9648).getLsbD k)
        ∧ (∀ k, k < 4 → y.getD (28 + k) false = s.fuse.stepping.getLsbD k)
        ∧ t = { s with out := s.out ++ [.tapScan y], pin := { s.pin with tapInstr := 2 } })
      ∧ (Does (.extest x) s fun t => takes t 3 x) ∧ (Does .clamp s fun t => takes t 4 s.pin.boundary)
      ∧ Does .highz s fun t => takes t 5 s.pin.boundary)
    ∧ (s.pin.tapActive = false → ∀ (x : List Bool), (Does .bypass s fun t => t = s) ∧ (Does (.samplePreload x) s fun t => t = s)
      ∧ (Does .idcode s fun t => t = s) ∧ (Does (.extest x) s fun t => t = s) ∧ (Does .clamp s fun t => t = s)
      ∧ Does .highz s fun t => t = s)

/-! ## Reset and the whole machine -/

/-- The block right after power-on (R402, R407, R411, R424, R427, R432): no command waits, RST_CAUSE reads 1, boot has
completed no stage and admission is closed, the power, fault, Ledger and journal registers hold the reset values of their
tables, and memory is in its canonical form.

Clauses that rest on the model's own choices: log entry 4. -/
def Obligations.ResetState : Prop :=
  let s := State.reset
  s.pending = [] ∧ s.rf (aClk 0x408) 3 0 = 1 ∧ s.rf (aClk 0x410) 7 0 = 0 ∧ s.admits = false ∧ s.lanternStopped = false
  ∧ s.rf (aClk 0x808) 9 0 = 790 ∧ s.rb (aClk 0x808) 10 = true ∧ s.rf (aClk 0x808) 31 16 = 1000
  ∧ s.rf (aClk 0x828) 7 0 = 95 ∧ s.rf (aClk 0x828) 15 8 = 100 ∧ s.rf (aClk 0x828) 23 16 = 110 ∧ s.rf (aClk 0x828) 31 24 = 85
  ∧ s.rd (aClk 0x800) = 0 ∧ s.dpxState = 0 ∧ s.rf (aJrn 0x100) 28 0 = 400000
  ∧ s.rf (aFlt 48 0x18) 15 8 = 64 ∧ s.rf (aFlt 248 0x28) 12 8 = 0x18 ∧ s.rf (aFlt 0 0x20) 4 0 = 29
  ∧ Memory.wf s.mem.words = true

/-- Memory keeps its canonical form: from every state whose memory lists its words in rising order, none of them equal to what
an unlisted word reads as, every step leads to one whose memory does.

Clauses that rest on the model's own choices: log entry 10. -/
def Obligations.MemoryFormKept : Prop :=
  ∀ s t : State, Memory.wf s.mem.words = true → step s = .next t → Memory.wf t.mem.words = true

/-- What is fixed at manufacture stays (R1, R449, R450): no step changes the variant, the stepping, the module identity or
a fuse value.

Clauses that rest on the model's own choices: log entry 3. -/
def Obligations.IdentityKept : Prop :=
  ∀ s t : State, step s = .next t → t.fuse = s.fuse
end

