-- ==== Sys2Proof/Laws/Table.lean ====
section
/-!
SUPPORT. Laws of the sparse table: what a read gives after a write or a deletion, and that the operations keep the keys
rising and the canonical form.
-/
namespace Sys2Proof

/-- A read after a write of an entry. -/
@[simp] theorem Tbl.get_set {α : Type} (t : Tbl α) (d : α) (k : Nat) (v : α) (j : Nat) :
    Tbl.get (Tbl.set t k v) d j = if j = k then v else Tbl.get t d j := by
  induction t with
  | nil => by_cases h : j = k <;> simp [Tbl.set, Tbl.get, h]
  | cons e t ih =>
    obtain ⟨k', v'⟩ := e
    unfold Tbl.set
    split
    · by_cases h : j = k <;> simp [Tbl.get, h]
    · split
      · subst_vars; by_cases h : j = k' <;> simp [Tbl.get, h]
      · simp only [Tbl.get, ih]
        by_cases h : j = k'
        · subst h; rename_i _ h2; simp [show ¬ j = k from fun e => h2 e.symm]
        · simp [h]

/-- A search after a write of an entry. -/
@[simp] theorem Tbl.find_set {α : Type} (t : Tbl α) (k : Nat) (v : α) (j : Nat) :
    Tbl.find (Tbl.set t k v) j = if j = k then some v else Tbl.find t j := by
  induction t with
  | nil => by_cases h : j = k <;> simp [Tbl.set, Tbl.find, h]
  | cons e t ih =>
    obtain ⟨k', v'⟩ := e
    unfold Tbl.set
    split
    · by_cases h : j = k <;> simp [Tbl.find, h]
    · split
      · subst_vars; by_cases h : j = k' <;> simp [Tbl.find, h]
      · simp only [Tbl.find, ih]
        by_cases h : j = k'
        · subst h; rename_i _ h2; simp [show ¬ j = k from fun e => h2 e.symm]
        · simp [h]

/-- A read after a deletion. -/
@[simp] theorem Tbl.get_del {α : Type} (t : Tbl α) (d : α) (k j : Nat) :
    Tbl.get (Tbl.del t k) d j = if j = k then d else Tbl.get t d j := by
  induction t with
  | nil => simp [Tbl.del, Tbl.get]
  | cons e t ih =>
    obtain ⟨k', v'⟩ := e
    unfold Tbl.del at ih ⊢
    by_cases h : k' = k
    · subst h; simp only [List.filter, bne_self_eq_false, ih, Tbl.get]; split <;> rfl
    · have h1 : (k' != k) = true := by simpa using h
      simp only [List.filter, h1, Tbl.get, ih]
      by_cases hj : j = k'
      · subst hj; simp [h]
      · simp [hj]

/-- A search after a deletion. -/
@[simp] theorem Tbl.find_del {α : Type} (t : Tbl α) (k j : Nat) :
    Tbl.find (Tbl.del t k) j = if j = k then none else Tbl.find t j := by
  induction t with
  | nil => simp [Tbl.del, Tbl.find]
  | cons e t ih =>
    obtain ⟨k', v'⟩ := e
    unfold Tbl.del at ih ⊢
    by_cases h : k' = k
    · subst h; simp only [List.filter, bne_self_eq_false, ih, Tbl.find]; split <;> rfl
    · have h1 : (k' != k) = true := by simpa using h
      simp only [List.filter, h1, Tbl.find, ih]
      by_cases hj : j = k'
      · subst hj; simp [h]
      · simp [hj]

/-- A read after a write in canonical form. -/
@[simp] theorem Tbl.get_put {α : Type} [DecidableEq α] (t : Tbl α) (d : α) (k : Nat) (v : α) (j : Nat) :
    Tbl.get (Tbl.put t d k v) d j = if j = k then v else Tbl.get t d j := by
  unfold Tbl.put
  split <;> simp_all

/-- A read after a change of one entry. -/
@[simp] theorem Tbl.get_upd {α : Type} (t : Tbl α) (d : α) (k : Nat) (f : α → α) (j : Nat) :
    Tbl.get (Tbl.upd t d k f) d j = if j = k then f (Tbl.get t d k) else Tbl.get t d j := by
  simp [Tbl.upd]

/-- A read is a search with a default. -/
theorem Tbl.get_eq_find {α : Type} (t : Tbl α) (d : α) (k : Nat) : Tbl.get t d k = (Tbl.find t k).getD d := by
  induction t with
  | nil => rfl
  | cons e t ih => obtain ⟨k', v'⟩ := e; simp only [Tbl.get, Tbl.find, ih]; split <;> rfl

/-- A bound below all keys stays one when a key above it is written. -/
theorem Tbl.above_set {α : Type} (n : Nat) (t : Tbl α) (k : Nat) (v : α) (h : Tbl.above n t = true) (hk : n < k) :
    Tbl.above n (Tbl.set t k v) = true := by
  induction t with
  | nil => simp [Tbl.set, Tbl.above, hk]
  | cons e t ih =>
    obtain ⟨k', v'⟩ := e
    simp only [Tbl.above, Bool.and_eq_true, decide_eq_true_eq] at h
    unfold Tbl.set
    split
    · simp [Tbl.above, hk, h]
    · split <;> simp [Tbl.above, hk, h, ih h.2]

/-- A smaller bound is a bound. -/
theorem Tbl.above_mono {α : Type} (n m : Nat) (t : Tbl α) (h : Tbl.above n t = true) (hm : m ≤ n) :
    Tbl.above m t = true := by
  induction t with
  | nil => rfl
  | cons e t ih =>
    obtain ⟨k', v'⟩ := e
    simp only [Tbl.above, Bool.and_eq_true, decide_eq_true_eq] at h ⊢
    exact ⟨by omega, ih h.2⟩

/-- Keys of a filtered table stay above a bound. -/
theorem Tbl.above_filter {α : Type} (n : Nat) (t : Tbl α) (f : Nat × α → Bool) (h : Tbl.above n t = true) :
    Tbl.above n (t.filter f) = true := by
  induction t with
  | nil => rfl
  | cons e t ih =>
    obtain ⟨k', v'⟩ := e
    simp only [Tbl.above, Bool.and_eq_true, decide_eq_true_eq] at h
    simp only [List.filter]
    split
    · simp [Tbl.above, h.1, ih h.2]
    · exact ih h.2

/-- A write keeps the keys rising. -/
theorem Tbl.sorted_set {α : Type} (t : Tbl α) (k : Nat) (v : α) (h : Tbl.sorted t = true) :
    Tbl.sorted (Tbl.set t k v) = true := by
  induction t with
  | nil => rfl
  | cons e t ih =>
    obtain ⟨k', v'⟩ := e
    simp only [Tbl.sorted, Bool.and_eq_true] at h
    unfold Tbl.set
    split
    · rename_i hlt
      simp only [Tbl.sorted, Tbl.above, Bool.and_eq_true, decide_eq_true_eq]
      exact ⟨⟨hlt, Tbl.above_mono k' k t h.1 (by omega)⟩, h.1, h.2⟩
    · split
      · subst_vars; simp [Tbl.sorted, h.1, h.2]
      · simp only [Tbl.sorted, Bool.and_eq_true]
        exact ⟨Tbl.above_set k' t k v h.1 (by omega), ih h.2⟩

/-- A filtered table keeps its keys rising. -/
theorem Tbl.sorted_filter {α : Type} (t : Tbl α) (f : Nat × α → Bool) (h : Tbl.sorted t = true) :
    Tbl.sorted (t.filter f) = true := by
  induction t with
  | nil => rfl
  | cons e t ih =>
    obtain ⟨k', v'⟩ := e
    simp only [Tbl.sorted, Bool.and_eq_true] at h
    simp only [List.filter]
    split
    · simp [Tbl.sorted, Tbl.above_filter k' t f h.1, ih h.2]
    · exact ih h.2

/-- A write of another value than the default leaves no default entry. -/
theorem Tbl.noDefault_set {α : Type} [DecidableEq α] (d : α) (t : Tbl α) (k : Nat) (v : α)
    (h : Tbl.noDefault d t = true) (hv : v ≠ d) : Tbl.noDefault d (Tbl.set t k v) = true := by
  induction t with
  | nil => simp [Tbl.set, Tbl.noDefault, hv]
  | cons e t ih =>
    obtain ⟨k', v'⟩ := e
    simp only [Tbl.noDefault, Bool.and_eq_true, decide_eq_true_eq] at h
    unfold Tbl.set
    split
    · simp [Tbl.noDefault, hv, h]
    · split <;> simp [Tbl.noDefault, hv, h, ih h.2]

/-- A filtered table has no default entry that it did not have. -/
theorem Tbl.noDefault_filter {α : Type} [DecidableEq α] (d : α) (t : Tbl α) (f : Nat × α → Bool)
    (h : Tbl.noDefault d t = true) : Tbl.noDefault d (t.filter f) = true := by
  induction t with
  | nil => rfl
  | cons e t ih =>
    obtain ⟨k', v'⟩ := e
    simp only [Tbl.noDefault, Bool.and_eq_true, decide_eq_true_eq] at h
    simp only [List.filter]
    split
    · simp [Tbl.noDefault, h.1, ih h.2]
    · exact ih h.2

/-- A filtered table keeps the canonical form. -/
theorem Tbl.wf_filter {α : Type} [DecidableEq α] (d : α) (t : Tbl α) (f : Nat × α → Bool) (h : Tbl.wf d t = true) :
    Tbl.wf d (t.filter f) = true := by
  simp only [Tbl.wf, Bool.and_eq_true] at h ⊢
  exact ⟨Tbl.sorted_filter t f h.1, Tbl.noDefault_filter d t f h.2⟩

/-- A write keeps the canonical form. -/
theorem Tbl.wf_put {α : Type} [DecidableEq α] (t : Tbl α) (d : α) (k : Nat) (v : α) (h : Tbl.wf d t = true) :
    Tbl.wf d (Tbl.put t d k v) = true := by
  unfold Tbl.put
  split
  · exact Tbl.wf_filter d t _ h
  · simp only [Tbl.wf, Bool.and_eq_true] at h ⊢
    exact ⟨Tbl.sorted_set t k v h.1, Tbl.noDefault_set d t k v h.2 ‹_›⟩

end Sys2Proof
end

