-- ==== Sys2Proof/Laws/Memory.lean ====
section
/-!
SUPPORT. Memory: what a read gives after a write, that every operation which writes memory keeps the canonical form of its
list of words, and that none changes what is fixed at manufacture.
-/
namespace Sys2Proof.Machine

/-- A word reads as it was written; every other word reads as before. -/
theorem memWrite_get (s : State) (pa : Nat) (w : TWord) (k : Nat) :
    (s.memWrite pa w).mem.words.get {} k = if k = pa / 8 then w else s.mem.words.get {} k := by
  simp only [State.memWrite, Tbl.get_put]

/-- The memory right after reset is in canonical form. -/
theorem reset_memory_wf : Memory.wf State.reset.mem.words = true := rfl

/-- A write of one word keeps the canonical form. -/
theorem memWrite_wf (s : State) (pa : Nat) (w : TWord) (h : Memory.wf s.mem.words = true) :
    Memory.wf (s.memWrite pa w).mem.words = true := Tbl.wf_put _ _ _ _ h

/-- Writing words in a row keeps the canonical form. -/
theorem writeWords_wf (ws : List TWord) : ∀ (m : Tbl TWord) (k : Nat), Memory.wf m = true →
    Memory.wf (writeWords m k ws) = true := by
  induction ws with
  | nil => exact fun _ _ h => h
  | cons w ws ih => exact fun m k h => ih _ _ (Tbl.wf_put _ _ _ _ h)

/-- A write of a line keeps the canonical form. -/
theorem memWriteLine_wf (s : State) (line : Nat) (ws : List TWord) (h : Memory.wf s.mem.words = true) :
    Memory.wf (s.memWriteLine line ws).mem.words = true := writeWords_wf ws _ _ h

/-- A line's write by its home keeps the canonical form. -/
theorem memPut_wf (s : State) (line : Nat) (ws : List TWord) (h : Memory.wf s.mem.words = true) :
    Memory.wf (s.memPut line ws).mem.words = true := memWriteLine_wf s line ws h

/-- Emptying lines keeps the canonical form. -/
theorem wipe_wf (s : State) (f : Nat → Bool) (h : Memory.wf s.mem.words = true) :
    Memory.wf (s.wipe f).mem.words = true := Tbl.wf_filter _ _ _ h

/-- Dropping a line from L3 leaves memory alone. -/
@[simp] theorem l3Drop_mem (s : State) (line : Nat) : (s.l3Drop line).mem = s.mem := by
  unfold State.l3Drop; split <;> rfl

/-- Dropping a line from L3 leaves what is fixed at manufacture alone. -/
@[simp] theorem l3Drop_fuse (s : State) (line : Nat) : (s.l3Drop line).fuse = s.fuse := by
  unfold State.l3Drop; split <;> rfl

/-- Bringing a line home keeps the canonical form. -/
theorem recall_wf (s : State) (line : Nat) (h : Memory.wf s.mem.words = true) :
    Memory.wf (s.recall line).mem.words = true := by
  simp only [State.recall, l3Drop_mem]
  split
  · exact memPut_wf s line _ h
  · exact h

/-- Bringing a line home leaves what is fixed at manufacture alone. -/
@[simp] theorem recall_fuse (s : State) (line : Nat) : (s.recall line).fuse = s.fuse := by
  simp only [State.recall, l3Drop_fuse]; split <;> rfl

/-- A write into every copy of a line keeps the canonical form. -/
theorem patchAll_wf (s : State) (pa : Nat) (w : TWord) (h : Memory.wf s.mem.words = true) :
    Memory.wf (s.patchAll pa w).mem.words = true := memWrite_wf s pa w h

/-- A coherent write of one word keeps the canonical form. -/
theorem writePa_wf (s : State) (pa : Nat) (w : TWord) (h : Memory.wf s.mem.words = true) :
    Memory.wf (s.writePa pa w).mem.words = true := by
  unfold State.writePa
  dsimp only
  split
  · exact patchAll_wf s pa w h
  · exact memWrite_wf _ pa w (recall_wf s _ h)

/-- A coherent write of one word leaves what is fixed at manufacture alone. -/
@[simp] theorem writePa_fuse (s : State) (pa : Nat) (w : TWord) : (s.writePa pa w).fuse = s.fuse := by
  unfold State.writePa
  dsimp only
  split
  · rfl
  · exact recall_fuse s _

/-- Dirty tracking keeps the canonical form. -/
theorem markDirty_wf (s : State) (q pra : Nat) (h : Memory.wf s.mem.words = true) :
    Memory.wf (s.markDirty q pra).mem.words = true := by
  simp only [State.markDirty]
  split
  · exact writePa_wf s _ _ h
  · exact h

/-- Dirty tracking leaves what is fixed at manufacture alone. -/
@[simp] theorem markDirty_fuse (s : State) (q pra : Nat) : (s.markDirty q pra).fuse = s.fuse := by
  simp only [State.markDirty]
  split
  · exact writePa_fuse s _ _
  · rfl

/-- A write of a word of a partition keeps the canonical form. -/
theorem writePra_wf (s : State) (q pra : Nat) (w : TWord) (h : Memory.wf s.mem.words = true) :
    Memory.wf (s.writePra q pra w).mem.words = true := by
  unfold State.writePra
  split
  · exact markDirty_wf _ q pra (writePa_wf s _ w h)
  · exact h

/-- A write of a word of a partition leaves what is fixed at manufacture alone. -/
@[simp] theorem writePra_fuse (s : State) (q pra : Nat) (w : TWord) : (s.writePra q pra w).fuse = s.fuse := by
  unfold State.writePra
  split
  · simp
  · rfl

/-- A write of tagged words of a partition keeps the canonical form. -/
theorem writeTagged_wf (q : Nat) (ws : List TWord) : ∀ (s : State) (pra : Nat), Memory.wf s.mem.words = true →
    Memory.wf (s.writeTagged q pra ws).mem.words = true := by
  induction ws with
  | nil => exact fun _ _ h => h
  | cons w ws ih => exact fun s pra h => ih _ _ (writePra_wf s q pra w h)

/-- A write of bytes of a partition keeps the canonical form. -/
theorem writeBytesAux_wf (q : Nat) (retag : Bool) (n : Nat) : ∀ (s : State) (pra : Nat) (b : Bytes),
    Memory.wf s.mem.words = true → Memory.wf (s.writeBytesAux q retag n pra b).mem.words = true := by
  induction n with
  | zero => exact fun _ _ _ h => h
  | succ n ih =>
    intro s pra b h
    cases b with
    | nil => exact h
    | cons x b => exact ih _ _ _ (writePra_wf s q _ _ h)

/-- A write of bytes of a partition keeps the canonical form. -/
theorem writeBytes_wf (s : State) (q pra : Nat) (b : Bytes) (retag : Bool) (h : Memory.wf s.mem.words = true) :
    Memory.wf (s.writeBytes q pra b retag).mem.words = true := writeBytesAux_wf q retag _ s pra b h

end Sys2Proof.Machine
end

