-- ==== Sys2Proof/WellFormed.lean ====
section
/-!
DEFINITION. Well-formed commands: an operand that names a unit, a register or a table entry names one that the spec gives
(of the full, FZ-9648, layout). A command that is not well-formed has no effect in the machine where the check concerns a
number that names nothing.
-/
namespace Sys2Proof

/-- Partitions are numbered 1 to 63 (R224, R225); 0 is the module's own context. -/
def namesPartition (q : Fin 64) : Bool := q.val != 0

/-- The Extent Map of a partition has 128 HBM slots and 96 Cache-as-Store extents (R166, R189). -/
def namesExtent (cas : Bool) (i : Fin 128) : Bool := !cas || decide (i.val < 96)

/-- HIF_VFBIND has an instance for VF 1 to VF 63 (R200). -/
def namesVf (vf : Fin 64) : Bool := vf.val != 0

/-- Public-key engines are numbered 0 to 31 (R251). -/
def publicKeyEngine (e : Fin 112) : Bool := decide (e.val < 32)

/-- Lattice engines are numbered 32 to 47 (R251). -/
def latticeEngine (e : Fin 112) : Bool := decide (32 ≤ e.val) && decide (e.val < 48)

/-- Symmetric engines are numbered 48 to 111 (R251). -/
def symmetricEngine (e : Fin 112) : Bool := decide (48 ≤ e.val)

/-- A partition has 8 exchange queues (R327). -/
def xQueue (n : Fin 32) : Bool := decide (n.val < 8)

/-- A line has 16 words (R47, R175). -/
def wholeLine (words : List TWord) : Bool := words.length == 16

/-- A register of the PAIR_CKPT image (R57). -/
def ckptOffset (off : BitVec 12) : Bool :=
  decide (off.toNat % 8 = 0) && decide (0x100 ≤ off.toNat) && decide (off.toNat < 0x520)

/-- One reading for each of the 32 sensors (R424). -/
def allSensors (temps : List (BitVec 8)) : Bool := temps.length == 32

/-- A management access lies in one naturally aligned register (R445). -/
def accessAligned : MTgt → Bool
  | .reg a => decide (a.toNat % 8 = 0)
  | .page _ _ o => decide (o.toNat % 8 = 0)
  | .msixCtl _ _ => true

/-- The partition that a row of the partition commands names. -/
def Instr.part : Instr → Option (Fin 64)
  | .add _ _ _ _ => none
  | .sub _ _ _ _ => none
  | .addu _ _ _ _ => none
  | .subu _ _ _ _ => none
  | .addc _ _ _ _ => none
  | .subb _ _ _ _ => none
  | .mul _ _ _ _ => none
  | .mulh _ _ _ _ => none
  | .mulhu _ _ _ _ => none
  | .mulw _ _ _ _ => none
  | .mulwu _ _ _ _ => none
  | .div _ _ _ _ => none
  | .divu _ _ _ _ => none
  | .rem _ _ _ _ => none
  | .remu _ _ _ _ => none
  | .andd _ _ _ _ => none
  | .orr _ _ _ _ => none
  | .xorr _ _ _ _ => none
  | .andn _ _ _ _ => none
  | .nott _ _ _ _ => none
  | .shl _ _ _ _ => none
  | .shr _ _ _ _ => none
  | .sra _ _ _ _ => none
  | .rotl _ _ _ _ => none
  | .cmp _ _ _ _ => none
  | .cmpu _ _ _ _ => none
  | .mov _ _ _ _ => none
  | .clz _ _ _ _ => none
  | .ctz _ _ _ _ => none
  | .popc _ _ _ _ => none
  | .sextb _ _ _ _ => none
  | .sexth _ _ _ _ => none
  | .sextw _ _ _ _ => none
  | .min _ _ _ _ => none
  | .max _ _ _ _ => none
  | .minu _ _ _ _ => none
  | .maxu _ _ _ _ => none
  | .txup _ _ _ _ => none
  | .txlow _ _ _ _ => none
  | .movs _ _ _ _ => none
  | .gettag _ _ _ _ => none
  | .settag _ _ _ _ => none
  | .rcpt _ _ _ _ => none
  | .addi _ _ _ _ => none
  | .andi _ _ _ _ => none
  | .ori _ _ _ _ => none
  | .xori _ _ _ _ => none
  | .cmpi _ _ _ _ => none
  | .cmpui _ _ _ _ => none
  | .shi _ _ _ _ => none
  | .ins16 _ _ _ _ _ => none
  | .movi _ _ _ => none
  | .la _ _ _ _ => none
  | .ld _ _ _ _ => none
  | .st _ _ _ _ => none
  | .lb _ _ _ _ => none
  | .lbu _ _ _ _ => none
  | .lh _ _ _ _ => none
  | .lhu _ _ _ _ => none
  | .lw _ _ _ _ => none
  | .lwu _ _ _ _ => none
  | .sb _ _ _ _ => none
  | .sh _ _ _ _ => none
  | .sw _ _ _ _ => none
  | .ldf _ _ _ _ => none
  | .stf _ _ _ _ => none
  | .indexedAccess _ _ _ _ _ => none
  | .movsL _ _ _ _ => none
  | .movsS _ _ _ _ => none
  | .tagm _ _ _ _ => none
  | .b _ _ => none
  | .call _ _ _ => none
  | .bc _ _ _ => none
  | .cb _ _ _ _ _ => none
  | .loop _ _ _ => none
  | .br _ _ _ _ => none
  | .callr _ _ _ _ => none
  | .lexit _ _ _ _ => none
  | .shortNop _ _ _ => none
  | .pairedWord _ _ _ => none
  | .rdtime _ _ _ _ => none
  | .mfc _ _ _ _ => none
  | .mtc _ _ _ _ => none
  | .mfpsw _ _ _ _ => none
  | .mtpsw _ _ _ _ => none
  | .rfe _ _ _ _ => none
  | .rfn _ _ _ _ => none
  | .svc _ _ _ => none
  | .brk _ _ _ _ => none
  | .wait _ _ _ _ => none
  | .rdev _ _ _ _ => none
  | .clrev _ _ _ _ => none
  | .setev _ _ _ _ => none
  | .fenceM _ _ _ _ => none
  | .fenceIo _ _ _ _ => none
  | .tlbi _ _ _ _ => none
  | .tlbia _ _ _ _ => none
  | .cleanL _ _ _ _ => none
  | .flushL _ _ _ _ => none
  | .pref _ _ _ _ => none
  | .fadd _ _ _ _ _ => none
  | .fsub _ _ _ _ _ => none
  | .fmul _ _ _ _ _ => none
  | .fdiv _ _ _ _ _ => none
  | .fsqrt _ _ _ _ _ => none
  | .fmin _ _ _ _ _ => none
  | .fmax _ _ _ _ _ => none
  | .fabs _ _ _ _ _ => none
  | .fneg _ _ _ _ _ => none
  | .fcpys _ _ _ _ _ => none
  | .fcmp _ _ _ _ _ => none
  | .fcmps _ _ _ _ _ => none
  | .fcvtDS _ _ _ _ _ => none
  | .fcvtSD _ _ _ _ _ => none
  | .fcvtL _ _ _ _ _ => none
  | .fcvtLu _ _ _ _ _ => none
  | .fcvtFl _ _ _ _ _ => none
  | .fcvtFlu _ _ _ _ _ => none
  | .fmvFg _ _ _ _ _ => none
  | .fmvGf _ _ _ _ _ => none
  | .fmv _ _ _ _ _ => none
  | .fmadd _ _ _ _ _ _ => none
  | .fmsub _ _ _ _ _ _ => none
  | .fnmadd _ _ _ _ _ _ => none
  | .fnmsub _ _ _ _ _ _ => none
  | .aadd _ _ _ _ => none
  | .aand _ _ _ _ => none
  | .aor _ _ _ _ => none
  | .axor _ _ _ _ => none
  | .aswap _ _ _ _ => none
  | .acas _ _ _ _ => none
  | .amin _ _ _ _ => none
  | .amax _ _ _ _ => none
  | .aminu _ _ _ _ => none
  | .amaxu _ _ _ _ => none
  | .iold _ _ _ _ => none
  | .iost _ _ _ _ => none
  | .cqpost _ _ _ _ => none
  | .zqpost _ _ _ _ => none
  | .mvgo _ _ _ _ => none
  | .mvsync _ _ _ _ => none
  | .jcommit _ _ _ _ => none
  | .movb _ _ _ _ => none
  | .fillb _ _ _ _ => none
  | .cmpb _ _ _ _ => none
  | .scanb _ _ _ _ => none
  | .mapb _ _ _ _ => none
  | .crcb _ _ _ _ => none
  | .dadd _ _ _ _ _ => none
  | .dsub _ _ _ _ _ => none
  | .dmul _ _ _ _ _ => none
  | .ddiv _ _ _ _ _ => none
  | .drem _ _ _ _ _ => none
  | .dsrr _ _ _ _ _ => none
  | .dcmp _ _ _ _ _ => none
  | .dzadd _ _ _ _ _ => none
  | .dtest _ _ _ _ _ => none
  | .cvdb _ _ _ _ _ => none
  | .cvbd _ _ _ _ _ => none
  | .packa _ _ _ _ _ => none
  | .unpka _ _ _ _ _ => none
  | .eventInterrupt _ => none
  | .nmiEntry _ => none
  | .timerCompare _ => none
  | .windowComparison _ _ => none
  | .detectedError _ _ _ _ => none
  | .gateStoreRelease _ => none
  | .externalOpIssue _ _ => none
  | .externalOpResult _ => none
  | .spareSelfTest _ _ => none
  | .stewardSparing _ _ => none
  | .fencedL2Empty _ => none
  | .pairRoleWrite _ _ _ _ => none
  | .pairTestWrite _ _ _ _ => none
  | .pairCkptWrite _ _ _ _ _ => none
  | .patchLoadGo _ _ _ => none
  | .patchLoadDone _ => none
  | .ucsLock _ _ _ => none
  | .ucsDisable _ _ _ => none
  | .ucsPeek _ _ _ => none
  | .patchRamScrub _ _ _ _ => none
  | .homeReadshared _ _ => none
  | .homeReadown _ _ => none
  | .homeUpgrade _ _ => none
  | .homeWriteback _ _ => none
  | .homeEvictclean _ _ => none
  | .homeWritefull _ _ => none
  | .homeRelease _ _ => none
  | .homeClean _ _ => none
  | .homeFlush _ _ => none
  | .homeFarAtomic _ _ => none
  | .homeSnoopAnswer _ _ => none
  | .l2Snpshared _ _ => none
  | .l2Snpclean _ _ => none
  | .l2Snpinv _ _ => none
  | .l2Grant _ _ _ => none
  | .l2Ready _ _ => none
  | .l2Wback _ _ => none
  | .l2Nack _ _ => none
  | .l2NackRetry _ _ => none
  | .evictionWriteAccepted _ _ => none
  | .coherenceTimeout _ _ => none
  | .coherenceLoss _ _ _ _ => none
  | .casWaysWrite _ _ _ _ => none
  | .casConvertDone _ => none
  | .casReleaseDone _ => none
  | .predClear _ _ _ _ => none
  | .mcRead _ _ _ => none
  | .mcWrite _ _ _ => none
  | .tagBufferFill _ _ _ => none
  | .patrolScrub _ _ _ => none
  | .hcsScrub _ _ _ => none
  | .extentMapWrite _ q _ _ _ _ => some q
  | .unmapDone q _ _ => some q
  | .sqDoorbell _ _ _ _ => none
  | .cqDoorbell _ _ _ _ => none
  | .descriptorFetch _ _ _ _ => none
  | .work _ _ => none
  | .nopDescriptor _ _ => none
  | .chainReadDone _ _ => none
  | .seginReadDone _ _ _ => none
  | .completionTimeout _ => none
  | .responseSend _ => none
  | .chainRereadDone _ _ => none
  | .coalesceTimer _ _ _ => none
  | .qctlEnable _ _ _ => none
  | .qctlReset _ _ _ => none
  | .queueResetDone _ _ _ => none
  | .pcieLinkDown _ => none
  | .pcieLinkUp _ _ _ => none
  | .perst _ => none
  | .hotReset _ => none
  | .functionLevelReset _ _ => none
  | .vfEnableClear _ => none
  | .numvfsWrite _ _ => none
  | .pcieErrorDetected _ _ _ => none
  | .hifVfbindWrite _ _ _ _ _ => none
  | .hifCfgLock _ _ _ _ => none
  | .partCreate _ q => some q
  | .partStart _ q => some q
  | .partFreeze _ q => some q
  | .partFreezeDone q => some q
  | .partThaw _ q => some q
  | .partExport _ q => some q
  | .partExportConfirmed q _ => some q
  | .partImport _ q => some q
  | .partImportInstalled q _ => some q
  | .partDestroy _ q => some q
  | .partAbort _ q => some q
  | .partDestroyDone q => some q
  | .serviceEntryDeliver q _ => some q
  | .park _ => none
  | .unpark _ => none
  | .sharePeriod => none
  | .mboxDbWrite _ _ _ _ => none
  | .mboxAckWrite _ _ _ _ => none
  | .dirtyTrackStart _ q _ _ => some q
  | .partSnap _ q _ _ => some q
  | .dirtyScanDone q => some q
  | .cqResetDone _ _ => none
  | .ecSign _ _ _ => none
  | .ecVerify _ _ _ => none
  | .ecDh _ _ _ => none
  | .ecKeygen _ _ _ => none
  | .edSign _ _ _ => none
  | .edVerify _ _ _ => none
  | .edKeygen _ _ _ => none
  | .rsaSign _ _ _ => none
  | .rsaVerify _ _ _ => none
  | .rsaEncrypt _ _ _ => none
  | .rsaDecrypt _ _ _ => none
  | .mldsaKeygen _ _ _ => none
  | .mldsaSign _ _ _ => none
  | .mldsaVerify _ _ _ => none
  | .mlkemKeygen _ _ _ => none
  | .mlkemEncaps _ _ _ => none
  | .mlkemDecaps _ _ _ => none
  | .hybridSign _ _ _ _ => none
  | .hybridVerify _ _ _ _ => none
  | .aesEnc _ _ _ => none
  | .aesDec _ _ _ => none
  | .gcmSeal _ _ _ => none
  | .gcmOpen _ _ _ => none
  | .tdeaEnc _ _ _ => none
  | .tdeaDec _ _ _ => none
  | .hash _ _ _ => none
  | .hmacGen _ _ _ => none
  | .hmacVer _ _ _ => none
  | .cmacGen _ _ _ => none
  | .cmacVer _ _ _ => none
  | .mac3Gen _ _ _ => none
  | .mac3Ver _ _ _ => none
  | .pinXlate _ _ _ => none
  | .keyGen _ _ _ => none
  | .keyDerive _ _ _ => none
  | .keyImport _ _ _ => none
  | .keyExport _ _ _ => none
  | .keyDestroy _ _ => none
  | .keyInfo _ _ => none
  | .keyLookup _ _ => none
  | .keyPublic _ _ => none
  | .random _ _ _ => none
  | .cryptoEngineDone _ => none
  | .cryptoEngineError _ => none
  | .drbgReseed _ => none
  | .entropyFail => none
  | .entropyRestart => none
  | .keyErase _ _ => none
  | .vaultChangeDurable _ _ _ => none
  | .kvUncorrected _ _ => none
  | .keyComponent _ _ _ => none
  | .keyCombine _ _ _ => none
  | .keyComponentClear _ _ _ => none
  | .keyLoadBlock _ _ _ => none
  | .keyUnloadBlock _ _ _ => none
  | .keyDelete _ _ _ => none
  | .keyQuery _ _ _ => none
  | .componentExpiry _ => none
  | .compress _ _ _ => none
  | .decompress _ _ _ => none
  | .compressEngineDone _ => none
  | .compressEngineError _ => none
  | .moverChunk _ => none
  | .moverAbort _ => none
  | .moverSyncReturn _ _ => none
  | .portEnable _ _ _ _ => none
  | .portDisable _ _ _ _ => none
  | .retrain _ _ _ _ => none
  | .trainingDone _ => none
  | .trainingTimeout _ => none
  | .linitTimer _ => none
  | .initTimeout _ => none
  | .holdoffExpiry _ => none
  | .linit _ _ => none
  | .lack _ _ => none
  | .ldown _ _ => none
  | .ack _ _ => none
  | .nak _ _ => none
  | .frameCheckFail _ => none
  | .frameTransmit _ => none
  | .replayTimer _ => none
  | .ackDue _ => none
  | .keepalive _ => none
  | .ackTimeout _ => none
  | .pcsLockLoss _ => none
  | .octetPllUnlock _ => none
  | .xstartRead _ _ _ => none
  | .xstartWrite _ _ _ => none
  | .xstartCommit _ _ _ => none
  | .xstartMessage _ _ _ => none
  | .xstartCancel _ _ _ => none
  | .xstartProbe _ _ _ => none
  | .inboundRead _ _ => none
  | .inboundWrite _ _ _ => none
  | .inboundCommit _ _ _ => none
  | .inboundMessage _ _ _ _ => none
  | .inboundAttention _ _ _ _ => none
  | .inboundCancel _ _ => none
  | .inboundProbe _ _ => none
  | .reqDataFrame _ _ => none
  | .rspFrame _ _ => none
  | .rspDataFrame _ _ => none
  | .exchangeTimeout _ => none
  | .waitRetry _ => none
  | .exchangeOutcomeDurable _ => none
  | .commitStage => none
  | .strongroomWriteDone _ _ _ => none
  | .batchTimer _ _ => none
  | .epochSyncEdge => none
  | .epochDecision => none
  | .receiptWindowRebuild q _ _ => some q
  | .ldgRead _ _ _ => none
  | .duplexForming => none
  | .helloTimer => none
  | .hello _ _ => none
  | .heartbeatTimer => none
  | .sidebandTimer => none
  | .heartbeat _ _ => none
  | .timeSlew => none
  | .sidebandWord _ => none
  | .goodbye _ _ => none
  | .mirrorAck _ _ => none
  | .journalItem _ _ => none
  | .workOrderItem _ _ => none
  | .exchangeItem _ _ => none
  | .partWriteItem _ _ => none
  | .vaultItem _ _ => none
  | .snapshot _ _ => none
  | .snapshotEnd _ _ => none
  | .migrate _ _ => none
  | .migrateRsp _ _ => none
  | .mailbox _ _ => none
  | .mailboxAck _ _ => none
  | .pathSilent _ => none
  | .pathsHeard => none
  | .selfFence => none
  | .partnerLoss => none
  | .promotionComplete => none
  | .confirmAlone _ _ _ => none
  | .handover _ _ _ => none
  | .faultEvent _ _ => none
  | .moduleResetBegin _ => none
  | .lanternToggle => none
  | .fltWindowWrite _ _ _ _ => none
  | .fltForce _ _ _ _ => none
  | .fltStatusClear _ _ _ _ => none
  | .kick _ _ _ => none
  | .wdtExpired => none
  | .capLockFlt _ _ _ => none
  | .vauxGood => none
  | .vinGood => none
  | .softstartDone _ => none
  | .holdupMeasured _ => none
  | .hibReady => none
  | .holdupTarget => none
  | .holdupLow _ => none
  | .holdupShort => none
  | .holdupBleedDone => none
  | .attn => none
  | .removeReq _ _ _ => none
  | .removeDrainEnd _ => none
  | .sag _ _ => none
  | .hibernateRecordsWritten => none
  | .hibernateSealWritten => none
  | .hibernateImageWritten _ _ => none
  | .vinReturnResume _ => none
  | .powerPeriod _ _ _ => none
  | .thermalSample _ => none
  | .overtempResume _ _ => none
  | .vinLow => none
  | .vinHigh => none
  | .railFault _ => none
  | .powerGood _ => none
  | .bootStageDone _ _ => none
  | .recoveryMessage _ => none
  | .moduleReset _ _ _ => none
  | .pairGo _ _ _ => none
  | .mgmtWrite _ _ _ _ => none
  | .partBpRead q _ => some q
  | .pwrVinRead _ => none
  | .i3cPrivateWrite _ _ _ => none
  | .i3cPrivateRead _ _ => none
  | .entdaa _ _ => none
  | .setdasa _ _ => none
  | .setnewda _ _ => none
  | .rstdaa _ => none
  | .getpid _ => none
  | .getbcr _ => none
  | .getdcr _ => none
  | .getstatus _ => none
  | .getmwl _ => none
  | .getmrl _ => none
  | .enec _ _ => none
  | .disec _ _ => none
  | .tapActive => none
  | .bypass => none
  | .samplePreload _ => none
  | .idcode => none
  | .extest _ => none
  | .clamp => none
  | .highz => none
  | .undefinedOpcode _ _ => none
  | .hostInvalidOpcode _ _ => none
  | .cryptoInvalidOpcode _ _ => none
  | .compressInvalidOpcode _ _ => none
  | .xstartInvalidXtype _ _ _ => none
  | .inboundReservedXtype _ _ => none
  | .vfEnableSet _ => none
  | .pairResetDone _ => none
  | .lossyEnd => none
  | .vauxLow => none
  | .holdupCollapse => none

/-- The operands of a command are well-formed. -/
def Instr.wf : Instr → Bool
  | .add _ _ _ _ => true
  | .sub _ _ _ _ => true
  | .addu _ _ _ _ => true
  | .subu _ _ _ _ => true
  | .addc _ _ _ _ => true
  | .subb _ _ _ _ => true
  | .mul _ _ _ _ => true
  | .mulh _ _ _ _ => true
  | .mulhu _ _ _ _ => true
  | .mulw _ _ _ _ => true
  | .mulwu _ _ _ _ => true
  | .div _ _ _ _ => true
  | .divu _ _ _ _ => true
  | .rem _ _ _ _ => true
  | .remu _ _ _ _ => true
  | .andd _ _ _ _ => true
  | .orr _ _ _ _ => true
  | .xorr _ _ _ _ => true
  | .andn _ _ _ _ => true
  | .nott _ _ _ _ => true
  | .shl _ _ _ _ => true
  | .shr _ _ _ _ => true
  | .sra _ _ _ _ => true
  | .rotl _ _ _ _ => true
  | .cmp _ _ _ _ => true
  | .cmpu _ _ _ _ => true
  | .mov _ _ _ _ => true
  | .clz _ _ _ _ => true
  | .ctz _ _ _ _ => true
  | .popc _ _ _ _ => true
  | .sextb _ _ _ _ => true
  | .sexth _ _ _ _ => true
  | .sextw _ _ _ _ => true
  | .min _ _ _ _ => true
  | .max _ _ _ _ => true
  | .minu _ _ _ _ => true
  | .maxu _ _ _ _ => true
  | .txup _ _ _ _ => true
  | .txlow _ _ _ _ => true
  | .movs _ _ _ _ => true
  | .gettag _ _ _ _ => true
  | .settag _ _ _ _ => true
  | .rcpt _ _ _ _ => true
  | .addi _ _ _ _ => true
  | .andi _ _ _ _ => true
  | .ori _ _ _ _ => true
  | .xori _ _ _ _ => true
  | .cmpi _ _ _ _ => true
  | .cmpui _ _ _ _ => true
  | .shi _ _ _ _ => true
  | .ins16 _ _ _ _ _ => true
  | .movi _ _ _ => true
  | .la _ _ _ _ => true
  | .ld _ _ _ _ => true
  | .st _ _ _ _ => true
  | .lb _ _ _ _ => true
  | .lbu _ _ _ _ => true
  | .lh _ _ _ _ => true
  | .lhu _ _ _ _ => true
  | .lw _ _ _ _ => true
  | .lwu _ _ _ _ => true
  | .sb _ _ _ _ => true
  | .sh _ _ _ _ => true
  | .sw _ _ _ _ => true
  | .ldf _ _ _ _ => true
  | .stf _ _ _ _ => true
  | .indexedAccess _ _ _ _ _ => true
  | .movsL _ _ _ _ => true
  | .movsS _ _ _ _ => true
  | .tagm _ _ _ _ => true
  | .b _ _ => true
  | .call _ _ _ => true
  | .bc _ _ _ => true
  | .cb _ _ _ _ _ => true
  | .loop _ _ _ => true
  | .br _ _ _ _ => true
  | .callr _ _ _ _ => true
  | .lexit _ _ _ _ => true
  | .shortNop _ _ _ => true
  | .pairedWord _ _ _ => true
  | .rdtime _ _ _ _ => true
  | .mfc _ _ _ _ => true
  | .mtc _ _ _ _ => true
  | .mfpsw _ _ _ _ => true
  | .mtpsw _ _ _ _ => true
  | .rfe _ _ _ _ => true
  | .rfn _ _ _ _ => true
  | .svc _ _ _ => true
  | .brk _ _ _ _ => true
  | .wait _ _ _ _ => true
  | .rdev _ _ _ _ => true
  | .clrev _ _ _ _ => true
  | .setev _ _ _ _ => true
  | .fenceM _ _ _ _ => true
  | .fenceIo _ _ _ _ => true
  | .tlbi _ _ _ _ => true
  | .tlbia _ _ _ _ => true
  | .cleanL _ _ _ _ => true
  | .flushL _ _ _ _ => true
  | .pref _ _ _ _ => true
  | .fadd _ _ _ _ _ => true
  | .fsub _ _ _ _ _ => true
  | .fmul _ _ _ _ _ => true
  | .fdiv _ _ _ _ _ => true
  | .fsqrt _ _ _ _ _ => true
  | .fmin _ _ _ _ _ => true
  | .fmax _ _ _ _ _ => true
  | .fabs _ _ _ _ _ => true
  | .fneg _ _ _ _ _ => true
  | .fcpys _ _ _ _ _ => true
  | .fcmp _ _ _ _ _ => true
  | .fcmps _ _ _ _ _ => true
  | .fcvtDS _ _ _ _ _ => true
  | .fcvtSD _ _ _ _ _ => true
  | .fcvtL _ _ _ _ _ => true
  | .fcvtLu _ _ _ _ _ => true
  | .fcvtFl _ _ _ _ _ => true
  | .fcvtFlu _ _ _ _ _ => true
  | .fmvFg _ _ _ _ _ => true
  | .fmvGf _ _ _ _ _ => true
  | .fmv _ _ _ _ _ => true
  | .fmadd _ _ _ _ _ _ => true
  | .fmsub _ _ _ _ _ _ => true
  | .fnmadd _ _ _ _ _ _ => true
  | .fnmsub _ _ _ _ _ _ => true
  | .aadd _ _ _ _ => true
  | .aand _ _ _ _ => true
  | .aor _ _ _ _ => true
  | .axor _ _ _ _ => true
  | .aswap _ _ _ _ => true
  | .acas _ _ _ _ => true
  | .amin _ _ _ _ => true
  | .amax _ _ _ _ => true
  | .aminu _ _ _ _ => true
  | .amaxu _ _ _ _ => true
  | .iold _ _ _ _ => true
  | .iost _ _ _ _ => true
  | .cqpost _ _ _ _ => true
  | .zqpost _ _ _ _ => true
  | .mvgo _ _ _ _ => true
  | .mvsync _ _ _ _ => true
  | .jcommit _ _ _ _ => true
  | .movb _ _ _ _ => true
  | .fillb _ _ _ _ => true
  | .cmpb _ _ _ _ => true
  | .scanb _ _ _ _ => true
  | .mapb _ _ _ _ => true
  | .crcb _ _ _ _ => true
  | .dadd _ _ _ _ _ => true
  | .dsub _ _ _ _ _ => true
  | .dmul _ _ _ _ _ => true
  | .ddiv _ _ _ _ _ => true
  | .drem _ _ _ _ _ => true
  | .dsrr _ _ _ _ _ => true
  | .dcmp _ _ _ _ _ => true
  | .dzadd _ _ _ _ _ => true
  | .dtest _ _ _ _ _ => true
  | .cvdb _ _ _ _ _ => true
  | .cvbd _ _ _ _ _ => true
  | .packa _ _ _ _ _ => true
  | .unpka _ _ _ _ _ => true
  | .eventInterrupt _ => true
  | .nmiEntry _ => true
  | .timerCompare _ => true
  | .windowComparison _ _ => true
  | .detectedError _ _ _ _ => true
  | .gateStoreRelease _ => true
  | .externalOpIssue _ _ => true
  | .externalOpResult _ => true
  | .spareSelfTest _ _ => true
  | .stewardSparing _ _ => true
  | .fencedL2Empty _ => true
  | .pairRoleWrite _ _ _ _ => true
  | .pairTestWrite _ _ _ _ => true
  | .pairCkptWrite _ _ off _ _ => ckptOffset off
  | .patchLoadGo _ _ _ => true
  | .patchLoadDone _ => true
  | .ucsLock _ _ _ => true
  | .ucsDisable _ _ _ => true
  | .ucsPeek _ _ _ => true
  | .patchRamScrub _ _ _ _ => true
  | .homeReadshared _ _ => true
  | .homeReadown _ _ => true
  | .homeUpgrade _ _ => true
  | .homeWriteback _ _ => true
  | .homeEvictclean _ _ => true
  | .homeWritefull _ _ => true
  | .homeRelease _ _ => true
  | .homeClean _ _ => true
  | .homeFlush _ _ => true
  | .homeFarAtomic _ _ => true
  | .homeSnoopAnswer _ _ => true
  | .l2Snpshared _ _ => true
  | .l2Snpclean _ _ => true
  | .l2Snpinv _ _ => true
  | .l2Grant _ _ _ => true
  | .l2Ready _ _ => true
  | .l2Wback _ _ => true
  | .l2Nack _ _ => true
  | .l2NackRetry _ _ => true
  | .evictionWriteAccepted _ _ => true
  | .coherenceTimeout _ _ => true
  | .coherenceLoss _ _ _ _ => true
  | .casWaysWrite _ _ _ _ => true
  | .casConvertDone _ => true
  | .casReleaseDone _ => true
  | .predClear _ _ _ _ => true
  | .mcRead _ _ _ => true
  | .mcWrite _ words _ => wholeLine words
  | .tagBufferFill _ _ _ => true
  | .patrolScrub _ _ _ => true
  | .hcsScrub _ _ _ => true
  | .extentMapWrite _ q cas i _ _ => namesPartition q && namesExtent cas i
  | .unmapDone q cas i => namesPartition q && namesExtent cas i
  | .sqDoorbell _ _ _ _ => true
  | .cqDoorbell _ _ _ _ => true
  | .descriptorFetch _ _ _ _ => true
  | .work _ _ => true
  | .nopDescriptor _ _ => true
  | .chainReadDone _ _ => true
  | .seginReadDone _ _ _ => true
  | .completionTimeout _ => true
  | .responseSend _ => true
  | .chainRereadDone _ _ => true
  | .coalesceTimer _ _ _ => true
  | .qctlEnable _ _ _ => true
  | .qctlReset _ _ _ => true
  | .queueResetDone _ _ _ => true
  | .pcieLinkDown _ => true
  | .pcieLinkUp _ _ _ => true
  | .perst _ => true
  | .hotReset _ => true
  | .functionLevelReset _ _ => true
  | .vfEnableClear _ => true
  | .numvfsWrite _ _ => true
  | .pcieErrorDetected _ _ _ => true
  | .hifVfbindWrite _ _ vf _ _ => namesVf vf
  | .hifCfgLock _ _ _ _ => true
  | .partCreate _ q => namesPartition q
  | .partStart _ q => namesPartition q
  | .partFreeze _ q => namesPartition q
  | .partFreezeDone q => namesPartition q
  | .partThaw _ q => namesPartition q
  | .partExport _ q => namesPartition q
  | .partExportConfirmed q _ => namesPartition q
  | .partImport _ q => namesPartition q
  | .partImportInstalled q _ => namesPartition q
  | .partDestroy _ q => namesPartition q
  | .partAbort _ q => namesPartition q
  | .partDestroyDone q => namesPartition q
  | .serviceEntryDeliver q _ => namesPartition q
  | .park _ => true
  | .unpark _ => true
  | .sharePeriod => true
  | .mboxDbWrite _ _ _ _ => true
  | .mboxAckWrite _ _ _ _ => true
  | .dirtyTrackStart _ q _ _ => namesPartition q
  | .partSnap _ q _ _ => namesPartition q
  | .dirtyScanDone q => namesPartition q
  | .cqResetDone _ _ => true
  | .ecSign _ _ e => publicKeyEngine e
  | .ecVerify _ _ e => publicKeyEngine e
  | .ecDh _ _ e => publicKeyEngine e
  | .ecKeygen _ _ e => publicKeyEngine e
  | .edSign _ _ e => publicKeyEngine e
  | .edVerify _ _ e => publicKeyEngine e
  | .edKeygen _ _ e => publicKeyEngine e
  | .rsaSign _ _ e => publicKeyEngine e
  | .rsaVerify _ _ e => publicKeyEngine e
  | .rsaEncrypt _ _ e => publicKeyEngine e
  | .rsaDecrypt _ _ e => publicKeyEngine e
  | .mldsaKeygen _ _ e => latticeEngine e
  | .mldsaSign _ _ e => latticeEngine e
  | .mldsaVerify _ _ e => latticeEngine e
  | .mlkemKeygen _ _ e => latticeEngine e
  | .mlkemEncaps _ _ e => latticeEngine e
  | .mlkemDecaps _ _ e => latticeEngine e
  | .hybridSign _ _ e e2 => publicKeyEngine e && latticeEngine e2
  | .hybridVerify _ _ e e2 => publicKeyEngine e && latticeEngine e2
  | .aesEnc _ _ e => symmetricEngine e
  | .aesDec _ _ e => symmetricEngine e
  | .gcmSeal _ _ e => symmetricEngine e
  | .gcmOpen _ _ e => symmetricEngine e
  | .tdeaEnc _ _ e => symmetricEngine e
  | .tdeaDec _ _ e => symmetricEngine e
  | .hash _ _ e => symmetricEngine e
  | .hmacGen _ _ e => symmetricEngine e
  | .hmacVer _ _ e => symmetricEngine e
  | .cmacGen _ _ e => symmetricEngine e
  | .cmacVer _ _ e => symmetricEngine e
  | .mac3Gen _ _ e => symmetricEngine e
  | .mac3Ver _ _ e => symmetricEngine e
  | .pinXlate _ _ e => symmetricEngine e
  | .keyGen _ _ e => symmetricEngine e
  | .keyDerive _ _ e => symmetricEngine e
  | .keyImport _ _ e => symmetricEngine e
  | .keyExport _ _ e => symmetricEngine e
  | .keyDestroy _ _ => true
  | .keyInfo _ _ => true
  | .keyLookup _ _ => true
  | .keyPublic _ _ => true
  | .random _ _ e => symmetricEngine e
  | .cryptoEngineDone _ => true
  | .cryptoEngineError _ => true
  | .drbgReseed _ => true
  | .entropyFail => true
  | .entropyRestart => true
  | .keyErase _ _ => true
  | .vaultChangeDurable _ _ _ => true
  | .kvUncorrected _ _ => true
  | .keyComponent _ _ _ => true
  | .keyCombine _ _ _ => true
  | .keyComponentClear _ _ _ => true
  | .keyLoadBlock _ _ _ => true
  | .keyUnloadBlock _ _ _ => true
  | .keyDelete _ _ _ => true
  | .keyQuery _ _ _ => true
  | .componentExpiry _ => true
  | .compress _ _ _ => true
  | .decompress _ _ _ => true
  | .compressEngineDone _ => true
  | .compressEngineError _ => true
  | .moverChunk _ => true
  | .moverAbort _ => true
  | .moverSyncReturn _ _ => true
  | .portEnable _ _ _ _ => true
  | .portDisable _ _ _ _ => true
  | .retrain _ _ _ _ => true
  | .trainingDone _ => true
  | .trainingTimeout _ => true
  | .linitTimer _ => true
  | .initTimeout _ => true
  | .holdoffExpiry _ => true
  | .linit _ _ => true
  | .lack _ _ => true
  | .ldown _ _ => true
  | .ack _ _ => true
  | .nak _ _ => true
  | .frameCheckFail _ => true
  | .frameTransmit _ => true
  | .replayTimer _ => true
  | .ackDue _ => true
  | .keepalive _ => true
  | .ackTimeout _ => true
  | .pcsLockLoss _ => true
  | .octetPllUnlock _ => true
  | .xstartRead _ n _ => xQueue n
  | .xstartWrite _ n _ => xQueue n
  | .xstartCommit _ n _ => xQueue n
  | .xstartMessage _ n _ => xQueue n
  | .xstartCancel _ n _ => xQueue n
  | .xstartProbe _ n _ => xQueue n
  | .inboundRead _ _ => true
  | .inboundWrite _ _ _ => true
  | .inboundCommit _ _ _ => true
  | .inboundMessage _ _ _ _ => true
  | .inboundAttention _ _ _ _ => true
  | .inboundCancel _ _ => true
  | .inboundProbe _ _ => true
  | .reqDataFrame _ _ => true
  | .rspFrame _ _ => true
  | .rspDataFrame _ _ => true
  | .exchangeTimeout _ => true
  | .waitRetry _ => true
  | .exchangeOutcomeDurable _ => true
  | .commitStage => true
  | .strongroomWriteDone _ _ _ => true
  | .batchTimer _ _ => true
  | .epochSyncEdge => true
  | .epochDecision => true
  | .receiptWindowRebuild q _ _ => namesPartition q
  | .ldgRead _ _ _ => true
  | .duplexForming => true
  | .helloTimer => true
  | .hello _ _ => true
  | .heartbeatTimer => true
  | .sidebandTimer => true
  | .heartbeat _ _ => true
  | .timeSlew => true
  | .sidebandWord _ => true
  | .goodbye _ _ => true
  | .mirrorAck _ _ => true
  | .journalItem _ _ => true
  | .workOrderItem _ _ => true
  | .exchangeItem _ _ => true
  | .partWriteItem _ _ => true
  | .vaultItem _ _ => true
  | .snapshot _ _ => true
  | .snapshotEnd _ _ => true
  | .migrate _ _ => true
  | .migrateRsp _ _ => true
  | .mailbox _ _ => true
  | .mailboxAck _ _ => true
  | .pathSilent _ => true
  | .pathsHeard => true
  | .selfFence => true
  | .partnerLoss => true
  | .promotionComplete => true
  | .confirmAlone _ _ _ => true
  | .handover _ _ _ => true
  | .faultEvent _ _ => true
  | .moduleResetBegin _ => true
  | .lanternToggle => true
  | .fltWindowWrite _ _ _ _ => true
  | .fltForce _ _ _ _ => true
  | .fltStatusClear _ _ _ _ => true
  | .kick _ _ _ => true
  | .wdtExpired => true
  | .capLockFlt _ _ _ => true
  | .vauxGood => true
  | .vinGood => true
  | .softstartDone _ => true
  | .holdupMeasured _ => true
  | .hibReady => true
  | .holdupTarget => true
  | .holdupLow _ => true
  | .holdupShort => true
  | .holdupBleedDone => true
  | .attn => true
  | .removeReq _ _ _ => true
  | .removeDrainEnd _ => true
  | .sag _ _ => true
  | .hibernateRecordsWritten => true
  | .hibernateSealWritten => true
  | .hibernateImageWritten _ _ => true
  | .vinReturnResume _ => true
  | .powerPeriod _ _ _ => true
  | .thermalSample temps => allSensors temps
  | .overtempResume temps _ => allSensors temps
  | .vinLow => true
  | .vinHigh => true
  | .railFault _ => true
  | .powerGood _ => true
  | .bootStageDone _ _ => true
  | .recoveryMessage _ => true
  | .moduleReset _ _ _ => true
  | .pairGo _ _ _ => true
  | .mgmtWrite _ t _ _ => accessAligned t
  | .partBpRead q _ => namesPartition q
  | .pwrVinRead _ => true
  | .i3cPrivateWrite _ _ _ => true
  | .i3cPrivateRead _ _ => true
  | .entdaa _ _ => true
  | .setdasa _ _ => true
  | .setnewda _ _ => true
  | .rstdaa _ => true
  | .getpid _ => true
  | .getbcr _ => true
  | .getdcr _ => true
  | .getstatus _ => true
  | .getmwl _ => true
  | .getmrl _ => true
  | .enec _ _ => true
  | .disec _ _ => true
  | .tapActive => true
  | .bypass => true
  | .samplePreload _ => true
  | .idcode => true
  | .extest _ => true
  | .clamp => true
  | .highz => true
  | .undefinedOpcode _ _ => true
  | .hostInvalidOpcode _ _ => true
  | .cryptoInvalidOpcode _ _ => true
  | .compressInvalidOpcode _ _ => true
  | .xstartInvalidXtype _ n _ => xQueue n
  | .inboundReservedXtype _ _ => true
  | .vfEnableSet _ => true
  | .pairResetDone _ => true
  | .lossyEnd => true
  | .vauxLow => true
  | .holdupCollapse => true

end Sys2Proof
end

