-- ==== Sys2Proof/Laws/PerInstr.lean ====
section
/-!
SUPPORT. One lemma per command: a well-formed command that names a partition names one of 1 to 63.
-/
namespace Sys2Proof.Laws.Shape

/-- A well-formed command of the partition rows names no partition 0. -/
def Statement (i : Instr) : Prop := i.wf = true → i.part ≠ some 0

theorem add (c : Fin 96) (d : BitVec 5) (a : BitVec 5) (b : BitVec 5) :
    Statement (.add c d a b) := fun _ e => by cases e
theorem sub (c : Fin 96) (d : BitVec 5) (a : BitVec 5) (b : BitVec 5) :
    Statement (.sub c d a b) := fun _ e => by cases e
theorem addu (c : Fin 96) (d : BitVec 5) (a : BitVec 5) (b : BitVec 5) :
    Statement (.addu c d a b) := fun _ e => by cases e
theorem subu (c : Fin 96) (d : BitVec 5) (a : BitVec 5) (b : BitVec 5) :
    Statement (.subu c d a b) := fun _ e => by cases e
theorem addc (c : Fin 96) (d : BitVec 5) (a : BitVec 5) (b : BitVec 5) :
    Statement (.addc c d a b) := fun _ e => by cases e
theorem subb (c : Fin 96) (d : BitVec 5) (a : BitVec 5) (b : BitVec 5) :
    Statement (.subb c d a b) := fun _ e => by cases e
theorem mul (c : Fin 96) (d : BitVec 5) (a : BitVec 5) (b : BitVec 5) :
    Statement (.mul c d a b) := fun _ e => by cases e
theorem mulh (c : Fin 96) (d : BitVec 5) (a : BitVec 5) (b : BitVec 5) :
    Statement (.mulh c d a b) := fun _ e => by cases e
theorem mulhu (c : Fin 96) (d : BitVec 5) (a : BitVec 5) (b : BitVec 5) :
    Statement (.mulhu c d a b) := fun _ e => by cases e
theorem mulw (c : Fin 96) (d : BitVec 5) (a : BitVec 5) (b : BitVec 5) :
    Statement (.mulw c d a b) := fun _ e => by cases e
theorem mulwu (c : Fin 96) (d : BitVec 5) (a : BitVec 5) (b : BitVec 5) :
    Statement (.mulwu c d a b) := fun _ e => by cases e
theorem div (c : Fin 96) (d : BitVec 5) (a : BitVec 5) (b : BitVec 5) :
    Statement (.div c d a b) := fun _ e => by cases e
theorem divu (c : Fin 96) (d : BitVec 5) (a : BitVec 5) (b : BitVec 5) :
    Statement (.divu c d a b) := fun _ e => by cases e
theorem rem (c : Fin 96) (d : BitVec 5) (a : BitVec 5) (b : BitVec 5) :
    Statement (.rem c d a b) := fun _ e => by cases e
theorem remu (c : Fin 96) (d : BitVec 5) (a : BitVec 5) (b : BitVec 5) :
    Statement (.remu c d a b) := fun _ e => by cases e
theorem andd (c : Fin 96) (d : BitVec 5) (a : BitVec 5) (b : BitVec 5) :
    Statement (.andd c d a b) := fun _ e => by cases e
theorem orr (c : Fin 96) (d : BitVec 5) (a : BitVec 5) (b : BitVec 5) :
    Statement (.orr c d a b) := fun _ e => by cases e
theorem xorr (c : Fin 96) (d : BitVec 5) (a : BitVec 5) (b : BitVec 5) :
    Statement (.xorr c d a b) := fun _ e => by cases e
theorem andn (c : Fin 96) (d : BitVec 5) (a : BitVec 5) (b : BitVec 5) :
    Statement (.andn c d a b) := fun _ e => by cases e
theorem nott (c : Fin 96) (d : BitVec 5) (a : BitVec 5) (b : BitVec 5) :
    Statement (.nott c d a b) := fun _ e => by cases e
theorem shl (c : Fin 96) (d : BitVec 5) (a : BitVec 5) (b : BitVec 5) :
    Statement (.shl c d a b) := fun _ e => by cases e
theorem shr (c : Fin 96) (d : BitVec 5) (a : BitVec 5) (b : BitVec 5) :
    Statement (.shr c d a b) := fun _ e => by cases e
theorem sra (c : Fin 96) (d : BitVec 5) (a : BitVec 5) (b : BitVec 5) :
    Statement (.sra c d a b) := fun _ e => by cases e
theorem rotl (c : Fin 96) (d : BitVec 5) (a : BitVec 5) (b : BitVec 5) :
    Statement (.rotl c d a b) := fun _ e => by cases e
theorem cmp (c : Fin 96) (d : BitVec 5) (a : BitVec 5) (b : BitVec 5) :
    Statement (.cmp c d a b) := fun _ e => by cases e
theorem cmpu (c : Fin 96) (d : BitVec 5) (a : BitVec 5) (b : BitVec 5) :
    Statement (.cmpu c d a b) := fun _ e => by cases e
theorem mov (c : Fin 96) (d : BitVec 5) (a : BitVec 5) (b : BitVec 5) :
    Statement (.mov c d a b) := fun _ e => by cases e
theorem clz (c : Fin 96) (d : BitVec 5) (a : BitVec 5) (b : BitVec 5) :
    Statement (.clz c d a b) := fun _ e => by cases e
theorem ctz (c : Fin 96) (d : BitVec 5) (a : BitVec 5) (b : BitVec 5) :
    Statement (.ctz c d a b) := fun _ e => by cases e
theorem popc (c : Fin 96) (d : BitVec 5) (a : BitVec 5) (b : BitVec 5) :
    Statement (.popc c d a b) := fun _ e => by cases e
theorem sextb (c : Fin 96) (d : BitVec 5) (a : BitVec 5) (b : BitVec 5) :
    Statement (.sextb c d a b) := fun _ e => by cases e
theorem sexth (c : Fin 96) (d : BitVec 5) (a : BitVec 5) (b : BitVec 5) :
    Statement (.sexth c d a b) := fun _ e => by cases e
theorem sextw (c : Fin 96) (d : BitVec 5) (a : BitVec 5) (b : BitVec 5) :
    Statement (.sextw c d a b) := fun _ e => by cases e
theorem min (c : Fin 96) (d : BitVec 5) (a : BitVec 5) (b : BitVec 5) :
    Statement (.min c d a b) := fun _ e => by cases e
theorem max (c : Fin 96) (d : BitVec 5) (a : BitVec 5) (b : BitVec 5) :
    Statement (.max c d a b) := fun _ e => by cases e
theorem minu (c : Fin 96) (d : BitVec 5) (a : BitVec 5) (b : BitVec 5) :
    Statement (.minu c d a b) := fun _ e => by cases e
theorem maxu (c : Fin 96) (d : BitVec 5) (a : BitVec 5) (b : BitVec 5) :
    Statement (.maxu c d a b) := fun _ e => by cases e
theorem txup (c : Fin 96) (d : BitVec 5) (a : BitVec 5) (b : BitVec 5) :
    Statement (.txup c d a b) := fun _ e => by cases e
theorem txlow (c : Fin 96) (d : BitVec 5) (a : BitVec 5) (b : BitVec 5) :
    Statement (.txlow c d a b) := fun _ e => by cases e
theorem movs (c : Fin 96) (d : BitVec 5) (a : BitVec 5) (b : BitVec 5) :
    Statement (.movs c d a b) := fun _ e => by cases e
theorem gettag (c : Fin 96) (d : BitVec 5) (a : BitVec 5) (b : BitVec 5) :
    Statement (.gettag c d a b) := fun _ e => by cases e
theorem settag (c : Fin 96) (d : BitVec 5) (a : BitVec 5) (b : BitVec 5) :
    Statement (.settag c d a b) := fun _ e => by cases e
theorem rcpt (c : Fin 96) (d : BitVec 5) (a : BitVec 5) (b : BitVec 5) :
    Statement (.rcpt c d a b) := fun _ e => by cases e
theorem addi (c : Fin 96) (d : BitVec 5) (a : BitVec 5) (imm : BitVec 15) :
    Statement (.addi c d a imm) := fun _ e => by cases e
theorem andi (c : Fin 96) (d : BitVec 5) (a : BitVec 5) (imm : BitVec 15) :
    Statement (.andi c d a imm) := fun _ e => by cases e
theorem ori (c : Fin 96) (d : BitVec 5) (a : BitVec 5) (imm : BitVec 15) :
    Statement (.ori c d a imm) := fun _ e => by cases e
theorem xori (c : Fin 96) (d : BitVec 5) (a : BitVec 5) (imm : BitVec 15) :
    Statement (.xori c d a imm) := fun _ e => by cases e
theorem cmpi (c : Fin 96) (d : BitVec 5) (a : BitVec 5) (imm : BitVec 15) :
    Statement (.cmpi c d a imm) := fun _ e => by cases e
theorem cmpui (c : Fin 96) (d : BitVec 5) (a : BitVec 5) (imm : BitVec 15) :
    Statement (.cmpui c d a imm) := fun _ e => by cases e
theorem shi (c : Fin 96) (d : BitVec 5) (a : BitVec 5) (imm : BitVec 15) :
    Statement (.shi c d a imm) := fun _ e => by cases e
theorem ins16 (c : Fin 96) (d : BitVec 5) (rsv : BitVec 2) (k : BitVec 2) (imm : BitVec 16) :
    Statement (.ins16 c d rsv k imm) := fun _ e => by cases e
theorem movi (c : Fin 96) (d : BitVec 5) (imm : BitVec 20) :
    Statement (.movi c d imm) := fun _ e => by cases e
theorem la (c : Fin 96) (d : BitVec 5) (a : BitVec 5) (imm : BitVec 15) :
    Statement (.la c d a imm) := fun _ e => by cases e
theorem ld (c : Fin 96) (d : BitVec 5) (a : BitVec 5) (imm : BitVec 15) :
    Statement (.ld c d a imm) := fun _ e => by cases e
theorem st (c : Fin 96) (d : BitVec 5) (a : BitVec 5) (imm : BitVec 15) :
    Statement (.st c d a imm) := fun _ e => by cases e
theorem lb (c : Fin 96) (d : BitVec 5) (a : BitVec 5) (imm : BitVec 15) :
    Statement (.lb c d a imm) := fun _ e => by cases e
theorem lbu (c : Fin 96) (d : BitVec 5) (a : BitVec 5) (imm : BitVec 15) :
    Statement (.lbu c d a imm) := fun _ e => by cases e
theorem lh (c : Fin 96) (d : BitVec 5) (a : BitVec 5) (imm : BitVec 15) :
    Statement (.lh c d a imm) := fun _ e => by cases e
theorem lhu (c : Fin 96) (d : BitVec 5) (a : BitVec 5) (imm : BitVec 15) :
    Statement (.lhu c d a imm) := fun _ e => by cases e
theorem lw (c : Fin 96) (d : BitVec 5) (a : BitVec 5) (imm : BitVec 15) :
    Statement (.lw c d a imm) := fun _ e => by cases e
theorem lwu (c : Fin 96) (d : BitVec 5) (a : BitVec 5) (imm : BitVec 15) :
    Statement (.lwu c d a imm) := fun _ e => by cases e
theorem sb (c : Fin 96) (d : BitVec 5) (a : BitVec 5) (imm : BitVec 15) :
    Statement (.sb c d a imm) := fun _ e => by cases e
theorem sh (c : Fin 96) (d : BitVec 5) (a : BitVec 5) (imm : BitVec 15) :
    Statement (.sh c d a imm) := fun _ e => by cases e
theorem sw (c : Fin 96) (d : BitVec 5) (a : BitVec 5) (imm : BitVec 15) :
    Statement (.sw c d a imm) := fun _ e => by cases e
theorem ldf (c : Fin 96) (d : BitVec 5) (a : BitVec 5) (imm : BitVec 15) :
    Statement (.ldf c d a imm) := fun _ e => by cases e
theorem stf (c : Fin 96) (d : BitVec 5) (a : BitVec 5) (imm : BitVec 15) :
    Statement (.stf c d a imm) := fun _ e => by cases e
theorem indexedAccess (c : Fin 96) (d : BitVec 5) (a : BitVec 5) (b : BitVec 5) (fn : BitVec 10) :
    Statement (.indexedAccess c d a b fn) := fun _ e => by cases e
theorem movsL (c : Fin 96) (d : BitVec 5) (a : BitVec 5) (imm : BitVec 15) :
    Statement (.movsL c d a imm) := fun _ e => by cases e
theorem movsS (c : Fin 96) (d : BitVec 5) (a : BitVec 5) (imm : BitVec 15) :
    Statement (.movsS c d a imm) := fun _ e => by cases e
theorem tagm (c : Fin 96) (d : BitVec 5) (a : BitVec 5) (imm : BitVec 15) :
    Statement (.tagm c d a imm) := fun _ e => by cases e
theorem b (c : Fin 96) (disp : BitVec 25) :
    Statement (.b c disp) := fun _ e => by cases e
theorem call (c : Fin 96) (d : BitVec 5) (imm : BitVec 20) :
    Statement (.call c d imm) := fun _ e => by cases e
theorem bc (c : Fin 96) (cond : BitVec 3) (disp : BitVec 22) :
    Statement (.bc c cond disp) := fun _ e => by cases e
theorem cb (c : Fin 96) (cond : BitVec 3) (a : BitVec 5) (b : BitVec 5) (disp : BitVec 12) :
    Statement (.cb c cond a b disp) := fun _ e => by cases e
theorem loop (c : Fin 96) (d : BitVec 5) (imm : BitVec 20) :
    Statement (.loop c d imm) := fun _ e => by cases e
theorem br (c : Fin 96) (d : BitVec 5) (a : BitVec 5) (b : BitVec 5) :
    Statement (.br c d a b) := fun _ e => by cases e
theorem callr (c : Fin 96) (d : BitVec 5) (a : BitVec 5) (b : BitVec 5) :
    Statement (.callr c d a b) := fun _ e => by cases e
theorem lexit (c : Fin 96) (d : BitVec 5) (x : BitVec 5) (t : BitVec 3) :
    Statement (.lexit c d x t) := fun _ e => by cases e
theorem shortNop (c : Fin 96) (d : BitVec 5) (a : BitVec 5) :
    Statement (.shortNop c d a) := fun _ e => by cases e
theorem pairedWord (c : Fin 96) (slotA : BitVec 15) (slotB : BitVec 15) :
    Statement (.pairedWord c slotA slotB) := fun _ e => by cases e
theorem rdtime (c : Fin 96) (d : BitVec 5) (x : BitVec 5) (t : BitVec 3) :
    Statement (.rdtime c d x t) := fun _ e => by cases e
theorem mfc (c : Fin 96) (d : BitVec 5) (x : BitVec 5) (t : BitVec 3) :
    Statement (.mfc c d x t) := fun _ e => by cases e
theorem mtc (c : Fin 96) (d : BitVec 5) (x : BitVec 5) (t : BitVec 3) :
    Statement (.mtc c d x t) := fun _ e => by cases e
theorem mfpsw (c : Fin 96) (d : BitVec 5) (x : BitVec 5) (t : BitVec 3) :
    Statement (.mfpsw c d x t) := fun _ e => by cases e
theorem mtpsw (c : Fin 96) (d : BitVec 5) (x : BitVec 5) (t : BitVec 3) :
    Statement (.mtpsw c d x t) := fun _ e => by cases e
theorem rfe (c : Fin 96) (d : BitVec 5) (x : BitVec 5) (t : BitVec 3) :
    Statement (.rfe c d x t) := fun _ e => by cases e
theorem rfn (c : Fin 96) (d : BitVec 5) (x : BitVec 5) (t : BitVec 3) :
    Statement (.rfn c d x t) := fun _ e => by cases e
theorem svc (c : Fin 96) (rsv : BitVec 9) (imm : BitVec 16) :
    Statement (.svc c rsv imm) := fun _ e => by cases e
theorem brk (c : Fin 96) (d : BitVec 5) (x : BitVec 5) (t : BitVec 3) :
    Statement (.brk c d x t) := fun _ e => by cases e
theorem wait (c : Fin 96) (d : BitVec 5) (x : BitVec 5) (t : BitVec 3) :
    Statement (.wait c d x t) := fun _ e => by cases e
theorem rdev (c : Fin 96) (d : BitVec 5) (x : BitVec 5) (t : BitVec 3) :
    Statement (.rdev c d x t) := fun _ e => by cases e
theorem clrev (c : Fin 96) (d : BitVec 5) (x : BitVec 5) (t : BitVec 3) :
    Statement (.clrev c d x t) := fun _ e => by cases e
theorem setev (c : Fin 96) (d : BitVec 5) (x : BitVec 5) (t : BitVec 3) :
    Statement (.setev c d x t) := fun _ e => by cases e
theorem fenceM (c : Fin 96) (d : BitVec 5) (x : BitVec 5) (t : BitVec 3) :
    Statement (.fenceM c d x t) := fun _ e => by cases e
theorem fenceIo (c : Fin 96) (d : BitVec 5) (x : BitVec 5) (t : BitVec 3) :
    Statement (.fenceIo c d x t) := fun _ e => by cases e
theorem tlbi (c : Fin 96) (d : BitVec 5) (x : BitVec 5) (t : BitVec 3) :
    Statement (.tlbi c d x t) := fun _ e => by cases e
theorem tlbia (c : Fin 96) (d : BitVec 5) (x : BitVec 5) (t : BitVec 3) :
    Statement (.tlbia c d x t) := fun _ e => by cases e
theorem cleanL (c : Fin 96) (d : BitVec 5) (x : BitVec 5) (t : BitVec 3) :
    Statement (.cleanL c d x t) := fun _ e => by cases e
theorem flushL (c : Fin 96) (d : BitVec 5) (x : BitVec 5) (t : BitVec 3) :
    Statement (.flushL c d x t) := fun _ e => by cases e
theorem pref (c : Fin 96) (d : BitVec 5) (x : BitVec 5) (t : BitVec 3) :
    Statement (.pref c d x t) := fun _ e => by cases e
theorem fadd (c : Fin 96) (fmt : BitVec 2) (d : BitVec 5) (a : BitVec 5) (b : BitVec 5) :
    Statement (.fadd c fmt d a b) := fun _ e => by cases e
theorem fsub (c : Fin 96) (fmt : BitVec 2) (d : BitVec 5) (a : BitVec 5) (b : BitVec 5) :
    Statement (.fsub c fmt d a b) := fun _ e => by cases e
theorem fmul (c : Fin 96) (fmt : BitVec 2) (d : BitVec 5) (a : BitVec 5) (b : BitVec 5) :
    Statement (.fmul c fmt d a b) := fun _ e => by cases e
theorem fdiv (c : Fin 96) (fmt : BitVec 2) (d : BitVec 5) (a : BitVec 5) (b : BitVec 5) :
    Statement (.fdiv c fmt d a b) := fun _ e => by cases e
theorem fsqrt (c : Fin 96) (fmt : BitVec 2) (d : BitVec 5) (a : BitVec 5) (b : BitVec 5) :
    Statement (.fsqrt c fmt d a b) := fun _ e => by cases e
theorem fmin (c : Fin 96) (fmt : BitVec 2) (d : BitVec 5) (a : BitVec 5) (b : BitVec 5) :
    Statement (.fmin c fmt d a b) := fun _ e => by cases e
theorem fmax (c : Fin 96) (fmt : BitVec 2) (d : BitVec 5) (a : BitVec 5) (b : BitVec 5) :
    Statement (.fmax c fmt d a b) := fun _ e => by cases e
theorem fabs (c : Fin 96) (fmt : BitVec 2) (d : BitVec 5) (a : BitVec 5) (b : BitVec 5) :
    Statement (.fabs c fmt d a b) := fun _ e => by cases e
theorem fneg (c : Fin 96) (fmt : BitVec 2) (d : BitVec 5) (a : BitVec 5) (b : BitVec 5) :
    Statement (.fneg c fmt d a b) := fun _ e => by cases e
theorem fcpys (c : Fin 96) (fmt : BitVec 2) (d : BitVec 5) (a : BitVec 5) (b : BitVec 5) :
    Statement (.fcpys c fmt d a b) := fun _ e => by cases e
theorem fcmp (c : Fin 96) (fmt : BitVec 2) (d : BitVec 5) (a : BitVec 5) (b : BitVec 5) :
    Statement (.fcmp c fmt d a b) := fun _ e => by cases e
theorem fcmps (c : Fin 96) (fmt : BitVec 2) (d : BitVec 5) (a : BitVec 5) (b : BitVec 5) :
    Statement (.fcmps c fmt d a b) := fun _ e => by cases e
theorem fcvtDS (c : Fin 96) (fmt : BitVec 2) (d : BitVec 5) (a : BitVec 5) (b : BitVec 5) :
    Statement (.fcvtDS c fmt d a b) := fun _ e => by cases e
theorem fcvtSD (c : Fin 96) (fmt : BitVec 2) (d : BitVec 5) (a : BitVec 5) (b : BitVec 5) :
    Statement (.fcvtSD c fmt d a b) := fun _ e => by cases e
theorem fcvtL (c : Fin 96) (fmt : BitVec 2) (d : BitVec 5) (a : BitVec 5) (b : BitVec 5) :
    Statement (.fcvtL c fmt d a b) := fun _ e => by cases e
theorem fcvtLu (c : Fin 96) (fmt : BitVec 2) (d : BitVec 5) (a : BitVec 5) (b : BitVec 5) :
    Statement (.fcvtLu c fmt d a b) := fun _ e => by cases e
theorem fcvtFl (c : Fin 96) (fmt : BitVec 2) (d : BitVec 5) (a : BitVec 5) (b : BitVec 5) :
    Statement (.fcvtFl c fmt d a b) := fun _ e => by cases e
theorem fcvtFlu (c : Fin 96) (fmt : BitVec 2) (d : BitVec 5) (a : BitVec 5) (b : BitVec 5) :
    Statement (.fcvtFlu c fmt d a b) := fun _ e => by cases e
theorem fmvFg (c : Fin 96) (fmt : BitVec 2) (d : BitVec 5) (a : BitVec 5) (b : BitVec 5) :
    Statement (.fmvFg c fmt d a b) := fun _ e => by cases e
theorem fmvGf (c : Fin 96) (fmt : BitVec 2) (d : BitVec 5) (a : BitVec 5) (b : BitVec 5) :
    Statement (.fmvGf c fmt d a b) := fun _ e => by cases e
theorem fmv (c : Fin 96) (fmt : BitVec 2) (d : BitVec 5) (a : BitVec 5) (b : BitVec 5) :
    Statement (.fmv c fmt d a b) := fun _ e => by cases e
theorem fmadd (c : Fin 96) (fmt : BitVec 2) (d : BitVec 5) (a : BitVec 5) (b : BitVec 5) (k : BitVec 5) :
    Statement (.fmadd c fmt d a b k) := fun _ e => by cases e
theorem fmsub (c : Fin 96) (fmt : BitVec 2) (d : BitVec 5) (a : BitVec 5) (b : BitVec 5) (k : BitVec 5) :
    Statement (.fmsub c fmt d a b k) := fun _ e => by cases e
theorem fnmadd (c : Fin 96) (fmt : BitVec 2) (d : BitVec 5) (a : BitVec 5) (b : BitVec 5) (k : BitVec 5) :
    Statement (.fnmadd c fmt d a b k) := fun _ e => by cases e
theorem fnmsub (c : Fin 96) (fmt : BitVec 2) (d : BitVec 5) (a : BitVec 5) (b : BitVec 5) (k : BitVec 5) :
    Statement (.fnmsub c fmt d a b k) := fun _ e => by cases e
theorem aadd (c : Fin 96) (d : BitVec 5) (a : BitVec 5) (b : BitVec 5) :
    Statement (.aadd c d a b) := fun _ e => by cases e
theorem aand (c : Fin 96) (d : BitVec 5) (a : BitVec 5) (b : BitVec 5) :
    Statement (.aand c d a b) := fun _ e => by cases e
theorem aor (c : Fin 96) (d : BitVec 5) (a : BitVec 5) (b : BitVec 5) :
    Statement (.aor c d a b) := fun _ e => by cases e
theorem axor (c : Fin 96) (d : BitVec 5) (a : BitVec 5) (b : BitVec 5) :
    Statement (.axor c d a b) := fun _ e => by cases e
theorem aswap (c : Fin 96) (d : BitVec 5) (a : BitVec 5) (b : BitVec 5) :
    Statement (.aswap c d a b) := fun _ e => by cases e
theorem acas (c : Fin 96) (d : BitVec 5) (a : BitVec 5) (b : BitVec 5) :
    Statement (.acas c d a b) := fun _ e => by cases e
theorem amin (c : Fin 96) (d : BitVec 5) (a : BitVec 5) (b : BitVec 5) :
    Statement (.amin c d a b) := fun _ e => by cases e
theorem amax (c : Fin 96) (d : BitVec 5) (a : BitVec 5) (b : BitVec 5) :
    Statement (.amax c d a b) := fun _ e => by cases e
theorem aminu (c : Fin 96) (d : BitVec 5) (a : BitVec 5) (b : BitVec 5) :
    Statement (.aminu c d a b) := fun _ e => by cases e
theorem amaxu (c : Fin 96) (d : BitVec 5) (a : BitVec 5) (b : BitVec 5) :
    Statement (.amaxu c d a b) := fun _ e => by cases e
theorem iold (c : Fin 96) (d : BitVec 5) (a : BitVec 5) (imm : BitVec 15) :
    Statement (.iold c d a imm) := fun _ e => by cases e
theorem iost (c : Fin 96) (d : BitVec 5) (a : BitVec 5) (imm : BitVec 15) :
    Statement (.iost c d a imm) := fun _ e => by cases e
theorem cqpost (c : Fin 96) (d : BitVec 5) (x : BitVec 5) (t : BitVec 3) :
    Statement (.cqpost c d x t) := fun _ e => by cases e
theorem zqpost (c : Fin 96) (d : BitVec 5) (x : BitVec 5) (t : BitVec 3) :
    Statement (.zqpost c d x t) := fun _ e => by cases e
theorem mvgo (c : Fin 96) (d : BitVec 5) (x : BitVec 5) (t : BitVec 3) :
    Statement (.mvgo c d x t) := fun _ e => by cases e
theorem mvsync (c : Fin 96) (d : BitVec 5) (x : BitVec 5) (t : BitVec 3) :
    Statement (.mvsync c d x t) := fun _ e => by cases e
theorem jcommit (c : Fin 96) (d : BitVec 5) (x : BitVec 5) (t : BitVec 3) :
    Statement (.jcommit c d x t) := fun _ e => by cases e
theorem movb (c : Fin 96) (d : BitVec 5) (x : BitVec 5) (t : BitVec 3) :
    Statement (.movb c d x t) := fun _ e => by cases e
theorem fillb (c : Fin 96) (d : BitVec 5) (x : BitVec 5) (t : BitVec 3) :
    Statement (.fillb c d x t) := fun _ e => by cases e
theorem cmpb (c : Fin 96) (d : BitVec 5) (x : BitVec 5) (t : BitVec 3) :
    Statement (.cmpb c d x t) := fun _ e => by cases e
theorem scanb (c : Fin 96) (d : BitVec 5) (x : BitVec 5) (t : BitVec 3) :
    Statement (.scanb c d x t) := fun _ e => by cases e
theorem mapb (c : Fin 96) (d : BitVec 5) (x : BitVec 5) (t : BitVec 3) :
    Statement (.mapb c d x t) := fun _ e => by cases e
theorem crcb (c : Fin 96) (d : BitVec 5) (x : BitVec 5) (t : BitVec 3) :
    Statement (.crcb c d x t) := fun _ e => by cases e
theorem dadd (c : Fin 96) (l1 : BitVec 5) (l2 : BitVec 5) (b1 : BitVec 5) (b2 : BitVec 5) :
    Statement (.dadd c l1 l2 b1 b2) := fun _ e => by cases e
theorem dsub (c : Fin 96) (l1 : BitVec 5) (l2 : BitVec 5) (b1 : BitVec 5) (b2 : BitVec 5) :
    Statement (.dsub c l1 l2 b1 b2) := fun _ e => by cases e
theorem dmul (c : Fin 96) (l1 : BitVec 5) (l2 : BitVec 5) (b1 : BitVec 5) (b2 : BitVec 5) :
    Statement (.dmul c l1 l2 b1 b2) := fun _ e => by cases e
theorem ddiv (c : Fin 96) (l1 : BitVec 5) (l2 : BitVec 5) (b1 : BitVec 5) (b2 : BitVec 5) :
    Statement (.ddiv c l1 l2 b1 b2) := fun _ e => by cases e
theorem drem (c : Fin 96) (l1 : BitVec 5) (l2 : BitVec 5) (b1 : BitVec 5) (b2 : BitVec 5) :
    Statement (.drem c l1 l2 b1 b2) := fun _ e => by cases e
theorem dsrr (c : Fin 96) (l1 : BitVec 5) (l2 : BitVec 5) (b1 : BitVec 5) (b2 : BitVec 5) :
    Statement (.dsrr c l1 l2 b1 b2) := fun _ e => by cases e
theorem dcmp (c : Fin 96) (l1 : BitVec 5) (l2 : BitVec 5) (b1 : BitVec 5) (b2 : BitVec 5) :
    Statement (.dcmp c l1 l2 b1 b2) := fun _ e => by cases e
theorem dzadd (c : Fin 96) (l1 : BitVec 5) (l2 : BitVec 5) (b1 : BitVec 5) (b2 : BitVec 5) :
    Statement (.dzadd c l1 l2 b1 b2) := fun _ e => by cases e
theorem dtest (c : Fin 96) (l1 : BitVec 5) (l2 : BitVec 5) (b1 : BitVec 5) (b2 : BitVec 5) :
    Statement (.dtest c l1 l2 b1 b2) := fun _ e => by cases e
theorem cvdb (c : Fin 96) (l1 : BitVec 5) (l2 : BitVec 5) (b1 : BitVec 5) (b2 : BitVec 5) :
    Statement (.cvdb c l1 l2 b1 b2) := fun _ e => by cases e
theorem cvbd (c : Fin 96) (l1 : BitVec 5) (l2 : BitVec 5) (b1 : BitVec 5) (b2 : BitVec 5) :
    Statement (.cvbd c l1 l2 b1 b2) := fun _ e => by cases e
theorem packa (c : Fin 96) (l1 : BitVec 5) (l2 : BitVec 5) (b1 : BitVec 5) (b2 : BitVec 5) :
    Statement (.packa c l1 l2 b1 b2) := fun _ e => by cases e
theorem unpka (c : Fin 96) (l1 : BitVec 5) (l2 : BitVec 5) (b1 : BitVec 5) (b2 : BitVec 5) :
    Statement (.unpka c l1 l2 b1 b2) := fun _ e => by cases e
theorem eventInterrupt (c : Fin 96) :
    Statement (.eventInterrupt c) := fun _ e => by cases e
theorem nmiEntry (c : Fin 96) :
    Statement (.nmiEntry c) := fun _ e => by cases e
theorem timerCompare (c : Fin 96) :
    Statement (.timerCompare c) := fun _ e => by cases e
theorem windowComparison (c : Fin 96) (trail : Word) :
    Statement (.windowComparison c trail) := fun _ e => by cases e
theorem detectedError (c : Fin 96) (trailing : Bool) (ckptBadL : Bool) (ckptBadT : Bool) :
    Statement (.detectedError c trailing ckptBadL ckptBadT) := fun _ e => by cases e
theorem gateStoreRelease (c : Fin 96) :
    Statement (.gateStoreRelease c) := fun _ e => by cases e
theorem externalOpIssue (c : Fin 96) (op : ExtOp) :
    Statement (.externalOpIssue c op) := fun _ e => by cases e
theorem externalOpResult (c : Fin 96) :
    Statement (.externalOpResult c) := fun _ e => by cases e
theorem spareSelfTest (p : Fin 48) (passed : Bool) :
    Statement (.spareSelfTest p passed) := fun _ e => by cases e
theorem stewardSparing (c : Fin 96) (spare : Fin 96) :
    Statement (.stewardSparing c spare) := fun _ e => by cases e
theorem fencedL2Empty (p : Fin 48) :
    Statement (.fencedL2Empty p) := fun _ e => by cases e
theorem pairRoleWrite (w : Writer) (p : Fin 48) (v : Word) (be : Byte) :
    Statement (.pairRoleWrite w p v be) := fun _ e => by cases e
theorem pairTestWrite (w : Writer) (p : Fin 48) (v : Word) (be : Byte) :
    Statement (.pairTestWrite w p v be) := fun _ e => by cases e
theorem pairCkptWrite (w : Writer) (p : Fin 48) (off : BitVec 12) (v : Word) (be : Byte) :
    Statement (.pairCkptWrite w p off v be) := fun _ e => by cases e
theorem patchLoadGo (w : Writer) (v : Word) (be : Byte) :
    Statement (.patchLoadGo w v be) := fun _ e => by cases e
theorem patchLoadDone (img : Option PatchImg) :
    Statement (.patchLoadDone img) := fun _ e => by cases e
theorem ucsLock (w : Writer) (v : Word) (be : Byte) :
    Statement (.ucsLock w v be) := fun _ e => by cases e
theorem ucsDisable (w : Writer) (v : Word) (be : Byte) :
    Statement (.ucsDisable w v be) := fun _ e => by cases e
theorem ucsPeek (w : Writer) (v : Word) (be : Byte) :
    Statement (.ucsPeek w v be) := fun _ e => by cases e
theorem patchRamScrub (c : Fin 96) (word : Fin 1024) (corrected : Bool) (uncorrected : Bool) :
    Statement (.patchRamScrub c word corrected uncorrected) := fun _ e => by cases e
theorem homeReadshared (p : Fin 48) (line : BitVec 39) :
    Statement (.homeReadshared p line) := fun _ e => by cases e
theorem homeReadown (p : Fin 48) (line : BitVec 39) :
    Statement (.homeReadown p line) := fun _ e => by cases e
theorem homeUpgrade (p : Fin 48) (line : BitVec 39) :
    Statement (.homeUpgrade p line) := fun _ e => by cases e
theorem homeWriteback (p : Fin 48) (line : BitVec 39) :
    Statement (.homeWriteback p line) := fun _ e => by cases e
theorem homeEvictclean (p : Fin 48) (line : BitVec 39) :
    Statement (.homeEvictclean p line) := fun _ e => by cases e
theorem homeWritefull (p : Fin 48) (line : BitVec 39) :
    Statement (.homeWritefull p line) := fun _ e => by cases e
theorem homeRelease (p : Fin 48) (line : BitVec 39) :
    Statement (.homeRelease p line) := fun _ e => by cases e
theorem homeClean (p : Fin 48) (line : BitVec 39) :
    Statement (.homeClean p line) := fun _ e => by cases e
theorem homeFlush (p : Fin 48) (line : BitVec 39) :
    Statement (.homeFlush p line) := fun _ e => by cases e
theorem homeFarAtomic (p : Fin 48) (line : BitVec 39) :
    Statement (.homeFarAtomic p line) := fun _ e => by cases e
theorem homeSnoopAnswer (p : Fin 48) (line : BitVec 39) :
    Statement (.homeSnoopAnswer p line) := fun _ e => by cases e
theorem l2Snpshared (p : Fin 48) (line : BitVec 39) :
    Statement (.l2Snpshared p line) := fun _ e => by cases e
theorem l2Snpclean (p : Fin 48) (line : BitVec 39) :
    Statement (.l2Snpclean p line) := fun _ e => by cases e
theorem l2Snpinv (p : Fin 48) (line : BitVec 39) :
    Statement (.l2Snpinv p line) := fun _ e => by cases e
theorem l2Grant (p : Fin 48) (line : BitVec 39) (way : Fin 16) :
    Statement (.l2Grant p line way) := fun _ e => by cases e
theorem l2Ready (p : Fin 48) (line : BitVec 39) :
    Statement (.l2Ready p line) := fun _ e => by cases e
theorem l2Wback (p : Fin 48) (line : BitVec 39) :
    Statement (.l2Wback p line) := fun _ e => by cases e
theorem l2Nack (p : Fin 48) (line : BitVec 39) :
    Statement (.l2Nack p line) := fun _ e => by cases e
theorem l2NackRetry (p : Fin 48) (line : BitVec 39) :
    Statement (.l2NackRetry p line) := fun _ e => by cases e
theorem evictionWriteAccepted (sl : Fin 24) (line : BitVec 39) :
    Statement (.evictionWriteAccepted sl line) := fun _ e => by cases e
theorem coherenceTimeout (agent : BitVec 8) (line : BitVec 39) :
    Statement (.coherenceTimeout agent line) := fun _ e => by cases e
theorem coherenceLoss (sl : Fin 24) (cause : BitVec 4) (agent : BitVec 8) (line : BitVec 39) :
    Statement (.coherenceLoss sl cause agent line) := fun _ e => by cases e
theorem casWaysWrite (w : Writer) (sl : Fin 24) (v : Word) (be : Byte) :
    Statement (.casWaysWrite w sl v be) := fun _ e => by cases e
theorem casConvertDone (sl : Fin 24) :
    Statement (.casConvertDone sl) := fun _ e => by cases e
theorem casReleaseDone (sl : Fin 24) :
    Statement (.casReleaseDone sl) := fun _ e => by cases e
theorem predClear (w : Writer) (p : Fin 48) (v : Word) (be : Byte) :
    Statement (.predClear w p v be) := fun _ e => by cases e
theorem mcRead (line : BitVec 39) (chk : SectorChk) (retries : Nat) :
    Statement (.mcRead line chk retries) := fun _ e => by cases e
theorem mcWrite (line : BitVec 39) (words : List TWord) (retries : Nat) :
    Statement (.mcWrite line words retries) := fun _ e => by cases e
theorem tagBufferFill (m : Fin 16) (sector : BitVec 34) (chk : ChkRes) :
    Statement (.tagBufferFill m sector chk) := fun _ e => by cases e
theorem patrolScrub (m : Fin 16) (sector : BitVec 34) (chk : ChkRes) :
    Statement (.patrolScrub m sector chk) := fun _ e => by cases e
theorem hcsScrub (region : Fin 5) (corrected : Bool) (uncorrected : Bool) :
    Statement (.hcsScrub region corrected uncorrected) := fun _ e => by cases e
theorem extentMapWrite (w : Writer) (q : Fin 64) (cas : Bool) (i : Fin 128) (v : Word) (be : Byte) :
    Statement (.extentMapWrite w q cas i v be) := by intro h e; cases e; exact Bool.false_ne_true h
theorem unmapDone (q : Fin 64) (cas : Bool) (i : Fin 128) :
    Statement (.unmapDone q cas i) := by intro h e; cases e; exact Bool.false_ne_true h
theorem sqDoorbell (port : Fin 2) (fn : Fin 64) (qp : Fin 16) (v : Word) :
    Statement (.sqDoorbell port fn qp v) := fun _ e => by cases e
theorem cqDoorbell (port : Fin 2) (fn : Fin 64) (qp : Fin 16) (v : Word) :
    Statement (.cqDoorbell port fn qp v) := fun _ e => by cases e
theorem descriptorFetch (port : Fin 2) (fn : Fin 64) (qp : Fin 16) (wo : Fin 32768) :
    Statement (.descriptorFetch port fn qp wo) := fun _ e => by cases e
theorem work (wo : Fin 32768) (d : Desc) :
    Statement (.work wo d) := fun _ e => by cases e
theorem nopDescriptor (wo : Fin 32768) (d : Desc) :
    Statement (.nopDescriptor wo d) := fun _ e => by cases e
theorem chainReadDone (wo : Fin 32768) (ents : List (BitVec 128)) :
    Statement (.chainReadDone wo ents) := fun _ e => by cases e
theorem seginReadDone (wo : Fin 32768) (data : Bytes) (slot : Nat) :
    Statement (.seginReadDone wo data slot) := fun _ e => by cases e
theorem completionTimeout (wo : Fin 32768) :
    Statement (.completionTimeout wo) := fun _ e => by cases e
theorem responseSend (wo : Fin 32768) :
    Statement (.responseSend wo) := fun _ e => by cases e
theorem chainRereadDone (wo : Fin 32768) (ents : List (BitVec 128)) :
    Statement (.chainRereadDone wo ents) := fun _ e => by cases e
theorem coalesceTimer (port : Fin 2) (fn : Fin 64) (qp : Fin 16) :
    Statement (.coalesceTimer port fn qp) := fun _ e => by cases e
theorem qctlEnable (port : Fin 2) (fn : Fin 64) (qp : Fin 16) :
    Statement (.qctlEnable port fn qp) := fun _ e => by cases e
theorem qctlReset (port : Fin 2) (fn : Fin 64) (qp : Fin 16) :
    Statement (.qctlReset port fn qp) := fun _ e => by cases e
theorem queueResetDone (port : Fin 2) (fn : Fin 64) (qp : Fin 16) :
    Statement (.queueResetDone port fn qp) := fun _ e => by cases e
theorem pcieLinkDown (port : Fin 2) :
    Statement (.pcieLinkDown port) := fun _ e => by cases e
theorem pcieLinkUp (port : Fin 2) (speed : Fin 8) (width : Fin 16) :
    Statement (.pcieLinkUp port speed width) := fun _ e => by cases e
theorem perst (port : Fin 2) :
    Statement (.perst port) := fun _ e => by cases e
theorem hotReset (port : Fin 2) :
    Statement (.hotReset port) := fun _ e => by cases e
theorem functionLevelReset (port : Fin 2) (fn : Fin 64) :
    Statement (.functionLevelReset port fn) := fun _ e => by cases e
theorem vfEnableClear (port : Fin 2) :
    Statement (.vfEnableClear port) := fun _ e => by cases e
theorem numvfsWrite (port : Fin 2) (n : BitVec 16) :
    Statement (.numvfsWrite port n) := fun _ e => by cases e
theorem pcieErrorDetected (port : Fin 2) (k : Fin 8) (wo : Option (Fin 32768)) :
    Statement (.pcieErrorDetected port k wo) := fun _ e => by cases e
theorem hifVfbindWrite (w : Writer) (port : Fin 2) (vf : Fin 64) (v : Word) (be : Byte) :
    Statement (.hifVfbindWrite w port vf v be) := fun _ e => by cases e
theorem hifCfgLock (w : Writer) (port : Fin 2) (v : Word) (be : Byte) :
    Statement (.hifCfgLock w port v be) := fun _ e => by cases e
theorem partCreate (w : Writer) (q : Fin 64) :
    Statement (.partCreate w q) := by intro h e; cases e; exact Bool.false_ne_true h
theorem partStart (w : Writer) (q : Fin 64) :
    Statement (.partStart w q) := by intro h e; cases e; exact Bool.false_ne_true h
theorem partFreeze (w : Writer) (q : Fin 64) :
    Statement (.partFreeze w q) := by intro h e; cases e; exact Bool.false_ne_true h
theorem partFreezeDone (q : Fin 64) :
    Statement (.partFreezeDone q) := by intro h e; cases e; exact Bool.false_ne_true h
theorem partThaw (w : Writer) (q : Fin 64) :
    Statement (.partThaw w q) := by intro h e; cases e; exact Bool.false_ne_true h
theorem partExport (w : Writer) (q : Fin 64) :
    Statement (.partExport w q) := by intro h e; cases e; exact Bool.false_ne_true h
theorem partExportConfirmed (q : Fin 64) (ok : Bool) :
    Statement (.partExportConfirmed q ok) := by intro h e; cases e; exact Bool.false_ne_true h
theorem partImport (w : Writer) (q : Fin 64) :
    Statement (.partImport w q) := by intro h e; cases e; exact Bool.false_ne_true h
theorem partImportInstalled (q : Fin 64) (img : PImage) :
    Statement (.partImportInstalled q img) := by intro h e; cases e; exact Bool.false_ne_true h
theorem partDestroy (w : Writer) (q : Fin 64) :
    Statement (.partDestroy w q) := by intro h e; cases e; exact Bool.false_ne_true h
theorem partAbort (w : Writer) (q : Fin 64) :
    Statement (.partAbort w q) := by intro h e; cases e; exact Bool.false_ne_true h
theorem partDestroyDone (q : Fin 64) :
    Statement (.partDestroyDone q) := by intro h e; cases e; exact Bool.false_ne_true h
theorem serviceEntryDeliver (q : Fin 64) (slot : Nat) :
    Statement (.serviceEntryDeliver q slot) := by intro h e; cases e; exact Bool.false_ne_true h
theorem park (c : Fin 96) :
    Statement (.park c) := fun _ e => by cases e
theorem unpark (c : Fin 96) :
    Statement (.unpark c) := fun _ e => by cases e
theorem sharePeriod :
    Statement .sharePeriod := fun _ e => by cases e
theorem mboxDbWrite (w : Writer) (m : MbId) (v : Word) (be : Byte) :
    Statement (.mboxDbWrite w m v be) := fun _ e => by cases e
theorem mboxAckWrite (w : Writer) (m : MbId) (v : Word) (be : Byte) :
    Statement (.mboxAckWrite w m v be) := fun _ e => by cases e
theorem dirtyTrackStart (w : Writer) (q : Fin 64) (v : Word) (be : Byte) :
    Statement (.dirtyTrackStart w q v be) := by intro h e; cases e; exact Bool.false_ne_true h
theorem partSnap (w : Writer) (q : Fin 64) (v : Word) (be : Byte) :
    Statement (.partSnap w q v be) := by intro h e; cases e; exact Bool.false_ne_true h
theorem dirtyScanDone (q : Fin 64) :
    Statement (.dirtyScanDone q) := by intro h e; cases e; exact Bool.false_ne_true h
theorem cqResetDone (q : Fin 64) (n : Fin 32) :
    Statement (.cqResetDone q n) := fun _ e => by cases e
theorem ecSign (q : Fin 64) (n : Fin 32) (e : Fin 112) :
    Statement (.ecSign q n e) := fun _ e => by cases e
theorem ecVerify (q : Fin 64) (n : Fin 32) (e : Fin 112) :
    Statement (.ecVerify q n e) := fun _ e => by cases e
theorem ecDh (q : Fin 64) (n : Fin 32) (e : Fin 112) :
    Statement (.ecDh q n e) := fun _ e => by cases e
theorem ecKeygen (q : Fin 64) (n : Fin 32) (e : Fin 112) :
    Statement (.ecKeygen q n e) := fun _ e => by cases e
theorem edSign (q : Fin 64) (n : Fin 32) (e : Fin 112) :
    Statement (.edSign q n e) := fun _ e => by cases e
theorem edVerify (q : Fin 64) (n : Fin 32) (e : Fin 112) :
    Statement (.edVerify q n e) := fun _ e => by cases e
theorem edKeygen (q : Fin 64) (n : Fin 32) (e : Fin 112) :
    Statement (.edKeygen q n e) := fun _ e => by cases e
theorem rsaSign (q : Fin 64) (n : Fin 32) (e : Fin 112) :
    Statement (.rsaSign q n e) := fun _ e => by cases e
theorem rsaVerify (q : Fin 64) (n : Fin 32) (e : Fin 112) :
    Statement (.rsaVerify q n e) := fun _ e => by cases e
theorem rsaEncrypt (q : Fin 64) (n : Fin 32) (e : Fin 112) :
    Statement (.rsaEncrypt q n e) := fun _ e => by cases e
theorem rsaDecrypt (q : Fin 64) (n : Fin 32) (e : Fin 112) :
    Statement (.rsaDecrypt q n e) := fun _ e => by cases e
theorem mldsaKeygen (q : Fin 64) (n : Fin 32) (e : Fin 112) :
    Statement (.mldsaKeygen q n e) := fun _ e => by cases e
theorem mldsaSign (q : Fin 64) (n : Fin 32) (e : Fin 112) :
    Statement (.mldsaSign q n e) := fun _ e => by cases e
theorem mldsaVerify (q : Fin 64) (n : Fin 32) (e : Fin 112) :
    Statement (.mldsaVerify q n e) := fun _ e => by cases e
theorem mlkemKeygen (q : Fin 64) (n : Fin 32) (e : Fin 112) :
    Statement (.mlkemKeygen q n e) := fun _ e => by cases e
theorem mlkemEncaps (q : Fin 64) (n : Fin 32) (e : Fin 112) :
    Statement (.mlkemEncaps q n e) := fun _ e => by cases e
theorem mlkemDecaps (q : Fin 64) (n : Fin 32) (e : Fin 112) :
    Statement (.mlkemDecaps q n e) := fun _ e => by cases e
theorem hybridSign (q : Fin 64) (n : Fin 32) (e : Fin 112) (e2 : Fin 112) :
    Statement (.hybridSign q n e e2) := fun _ e => by cases e
theorem hybridVerify (q : Fin 64) (n : Fin 32) (e : Fin 112) (e2 : Fin 112) :
    Statement (.hybridVerify q n e e2) := fun _ e => by cases e
theorem aesEnc (q : Fin 64) (n : Fin 32) (e : Fin 112) :
    Statement (.aesEnc q n e) := fun _ e => by cases e
theorem aesDec (q : Fin 64) (n : Fin 32) (e : Fin 112) :
    Statement (.aesDec q n e) := fun _ e => by cases e
theorem gcmSeal (q : Fin 64) (n : Fin 32) (e : Fin 112) :
    Statement (.gcmSeal q n e) := fun _ e => by cases e
theorem gcmOpen (q : Fin 64) (n : Fin 32) (e : Fin 112) :
    Statement (.gcmOpen q n e) := fun _ e => by cases e
theorem tdeaEnc (q : Fin 64) (n : Fin 32) (e : Fin 112) :
    Statement (.tdeaEnc q n e) := fun _ e => by cases e
theorem tdeaDec (q : Fin 64) (n : Fin 32) (e : Fin 112) :
    Statement (.tdeaDec q n e) := fun _ e => by cases e
theorem hash (q : Fin 64) (n : Fin 32) (e : Fin 112) :
    Statement (.hash q n e) := fun _ e => by cases e
theorem hmacGen (q : Fin 64) (n : Fin 32) (e : Fin 112) :
    Statement (.hmacGen q n e) := fun _ e => by cases e
theorem hmacVer (q : Fin 64) (n : Fin 32) (e : Fin 112) :
    Statement (.hmacVer q n e) := fun _ e => by cases e
theorem cmacGen (q : Fin 64) (n : Fin 32) (e : Fin 112) :
    Statement (.cmacGen q n e) := fun _ e => by cases e
theorem cmacVer (q : Fin 64) (n : Fin 32) (e : Fin 112) :
    Statement (.cmacVer q n e) := fun _ e => by cases e
theorem mac3Gen (q : Fin 64) (n : Fin 32) (e : Fin 112) :
    Statement (.mac3Gen q n e) := fun _ e => by cases e
theorem mac3Ver (q : Fin 64) (n : Fin 32) (e : Fin 112) :
    Statement (.mac3Ver q n e) := fun _ e => by cases e
theorem pinXlate (q : Fin 64) (n : Fin 32) (e : Fin 112) :
    Statement (.pinXlate q n e) := fun _ e => by cases e
theorem keyGen (q : Fin 64) (n : Fin 32) (e : Fin 112) :
    Statement (.keyGen q n e) := fun _ e => by cases e
theorem keyDerive (q : Fin 64) (n : Fin 32) (e : Fin 112) :
    Statement (.keyDerive q n e) := fun _ e => by cases e
theorem keyImport (q : Fin 64) (n : Fin 32) (e : Fin 112) :
    Statement (.keyImport q n e) := fun _ e => by cases e
theorem keyExport (q : Fin 64) (n : Fin 32) (e : Fin 112) :
    Statement (.keyExport q n e) := fun _ e => by cases e
theorem keyDestroy (q : Fin 64) (n : Fin 32) :
    Statement (.keyDestroy q n) := fun _ e => by cases e
theorem keyInfo (q : Fin 64) (n : Fin 32) :
    Statement (.keyInfo q n) := fun _ e => by cases e
theorem keyLookup (q : Fin 64) (n : Fin 32) :
    Statement (.keyLookup q n) := fun _ e => by cases e
theorem keyPublic (q : Fin 64) (n : Fin 32) :
    Statement (.keyPublic q n) := fun _ e => by cases e
theorem random (q : Fin 64) (n : Fin 32) (e : Fin 112) :
    Statement (.random q n e) := fun _ e => by cases e
theorem cryptoEngineDone (e : Fin 112) :
    Statement (.cryptoEngineDone e) := fun _ e => by cases e
theorem cryptoEngineError (e : Fin 112) :
    Statement (.cryptoEngineError e) := fun _ e => by cases e
theorem drbgReseed (i : Fin 4) :
    Statement (.drbgReseed i) := fun _ e => by cases e
theorem entropyFail :
    Statement .entropyFail := fun _ e => by cases e
theorem entropyRestart :
    Statement .entropyRestart := fun _ e => by cases e
theorem keyErase (dom : Fin 64) (index : Fin 16384) :
    Statement (.keyErase dom index) := fun _ e => by cases e
theorem vaultChangeDurable (dom : Fin 64) (index : Fin 16384) (backupOk : Bool) :
    Statement (.vaultChangeDurable dom index backupOk) := fun _ e => by cases e
theorem kvUncorrected (dom : Fin 64) (index : Fin 16384) :
    Statement (.kvUncorrected dom index) := fun _ e => by cases e
theorem keyComponent (wo : Fin 32768) (d : Desc) (rd : HostRd) :
    Statement (.keyComponent wo d rd) := fun _ e => by cases e
theorem keyCombine (wo : Fin 32768) (d : Desc) (rd : HostRd) :
    Statement (.keyCombine wo d rd) := fun _ e => by cases e
theorem keyComponentClear (wo : Fin 32768) (d : Desc) (rd : HostRd) :
    Statement (.keyComponentClear wo d rd) := fun _ e => by cases e
theorem keyLoadBlock (wo : Fin 32768) (d : Desc) (rd : HostRd) :
    Statement (.keyLoadBlock wo d rd) := fun _ e => by cases e
theorem keyUnloadBlock (wo : Fin 32768) (d : Desc) (rd : HostRd) :
    Statement (.keyUnloadBlock wo d rd) := fun _ e => by cases e
theorem keyDelete (wo : Fin 32768) (d : Desc) (rd : HostRd) :
    Statement (.keyDelete wo d rd) := fun _ e => by cases e
theorem keyQuery (wo : Fin 32768) (d : Desc) (rd : HostRd) :
    Statement (.keyQuery wo d rd) := fun _ e => by cases e
theorem componentExpiry (dom : Fin 64) :
    Statement (.componentExpiry dom) := fun _ e => by cases e
theorem compress (q : Fin 64) (n : Fin 32) (ce : Fin 8) :
    Statement (.compress q n ce) := fun _ e => by cases e
theorem decompress (q : Fin 64) (n : Fin 32) (ce : Fin 8) :
    Statement (.decompress q n ce) := fun _ e => by cases e
theorem compressEngineDone (ce : Fin 8) :
    Statement (.compressEngineDone ce) := fun _ e => by cases e
theorem compressEngineError (ce : Fin 8) :
    Statement (.compressEngineError ce) := fun _ e => by cases e
theorem moverChunk (ch : Fin 64) :
    Statement (.moverChunk ch) := fun _ e => by cases e
theorem moverAbort (ch : Fin 64) :
    Statement (.moverAbort ch) := fun _ e => by cases e
theorem moverSyncReturn (ch : Fin 64) (c : Fin 96) :
    Statement (.moverSyncReturn ch c) := fun _ e => by cases e
theorem portEnable (w : Writer) (l : Fin 264) (v : Word) (be : Byte) :
    Statement (.portEnable w l v be) := fun _ e => by cases e
theorem portDisable (w : Writer) (l : Fin 264) (v : Word) (be : Byte) :
    Statement (.portDisable w l v be) := fun _ e => by cases e
theorem retrain (w : Writer) (l : Fin 264) (v : Word) (be : Byte) :
    Statement (.retrain w l v be) := fun _ e => by cases e
theorem trainingDone (l : Fin 264) :
    Statement (.trainingDone l) := fun _ e => by cases e
theorem trainingTimeout (l : Fin 264) :
    Statement (.trainingTimeout l) := fun _ e => by cases e
theorem linitTimer (l : Fin 264) :
    Statement (.linitTimer l) := fun _ e => by cases e
theorem initTimeout (l : Fin 264) :
    Statement (.initTimeout l) := fun _ e => by cases e
theorem holdoffExpiry (l : Fin 264) :
    Statement (.holdoffExpiry l) := fun _ e => by cases e
theorem linit (l : Fin 264) (fr : Frame) :
    Statement (.linit l fr) := fun _ e => by cases e
theorem lack (l : Fin 264) (fr : Frame) :
    Statement (.lack l fr) := fun _ e => by cases e
theorem ldown (l : Fin 264) (fr : Frame) :
    Statement (.ldown l fr) := fun _ e => by cases e
theorem ack (l : Fin 264) (fr : Frame) :
    Statement (.ack l fr) := fun _ e => by cases e
theorem nak (l : Fin 264) (fr : Frame) :
    Statement (.nak l fr) := fun _ e => by cases e
theorem frameCheckFail (l : Fin 264) :
    Statement (.frameCheckFail l) := fun _ e => by cases e
theorem frameTransmit (l : Fin 264) :
    Statement (.frameTransmit l) := fun _ e => by cases e
theorem replayTimer (l : Fin 264) :
    Statement (.replayTimer l) := fun _ e => by cases e
theorem ackDue (l : Fin 264) :
    Statement (.ackDue l) := fun _ e => by cases e
theorem keepalive (l : Fin 264) :
    Statement (.keepalive l) := fun _ e => by cases e
theorem ackTimeout (l : Fin 264) :
    Statement (.ackTimeout l) := fun _ e => by cases e
theorem pcsLockLoss (l : Fin 264) :
    Statement (.pcsLockLoss l) := fun _ e => by cases e
theorem octetPllUnlock (o : Fin 34) :
    Statement (.octetPllUnlock o) := fun _ e => by cases e
theorem xstartRead (q : Fin 64) (n : Fin 32) (x : Fin 65536) :
    Statement (.xstartRead q n x) := fun _ e => by cases e
theorem xstartWrite (q : Fin 64) (n : Fin 32) (x : Fin 65536) :
    Statement (.xstartWrite q n x) := fun _ e => by cases e
theorem xstartCommit (q : Fin 64) (n : Fin 32) (x : Fin 65536) :
    Statement (.xstartCommit q n x) := fun _ e => by cases e
theorem xstartMessage (q : Fin 64) (n : Fin 32) (x : Fin 65536) :
    Statement (.xstartMessage q n x) := fun _ e => by cases e
theorem xstartCancel (q : Fin 64) (n : Fin 32) (x : Fin 65536) :
    Statement (.xstartCancel q n x) := fun _ e => by cases e
theorem xstartProbe (q : Fin 64) (n : Fin 32) (x : Fin 65536) :
    Statement (.xstartProbe q n x) := fun _ e => by cases e
theorem inboundRead (l : Fin 264) (fr : Frame) :
    Statement (.inboundRead l fr) := fun _ e => by cases e
theorem inboundWrite (l : Fin 264) (fr : Frame) (x : Fin 65536) :
    Statement (.inboundWrite l fr x) := fun _ e => by cases e
theorem inboundCommit (l : Fin 264) (fr : Frame) (x : Fin 65536) :
    Statement (.inboundCommit l fr x) := fun _ e => by cases e
theorem inboundMessage (l : Fin 264) (fr : Frame) (x : Fin 65536) (slot : Nat) :
    Statement (.inboundMessage l fr x slot) := fun _ e => by cases e
theorem inboundAttention (l : Fin 264) (fr : Frame) (x : Fin 65536) (slot : Nat) :
    Statement (.inboundAttention l fr x slot) := fun _ e => by cases e
theorem inboundCancel (l : Fin 264) (fr : Frame) :
    Statement (.inboundCancel l fr) := fun _ e => by cases e
theorem inboundProbe (l : Fin 264) (fr : Frame) :
    Statement (.inboundProbe l fr) := fun _ e => by cases e
theorem reqDataFrame (l : Fin 264) (fr : Frame) :
    Statement (.reqDataFrame l fr) := fun _ e => by cases e
theorem rspFrame (l : Fin 264) (fr : Frame) :
    Statement (.rspFrame l fr) := fun _ e => by cases e
theorem rspDataFrame (l : Fin 264) (fr : Frame) :
    Statement (.rspDataFrame l fr) := fun _ e => by cases e
theorem exchangeTimeout (x : Fin 65536) :
    Statement (.exchangeTimeout x) := fun _ e => by cases e
theorem waitRetry (x : Fin 65536) :
    Statement (.waitRetry x) := fun _ e => by cases e
theorem exchangeOutcomeDurable (x : Fin 65536) :
    Statement (.exchangeOutcomeDurable x) := fun _ e => by cases e
theorem commitStage :
    Statement .commitStage := fun _ e => by cases e
theorem strongroomWriteDone (jsn : Word) (remap : Bool) (fail : Bool) :
    Statement (.strongroomWriteDone jsn remap fail) := fun _ e => by cases e
theorem batchTimer (x : Fin 65536) (ce : Option (Fin 8)) :
    Statement (.batchTimer x ce) := fun _ e => by cases e
theorem epochSyncEdge :
    Statement .epochSyncEdge := fun _ e => by cases e
theorem epochDecision :
    Statement .epochDecision := fun _ e => by cases e
theorem receiptWindowRebuild (q : Fin 64) (recs : List JRec) (gaps : Nat) :
    Statement (.receiptWindowRebuild q recs gaps) := by intro h e; cases e; exact Bool.false_ne_true h
theorem ldgRead (w : Writer) (v : Word) (be : Byte) :
    Statement (.ldgRead w v be) := fun _ e => by cases e
theorem duplexForming :
    Statement .duplexForming := fun _ e => by cases e
theorem helloTimer :
    Statement .helloTimer := fun _ e => by cases e
theorem hello (j : Fin 8) (fr : Frame) :
    Statement (.hello j fr) := fun _ e => by cases e
theorem heartbeatTimer :
    Statement .heartbeatTimer := fun _ e => by cases e
theorem sidebandTimer :
    Statement .sidebandTimer := fun _ e => by cases e
theorem heartbeat (j : Fin 8) (fr : Frame) :
    Statement (.heartbeat j fr) := fun _ e => by cases e
theorem timeSlew :
    Statement .timeSlew := fun _ e => by cases e
theorem sidebandWord (chars : BitVec 72) :
    Statement (.sidebandWord chars) := fun _ e => by cases e
theorem goodbye (j : Fin 8) (fr : Frame) :
    Statement (.goodbye j fr) := fun _ e => by cases e
theorem mirrorAck (j : Fin 8) (fr : Frame) :
    Statement (.mirrorAck j fr) := fun _ e => by cases e
theorem journalItem (j : Fin 8) (fr : Frame) :
    Statement (.journalItem j fr) := fun _ e => by cases e
theorem workOrderItem (j : Fin 8) (fr : Frame) :
    Statement (.workOrderItem j fr) := fun _ e => by cases e
theorem exchangeItem (j : Fin 8) (fr : Frame) :
    Statement (.exchangeItem j fr) := fun _ e => by cases e
theorem partWriteItem (j : Fin 8) (fr : Frame) :
    Statement (.partWriteItem j fr) := fun _ e => by cases e
theorem vaultItem (j : Fin 8) (fr : Frame) :
    Statement (.vaultItem j fr) := fun _ e => by cases e
theorem snapshot (j : Fin 8) (fr : Frame) :
    Statement (.snapshot j fr) := fun _ e => by cases e
theorem snapshotEnd (j : Fin 8) (fr : Frame) :
    Statement (.snapshotEnd j fr) := fun _ e => by cases e
theorem migrate (j : Fin 8) (fr : Frame) :
    Statement (.migrate j fr) := fun _ e => by cases e
theorem migrateRsp (j : Fin 8) (fr : Frame) :
    Statement (.migrateRsp j fr) := fun _ e => by cases e
theorem mailbox (j : Fin 8) (fr : Frame) :
    Statement (.mailbox j fr) := fun _ e => by cases e
theorem mailboxAck (j : Fin 8) (fr : Frame) :
    Statement (.mailboxAck j fr) := fun _ e => by cases e
theorem pathSilent (courier : Bool) :
    Statement (.pathSilent courier) := fun _ e => by cases e
theorem pathsHeard :
    Statement .pathsHeard := fun _ e => by cases e
theorem selfFence :
    Statement .selfFence := fun _ e => by cases e
theorem partnerLoss :
    Statement .partnerLoss := fun _ e => by cases e
theorem promotionComplete :
    Statement .promotionComplete := fun _ e => by cases e
theorem confirmAlone (w : Writer) (v : Word) (be : Byte) :
    Statement (.confirmAlone w v be) := fun _ e => by cases e
theorem handover (w : Writer) (v : Word) (be : Byte) :
    Statement (.handover w v be) := fun _ e => by cases e
theorem faultEvent (src : Fin 256) (ev : Fin 16) :
    Statement (.faultEvent src ev) := fun _ e => by cases e
theorem moduleResetBegin (st : Straps) :
    Statement (.moduleResetBegin st) := fun _ e => by cases e
theorem lanternToggle :
    Statement .lanternToggle := fun _ e => by cases e
theorem fltWindowWrite (w : Writer) (src : Fin 256) (v : Word) (be : Byte) :
    Statement (.fltWindowWrite w src v be) := fun _ e => by cases e
theorem fltForce (w : Writer) (src : Fin 256) (v : Word) (be : Byte) :
    Statement (.fltForce w src v be) := fun _ e => by cases e
theorem fltStatusClear (w : Writer) (src : Fin 256) (v : Word) (be : Byte) :
    Statement (.fltStatusClear w src v be) := fun _ e => by cases e
theorem kick (w : Writer) (v : Word) (be : Byte) :
    Statement (.kick w v be) := fun _ e => by cases e
theorem wdtExpired :
    Statement .wdtExpired := fun _ e => by cases e
theorem capLockFlt (w : Writer) (v : Word) (be : Byte) :
    Statement (.capLockFlt w v be) := fun _ e => by cases e
theorem vauxGood :
    Statement .vauxGood := fun _ e => by cases e
theorem vinGood :
    Statement .vinGood := fun _ e => by cases e
theorem softstartDone (mv : BitVec 16) :
    Statement (.softstartDone mv) := fun _ e => by cases e
theorem holdupMeasured (ticks : BitVec 32) :
    Statement (.holdupMeasured ticks) := fun _ e => by cases e
theorem hibReady :
    Statement .hibReady := fun _ e => by cases e
theorem holdupTarget :
    Statement .holdupTarget := fun _ e => by cases e
theorem holdupLow (mv : BitVec 16) :
    Statement (.holdupLow mv) := fun _ e => by cases e
theorem holdupShort :
    Statement .holdupShort := fun _ e => by cases e
theorem holdupBleedDone :
    Statement .holdupBleedDone := fun _ e => by cases e
theorem attn :
    Statement .attn := fun _ e => by cases e
theorem removeReq (w : Writer) (v : Word) (be : Byte) :
    Statement (.removeReq w v be) := fun _ e => by cases e
theorem removeDrainEnd (expired : Bool) :
    Statement (.removeDrainEnd expired) := fun _ e => by cases e
theorem sag (k : SagKind) (vauxNear : Bool) :
    Statement (.sag k vauxNear) := fun _ e => by cases e
theorem hibernateRecordsWritten :
    Statement .hibernateRecordsWritten := fun _ e => by cases e
theorem hibernateSealWritten :
    Statement .hibernateSealWritten := fun _ e => by cases e
theorem hibernateImageWritten (ticks : BitVec 24) (mj : BitVec 16) :
    Statement (.hibernateImageWritten ticks mj) := fun _ e => by cases e
theorem vinReturnResume (st : Straps) :
    Statement (.vinReturnResume st) := fun _ e => by cases e
theorem powerPeriod (mv : BitVec 16) (ma : BitVec 16) (watts : BitVec 16) :
    Statement (.powerPeriod mv ma watts) := fun _ e => by cases e
theorem thermalSample (temps : List (BitVec 8)) :
    Statement (.thermalSample temps) := fun _ e => by cases e
theorem overtempResume (temps : List (BitVec 8)) (st : Straps) :
    Statement (.overtempResume temps st) := fun _ e => by cases e
theorem vinLow :
    Statement .vinLow := fun _ e => by cases e
theorem vinHigh :
    Statement .vinHigh := fun _ e => by cases e
theorem railFault (die : Fin 2) :
    Statement (.railFault die) := fun _ e => by cases e
theorem powerGood (st : Straps) :
    Statement (.powerGood st) := fun _ e => by cases e
theorem bootStageDone (ms : BitVec 32) (facts : BootFacts) :
    Statement (.bootStageDone ms facts) := fun _ e => by cases e
theorem recoveryMessage (img : RecImage) :
    Statement (.recoveryMessage img) := fun _ e => by cases e
theorem moduleReset (w : Writer) (v : Word) (be : Byte) :
    Statement (.moduleReset w v be) := fun _ e => by cases e
theorem pairGo (w : Writer) (v : Word) (be : Byte) :
    Statement (.pairGo w v be) := fun _ e => by cases e
theorem mgmtWrite (w : Writer) (t : MTgt) (v : Word) (be : Byte) :
    Statement (.mgmtWrite w t v be) := fun _ e => by cases e
theorem partBpRead (q : Fin 64) (be : Byte) :
    Statement (.partBpRead q be) := by intro h e; cases e; exact Bool.false_ne_true h
theorem pwrVinRead (be : Byte) :
    Statement (.pwrVinRead be) := fun _ e => by cases e
theorem i3cPrivateWrite (a : BitVec 7) (data : Bytes) (parityOk : Bool) :
    Statement (.i3cPrivateWrite a data parityOk) := fun _ e => by cases e
theorem i3cPrivateRead (a : BitVec 7) (count : Nat) :
    Statement (.i3cPrivateRead a count) := fun _ e => by cases e
theorem entdaa (da : BitVec 7) (won : Bool) :
    Statement (.entdaa da won) := fun _ e => by cases e
theorem setdasa (sa : BitVec 7) (da : BitVec 7) :
    Statement (.setdasa sa da) := fun _ e => by cases e
theorem setnewda (a : BitVec 7) (da : BitVec 7) :
    Statement (.setnewda a da) := fun _ e => by cases e
theorem rstdaa (a : Option (BitVec 7)) :
    Statement (.rstdaa a) := fun _ e => by cases e
theorem getpid (a : BitVec 7) :
    Statement (.getpid a) := fun _ e => by cases e
theorem getbcr (a : BitVec 7) :
    Statement (.getbcr a) := fun _ e => by cases e
theorem getdcr (a : BitVec 7) :
    Statement (.getdcr a) := fun _ e => by cases e
theorem getstatus (a : BitVec 7) :
    Statement (.getstatus a) := fun _ e => by cases e
theorem getmwl (a : BitVec 7) :
    Statement (.getmwl a) := fun _ e => by cases e
theorem getmrl (a : BitVec 7) :
    Statement (.getmrl a) := fun _ e => by cases e
theorem enec (a : Option (BitVec 7)) (events : Byte) :
    Statement (.enec a events) := fun _ e => by cases e
theorem disec (a : Option (BitVec 7)) (events : Byte) :
    Statement (.disec a events) := fun _ e => by cases e
theorem tapActive :
    Statement .tapActive := fun _ e => by cases e
theorem bypass :
    Statement .bypass := fun _ e => by cases e
theorem samplePreload (shift : List Bool) :
    Statement (.samplePreload shift) := fun _ e => by cases e
theorem idcode :
    Statement .idcode := fun _ e => by cases e
theorem extest (shift : List Bool) :
    Statement (.extest shift) := fun _ e => by cases e
theorem clamp :
    Statement .clamp := fun _ e => by cases e
theorem highz :
    Statement .highz := fun _ e => by cases e
theorem undefinedOpcode (c : Fin 96) (word : BitVec 32) :
    Statement (.undefinedOpcode c word) := fun _ e => by cases e
theorem hostInvalidOpcode (wo : Fin 32768) (d : Desc) :
    Statement (.hostInvalidOpcode wo d) := fun _ e => by cases e
theorem cryptoInvalidOpcode (q : Fin 64) (n : Fin 32) :
    Statement (.cryptoInvalidOpcode q n) := fun _ e => by cases e
theorem compressInvalidOpcode (q : Fin 64) (n : Fin 32) :
    Statement (.compressInvalidOpcode q n) := fun _ e => by cases e
theorem xstartInvalidXtype (q : Fin 64) (n : Fin 32) (x : Fin 65536) :
    Statement (.xstartInvalidXtype q n x) := fun _ e => by cases e
theorem inboundReservedXtype (l : Fin 264) (fr : Frame) :
    Statement (.inboundReservedXtype l fr) := fun _ e => by cases e
theorem vfEnableSet (port : Fin 2) :
    Statement (.vfEnableSet port) := fun _ e => by cases e
theorem pairResetDone (p : Fin 48) :
    Statement (.pairResetDone p) := fun _ e => by cases e
theorem lossyEnd :
    Statement .lossyEnd := fun _ e => by cases e
theorem vauxLow :
    Statement .vauxLow := fun _ e => by cases e
theorem holdupCollapse :
    Statement .holdupCollapse := fun _ e => by cases e

end Sys2Proof.Laws.Shape
end

