-- ==== Sys2Proof/Laws/State.lean ====
section
/-!
SUPPORT. What each update of the state leaves as it was, field by field; reading back registers, fields of registers,
processors, links and table entries after an update.
-/
namespace Sys2Proof.Machine

@[simp] theorem State.wr_pending (s : State) (a : Nat) (v : Word) : (s.wr a v).pending = s.pending := rfl
@[simp] theorem State.wr_out (s : State) (a : Nat) (v : Word) : (s.wr a v).out = s.out := rfl
@[simp] theorem State.wr_free (s : State) (a : Nat) (v : Word) : (s.wr a v).free = s.free := rfl
@[simp] theorem State.wr_fuse (s : State) (a : Nat) (v : Word) : (s.wr a v).fuse = s.fuse := rfl
@[simp] theorem State.wr_now (s : State) (a : Nat) (v : Word) : (s.wr a v).now = s.now := rfl
@[simp] theorem State.wr_nowStage (s : State) (a : Nat) (v : Word) : (s.wr a v).nowStage = s.nowStage := rfl
@[simp] theorem State.wr_core (s : State) (a : Nat) (v : Word) : (s.wr a v).core = s.core := rfl
@[simp] theorem State.wr_coh (s : State) (a : Nat) (v : Word) : (s.wr a v).coh = s.coh := rfl
@[simp] theorem State.wr_mem (s : State) (a : Nat) (v : Word) : (s.wr a v).mem = s.mem := rfl
@[simp] theorem State.wr_host (s : State) (a : Nat) (v : Word) : (s.wr a v).host = s.host := rfl
@[simp] theorem State.wr_parts (s : State) (a : Nat) (v : Word) : (s.wr a v).parts = s.parts := rfl
@[simp] theorem State.wr_cry (s : State) (a : Nat) (v : Word) : (s.wr a v).cry = s.cry := rfl
@[simp] theorem State.wr_cmp (s : State) (a : Nat) (v : Word) : (s.wr a v).cmp = s.cmp := rfl
@[simp] theorem State.wr_link (s : State) (a : Nat) (v : Word) : (s.wr a v).link = s.link := rfl
@[simp] theorem State.wr_xchg (s : State) (a : Nat) (v : Word) : (s.wr a v).xchg = s.xchg := rfl
@[simp] theorem State.wr_jrn (s : State) (a : Nat) (v : Word) : (s.wr a v).jrn = s.jrn := rfl
@[simp] theorem State.wr_dpx (s : State) (a : Nat) (v : Word) : (s.wr a v).dpx = s.dpx := rfl
@[simp] theorem State.wr_flt (s : State) (a : Nat) (v : Word) : (s.wr a v).flt = s.flt := rfl
@[simp] theorem State.wr_pwr (s : State) (a : Nat) (v : Word) : (s.wr a v).pwr = s.pwr := rfl
@[simp] theorem State.wr_boot (s : State) (a : Nat) (v : Word) : (s.wr a v).boot = s.boot := rfl
@[simp] theorem State.wr_pin (s : State) (a : Nat) (v : Word) : (s.wr a v).pin = s.pin := rfl

@[simp] theorem State.wf_pending (s : State) (a hi lo v : Nat) : (s.wf a hi lo v).pending = s.pending := rfl
@[simp] theorem State.wf_out (s : State) (a hi lo v : Nat) : (s.wf a hi lo v).out = s.out := rfl
@[simp] theorem State.wf_free (s : State) (a hi lo v : Nat) : (s.wf a hi lo v).free = s.free := rfl
@[simp] theorem State.wf_fuse (s : State) (a hi lo v : Nat) : (s.wf a hi lo v).fuse = s.fuse := rfl
@[simp] theorem State.wf_now (s : State) (a hi lo v : Nat) : (s.wf a hi lo v).now = s.now := rfl
@[simp] theorem State.wf_nowStage (s : State) (a hi lo v : Nat) : (s.wf a hi lo v).nowStage = s.nowStage := rfl
@[simp] theorem State.wf_core (s : State) (a hi lo v : Nat) : (s.wf a hi lo v).core = s.core := rfl
@[simp] theorem State.wf_coh (s : State) (a hi lo v : Nat) : (s.wf a hi lo v).coh = s.coh := rfl
@[simp] theorem State.wf_mem (s : State) (a hi lo v : Nat) : (s.wf a hi lo v).mem = s.mem := rfl
@[simp] theorem State.wf_host (s : State) (a hi lo v : Nat) : (s.wf a hi lo v).host = s.host := rfl
@[simp] theorem State.wf_parts (s : State) (a hi lo v : Nat) : (s.wf a hi lo v).parts = s.parts := rfl
@[simp] theorem State.wf_cry (s : State) (a hi lo v : Nat) : (s.wf a hi lo v).cry = s.cry := rfl
@[simp] theorem State.wf_cmp (s : State) (a hi lo v : Nat) : (s.wf a hi lo v).cmp = s.cmp := rfl
@[simp] theorem State.wf_link (s : State) (a hi lo v : Nat) : (s.wf a hi lo v).link = s.link := rfl
@[simp] theorem State.wf_xchg (s : State) (a hi lo v : Nat) : (s.wf a hi lo v).xchg = s.xchg := rfl
@[simp] theorem State.wf_jrn (s : State) (a hi lo v : Nat) : (s.wf a hi lo v).jrn = s.jrn := rfl
@[simp] theorem State.wf_dpx (s : State) (a hi lo v : Nat) : (s.wf a hi lo v).dpx = s.dpx := rfl
@[simp] theorem State.wf_flt (s : State) (a hi lo v : Nat) : (s.wf a hi lo v).flt = s.flt := rfl
@[simp] theorem State.wf_pwr (s : State) (a hi lo v : Nat) : (s.wf a hi lo v).pwr = s.pwr := rfl
@[simp] theorem State.wf_boot (s : State) (a hi lo v : Nat) : (s.wf a hi lo v).boot = s.boot := rfl
@[simp] theorem State.wf_pin (s : State) (a hi lo v : Nat) : (s.wf a hi lo v).pin = s.pin := rfl

@[simp] theorem State.wb_pending (s : State) (a i : Nat) (b : Bool) : (s.wb a i b).pending = s.pending := rfl
@[simp] theorem State.wb_out (s : State) (a i : Nat) (b : Bool) : (s.wb a i b).out = s.out := rfl
@[simp] theorem State.wb_free (s : State) (a i : Nat) (b : Bool) : (s.wb a i b).free = s.free := rfl
@[simp] theorem State.wb_fuse (s : State) (a i : Nat) (b : Bool) : (s.wb a i b).fuse = s.fuse := rfl
@[simp] theorem State.wb_now (s : State) (a i : Nat) (b : Bool) : (s.wb a i b).now = s.now := rfl
@[simp] theorem State.wb_nowStage (s : State) (a i : Nat) (b : Bool) : (s.wb a i b).nowStage = s.nowStage := rfl
@[simp] theorem State.wb_core (s : State) (a i : Nat) (b : Bool) : (s.wb a i b).core = s.core := rfl
@[simp] theorem State.wb_coh (s : State) (a i : Nat) (b : Bool) : (s.wb a i b).coh = s.coh := rfl
@[simp] theorem State.wb_mem (s : State) (a i : Nat) (b : Bool) : (s.wb a i b).mem = s.mem := rfl
@[simp] theorem State.wb_host (s : State) (a i : Nat) (b : Bool) : (s.wb a i b).host = s.host := rfl
@[simp] theorem State.wb_parts (s : State) (a i : Nat) (b : Bool) : (s.wb a i b).parts = s.parts := rfl
@[simp] theorem State.wb_cry (s : State) (a i : Nat) (b : Bool) : (s.wb a i b).cry = s.cry := rfl
@[simp] theorem State.wb_cmp (s : State) (a i : Nat) (b : Bool) : (s.wb a i b).cmp = s.cmp := rfl
@[simp] theorem State.wb_link (s : State) (a i : Nat) (b : Bool) : (s.wb a i b).link = s.link := rfl
@[simp] theorem State.wb_xchg (s : State) (a i : Nat) (b : Bool) : (s.wb a i b).xchg = s.xchg := rfl
@[simp] theorem State.wb_jrn (s : State) (a i : Nat) (b : Bool) : (s.wb a i b).jrn = s.jrn := rfl
@[simp] theorem State.wb_dpx (s : State) (a i : Nat) (b : Bool) : (s.wb a i b).dpx = s.dpx := rfl
@[simp] theorem State.wb_flt (s : State) (a i : Nat) (b : Bool) : (s.wb a i b).flt = s.flt := rfl
@[simp] theorem State.wb_pwr (s : State) (a i : Nat) (b : Bool) : (s.wb a i b).pwr = s.pwr := rfl
@[simp] theorem State.wb_boot (s : State) (a i : Nat) (b : Bool) : (s.wb a i b).boot = s.boot := rfl
@[simp] theorem State.wb_pin (s : State) (a i : Nat) (b : Bool) : (s.wb a i b).pin = s.pin := rfl

@[simp] theorem State.satField_pending (s : State) (a hi lo : Nat) : (s.satField a hi lo).pending = s.pending := rfl
@[simp] theorem State.satField_out (s : State) (a hi lo : Nat) : (s.satField a hi lo).out = s.out := rfl
@[simp] theorem State.satField_free (s : State) (a hi lo : Nat) : (s.satField a hi lo).free = s.free := rfl
@[simp] theorem State.satField_fuse (s : State) (a hi lo : Nat) : (s.satField a hi lo).fuse = s.fuse := rfl
@[simp] theorem State.satField_now (s : State) (a hi lo : Nat) : (s.satField a hi lo).now = s.now := rfl
@[simp] theorem State.satField_nowStage (s : State) (a hi lo : Nat) : (s.satField a hi lo).nowStage = s.nowStage := rfl
@[simp] theorem State.satField_core (s : State) (a hi lo : Nat) : (s.satField a hi lo).core = s.core := rfl
@[simp] theorem State.satField_coh (s : State) (a hi lo : Nat) : (s.satField a hi lo).coh = s.coh := rfl
@[simp] theorem State.satField_mem (s : State) (a hi lo : Nat) : (s.satField a hi lo).mem = s.mem := rfl
@[simp] theorem State.satField_host (s : State) (a hi lo : Nat) : (s.satField a hi lo).host = s.host := rfl
@[simp] theorem State.satField_parts (s : State) (a hi lo : Nat) : (s.satField a hi lo).parts = s.parts := rfl
@[simp] theorem State.satField_cry (s : State) (a hi lo : Nat) : (s.satField a hi lo).cry = s.cry := rfl
@[simp] theorem State.satField_cmp (s : State) (a hi lo : Nat) : (s.satField a hi lo).cmp = s.cmp := rfl
@[simp] theorem State.satField_link (s : State) (a hi lo : Nat) : (s.satField a hi lo).link = s.link := rfl
@[simp] theorem State.satField_xchg (s : State) (a hi lo : Nat) : (s.satField a hi lo).xchg = s.xchg := rfl
@[simp] theorem State.satField_jrn (s : State) (a hi lo : Nat) : (s.satField a hi lo).jrn = s.jrn := rfl
@[simp] theorem State.satField_dpx (s : State) (a hi lo : Nat) : (s.satField a hi lo).dpx = s.dpx := rfl
@[simp] theorem State.satField_flt (s : State) (a hi lo : Nat) : (s.satField a hi lo).flt = s.flt := rfl
@[simp] theorem State.satField_pwr (s : State) (a hi lo : Nat) : (s.satField a hi lo).pwr = s.pwr := rfl
@[simp] theorem State.satField_boot (s : State) (a hi lo : Nat) : (s.satField a hi lo).boot = s.boot := rfl
@[simp] theorem State.satField_pin (s : State) (a hi lo : Nat) : (s.satField a hi lo).pin = s.pin := rfl

@[simp] theorem State.emit_pending (s : State) (o : Out) : (s.emit o).pending = s.pending := rfl
@[simp] theorem State.emit_free (s : State) (o : Out) : (s.emit o).free = s.free := rfl
@[simp] theorem State.emit_fuse (s : State) (o : Out) : (s.emit o).fuse = s.fuse := rfl
@[simp] theorem State.emit_now (s : State) (o : Out) : (s.emit o).now = s.now := rfl
@[simp] theorem State.emit_nowStage (s : State) (o : Out) : (s.emit o).nowStage = s.nowStage := rfl
@[simp] theorem State.emit_regs (s : State) (o : Out) : (s.emit o).regs = s.regs := rfl
@[simp] theorem State.emit_core (s : State) (o : Out) : (s.emit o).core = s.core := rfl
@[simp] theorem State.emit_coh (s : State) (o : Out) : (s.emit o).coh = s.coh := rfl
@[simp] theorem State.emit_mem (s : State) (o : Out) : (s.emit o).mem = s.mem := rfl
@[simp] theorem State.emit_host (s : State) (o : Out) : (s.emit o).host = s.host := rfl
@[simp] theorem State.emit_parts (s : State) (o : Out) : (s.emit o).parts = s.parts := rfl
@[simp] theorem State.emit_cry (s : State) (o : Out) : (s.emit o).cry = s.cry := rfl
@[simp] theorem State.emit_cmp (s : State) (o : Out) : (s.emit o).cmp = s.cmp := rfl
@[simp] theorem State.emit_link (s : State) (o : Out) : (s.emit o).link = s.link := rfl
@[simp] theorem State.emit_xchg (s : State) (o : Out) : (s.emit o).xchg = s.xchg := rfl
@[simp] theorem State.emit_jrn (s : State) (o : Out) : (s.emit o).jrn = s.jrn := rfl
@[simp] theorem State.emit_dpx (s : State) (o : Out) : (s.emit o).dpx = s.dpx := rfl
@[simp] theorem State.emit_flt (s : State) (o : Out) : (s.emit o).flt = s.flt := rfl
@[simp] theorem State.emit_pwr (s : State) (o : Out) : (s.emit o).pwr = s.pwr := rfl
@[simp] theorem State.emit_boot (s : State) (o : Out) : (s.emit o).boot = s.boot := rfl
@[simp] theorem State.emit_pin (s : State) (o : Out) : (s.emit o).pin = s.pin := rfl

@[simp] theorem State.raise_pending (s : State) (src ev : Nat) : (s.raise src ev).pending = s.pending := rfl
@[simp] theorem State.raise_out (s : State) (src ev : Nat) : (s.raise src ev).out = s.out := rfl
@[simp] theorem State.raise_free (s : State) (src ev : Nat) : (s.raise src ev).free = s.free := rfl
@[simp] theorem State.raise_fuse (s : State) (src ev : Nat) : (s.raise src ev).fuse = s.fuse := rfl
@[simp] theorem State.raise_now (s : State) (src ev : Nat) : (s.raise src ev).now = s.now := rfl
@[simp] theorem State.raise_nowStage (s : State) (src ev : Nat) : (s.raise src ev).nowStage = s.nowStage := rfl
@[simp] theorem State.raise_regs (s : State) (src ev : Nat) : (s.raise src ev).regs = s.regs := rfl
@[simp] theorem State.raise_core (s : State) (src ev : Nat) : (s.raise src ev).core = s.core := rfl
@[simp] theorem State.raise_coh (s : State) (src ev : Nat) : (s.raise src ev).coh = s.coh := rfl
@[simp] theorem State.raise_mem (s : State) (src ev : Nat) : (s.raise src ev).mem = s.mem := rfl
@[simp] theorem State.raise_host (s : State) (src ev : Nat) : (s.raise src ev).host = s.host := rfl
@[simp] theorem State.raise_parts (s : State) (src ev : Nat) : (s.raise src ev).parts = s.parts := rfl
@[simp] theorem State.raise_cry (s : State) (src ev : Nat) : (s.raise src ev).cry = s.cry := rfl
@[simp] theorem State.raise_cmp (s : State) (src ev : Nat) : (s.raise src ev).cmp = s.cmp := rfl
@[simp] theorem State.raise_link (s : State) (src ev : Nat) : (s.raise src ev).link = s.link := rfl
@[simp] theorem State.raise_xchg (s : State) (src ev : Nat) : (s.raise src ev).xchg = s.xchg := rfl
@[simp] theorem State.raise_jrn (s : State) (src ev : Nat) : (s.raise src ev).jrn = s.jrn := rfl
@[simp] theorem State.raise_dpx (s : State) (src ev : Nat) : (s.raise src ev).dpx = s.dpx := rfl
@[simp] theorem State.raise_pwr (s : State) (src ev : Nat) : (s.raise src ev).pwr = s.pwr := rfl
@[simp] theorem State.raise_boot (s : State) (src ev : Nat) : (s.raise src ev).boot = s.boot := rfl
@[simp] theorem State.raise_pin (s : State) (src ev : Nat) : (s.raise src ev).pin = s.pin := rfl

@[simp] theorem State.setProc_pending (s : State) (c : Nat) (p : Proc) : (s.setProc c p).pending = s.pending := rfl
@[simp] theorem State.setProc_out (s : State) (c : Nat) (p : Proc) : (s.setProc c p).out = s.out := rfl
@[simp] theorem State.setProc_free (s : State) (c : Nat) (p : Proc) : (s.setProc c p).free = s.free := rfl
@[simp] theorem State.setProc_fuse (s : State) (c : Nat) (p : Proc) : (s.setProc c p).fuse = s.fuse := rfl
@[simp] theorem State.setProc_now (s : State) (c : Nat) (p : Proc) : (s.setProc c p).now = s.now := rfl
@[simp] theorem State.setProc_nowStage (s : State) (c : Nat) (p : Proc) : (s.setProc c p).nowStage = s.nowStage := rfl
@[simp] theorem State.setProc_regs (s : State) (c : Nat) (p : Proc) : (s.setProc c p).regs = s.regs := rfl
@[simp] theorem State.setProc_coh (s : State) (c : Nat) (p : Proc) : (s.setProc c p).coh = s.coh := rfl
@[simp] theorem State.setProc_mem (s : State) (c : Nat) (p : Proc) : (s.setProc c p).mem = s.mem := rfl
@[simp] theorem State.setProc_host (s : State) (c : Nat) (p : Proc) : (s.setProc c p).host = s.host := rfl
@[simp] theorem State.setProc_parts (s : State) (c : Nat) (p : Proc) : (s.setProc c p).parts = s.parts := rfl
@[simp] theorem State.setProc_cry (s : State) (c : Nat) (p : Proc) : (s.setProc c p).cry = s.cry := rfl
@[simp] theorem State.setProc_cmp (s : State) (c : Nat) (p : Proc) : (s.setProc c p).cmp = s.cmp := rfl
@[simp] theorem State.setProc_link (s : State) (c : Nat) (p : Proc) : (s.setProc c p).link = s.link := rfl
@[simp] theorem State.setProc_xchg (s : State) (c : Nat) (p : Proc) : (s.setProc c p).xchg = s.xchg := rfl
@[simp] theorem State.setProc_jrn (s : State) (c : Nat) (p : Proc) : (s.setProc c p).jrn = s.jrn := rfl
@[simp] theorem State.setProc_dpx (s : State) (c : Nat) (p : Proc) : (s.setProc c p).dpx = s.dpx := rfl
@[simp] theorem State.setProc_flt (s : State) (c : Nat) (p : Proc) : (s.setProc c p).flt = s.flt := rfl
@[simp] theorem State.setProc_pwr (s : State) (c : Nat) (p : Proc) : (s.setProc c p).pwr = s.pwr := rfl
@[simp] theorem State.setProc_boot (s : State) (c : Nat) (p : Proc) : (s.setProc c p).boot = s.boot := rfl
@[simp] theorem State.setProc_pin (s : State) (c : Nat) (p : Proc) : (s.setProc c p).pin = s.pin := rfl

@[simp] theorem State.setL2_pending (s : State) (p : Nat) (l : L2) : (s.setL2 p l).pending = s.pending := rfl
@[simp] theorem State.setL2_out (s : State) (p : Nat) (l : L2) : (s.setL2 p l).out = s.out := rfl
@[simp] theorem State.setL2_free (s : State) (p : Nat) (l : L2) : (s.setL2 p l).free = s.free := rfl
@[simp] theorem State.setL2_fuse (s : State) (p : Nat) (l : L2) : (s.setL2 p l).fuse = s.fuse := rfl
@[simp] theorem State.setL2_now (s : State) (p : Nat) (l : L2) : (s.setL2 p l).now = s.now := rfl
@[simp] theorem State.setL2_nowStage (s : State) (p : Nat) (l : L2) : (s.setL2 p l).nowStage = s.nowStage := rfl
@[simp] theorem State.setL2_regs (s : State) (p : Nat) (l : L2) : (s.setL2 p l).regs = s.regs := rfl
@[simp] theorem State.setL2_core (s : State) (p : Nat) (l : L2) : (s.setL2 p l).core = s.core := rfl
@[simp] theorem State.setL2_mem (s : State) (p : Nat) (l : L2) : (s.setL2 p l).mem = s.mem := rfl
@[simp] theorem State.setL2_host (s : State) (p : Nat) (l : L2) : (s.setL2 p l).host = s.host := rfl
@[simp] theorem State.setL2_parts (s : State) (p : Nat) (l : L2) : (s.setL2 p l).parts = s.parts := rfl
@[simp] theorem State.setL2_cry (s : State) (p : Nat) (l : L2) : (s.setL2 p l).cry = s.cry := rfl
@[simp] theorem State.setL2_cmp (s : State) (p : Nat) (l : L2) : (s.setL2 p l).cmp = s.cmp := rfl
@[simp] theorem State.setL2_link (s : State) (p : Nat) (l : L2) : (s.setL2 p l).link = s.link := rfl
@[simp] theorem State.setL2_xchg (s : State) (p : Nat) (l : L2) : (s.setL2 p l).xchg = s.xchg := rfl
@[simp] theorem State.setL2_jrn (s : State) (p : Nat) (l : L2) : (s.setL2 p l).jrn = s.jrn := rfl
@[simp] theorem State.setL2_dpx (s : State) (p : Nat) (l : L2) : (s.setL2 p l).dpx = s.dpx := rfl
@[simp] theorem State.setL2_flt (s : State) (p : Nat) (l : L2) : (s.setL2 p l).flt = s.flt := rfl
@[simp] theorem State.setL2_pwr (s : State) (p : Nat) (l : L2) : (s.setL2 p l).pwr = s.pwr := rfl
@[simp] theorem State.setL2_boot (s : State) (p : Nat) (l : L2) : (s.setL2 p l).boot = s.boot := rfl
@[simp] theorem State.setL2_pin (s : State) (p : Nat) (l : L2) : (s.setL2 p l).pin = s.pin := rfl

@[simp] theorem State.csend_pending (s : State) (m : CMsg) : (s.csend m).pending = s.pending := rfl
@[simp] theorem State.csend_out (s : State) (m : CMsg) : (s.csend m).out = s.out := rfl
@[simp] theorem State.csend_free (s : State) (m : CMsg) : (s.csend m).free = s.free := rfl
@[simp] theorem State.csend_fuse (s : State) (m : CMsg) : (s.csend m).fuse = s.fuse := rfl
@[simp] theorem State.csend_now (s : State) (m : CMsg) : (s.csend m).now = s.now := rfl
@[simp] theorem State.csend_nowStage (s : State) (m : CMsg) : (s.csend m).nowStage = s.nowStage := rfl
@[simp] theorem State.csend_regs (s : State) (m : CMsg) : (s.csend m).regs = s.regs := rfl
@[simp] theorem State.csend_core (s : State) (m : CMsg) : (s.csend m).core = s.core := rfl
@[simp] theorem State.csend_mem (s : State) (m : CMsg) : (s.csend m).mem = s.mem := rfl
@[simp] theorem State.csend_host (s : State) (m : CMsg) : (s.csend m).host = s.host := rfl
@[simp] theorem State.csend_parts (s : State) (m : CMsg) : (s.csend m).parts = s.parts := rfl
@[simp] theorem State.csend_cry (s : State) (m : CMsg) : (s.csend m).cry = s.cry := rfl
@[simp] theorem State.csend_cmp (s : State) (m : CMsg) : (s.csend m).cmp = s.cmp := rfl
@[simp] theorem State.csend_link (s : State) (m : CMsg) : (s.csend m).link = s.link := rfl
@[simp] theorem State.csend_xchg (s : State) (m : CMsg) : (s.csend m).xchg = s.xchg := rfl
@[simp] theorem State.csend_jrn (s : State) (m : CMsg) : (s.csend m).jrn = s.jrn := rfl
@[simp] theorem State.csend_dpx (s : State) (m : CMsg) : (s.csend m).dpx = s.dpx := rfl
@[simp] theorem State.csend_flt (s : State) (m : CMsg) : (s.csend m).flt = s.flt := rfl
@[simp] theorem State.csend_pwr (s : State) (m : CMsg) : (s.csend m).pwr = s.pwr := rfl
@[simp] theorem State.csend_boot (s : State) (m : CMsg) : (s.csend m).boot = s.boot := rfl
@[simp] theorem State.csend_pin (s : State) (m : CMsg) : (s.csend m).pin = s.pin := rfl

@[simp] theorem State.setTxn_pending (s : State) (line : Nat) (t : Option CTxn) : (s.setTxn line t).pending = s.pending := rfl
@[simp] theorem State.setTxn_out (s : State) (line : Nat) (t : Option CTxn) : (s.setTxn line t).out = s.out := rfl
@[simp] theorem State.setTxn_free (s : State) (line : Nat) (t : Option CTxn) : (s.setTxn line t).free = s.free := rfl
@[simp] theorem State.setTxn_fuse (s : State) (line : Nat) (t : Option CTxn) : (s.setTxn line t).fuse = s.fuse := rfl
@[simp] theorem State.setTxn_now (s : State) (line : Nat) (t : Option CTxn) : (s.setTxn line t).now = s.now := rfl
@[simp] theorem State.setTxn_nowStage (s : State) (line : Nat) (t : Option CTxn) : (s.setTxn line t).nowStage = s.nowStage := rfl
@[simp] theorem State.setTxn_regs (s : State) (line : Nat) (t : Option CTxn) : (s.setTxn line t).regs = s.regs := rfl
@[simp] theorem State.setTxn_core (s : State) (line : Nat) (t : Option CTxn) : (s.setTxn line t).core = s.core := rfl
@[simp] theorem State.setTxn_mem (s : State) (line : Nat) (t : Option CTxn) : (s.setTxn line t).mem = s.mem := rfl
@[simp] theorem State.setTxn_host (s : State) (line : Nat) (t : Option CTxn) : (s.setTxn line t).host = s.host := rfl
@[simp] theorem State.setTxn_parts (s : State) (line : Nat) (t : Option CTxn) : (s.setTxn line t).parts = s.parts := rfl
@[simp] theorem State.setTxn_cry (s : State) (line : Nat) (t : Option CTxn) : (s.setTxn line t).cry = s.cry := rfl
@[simp] theorem State.setTxn_cmp (s : State) (line : Nat) (t : Option CTxn) : (s.setTxn line t).cmp = s.cmp := rfl
@[simp] theorem State.setTxn_link (s : State) (line : Nat) (t : Option CTxn) : (s.setTxn line t).link = s.link := rfl
@[simp] theorem State.setTxn_xchg (s : State) (line : Nat) (t : Option CTxn) : (s.setTxn line t).xchg = s.xchg := rfl
@[simp] theorem State.setTxn_jrn (s : State) (line : Nat) (t : Option CTxn) : (s.setTxn line t).jrn = s.jrn := rfl
@[simp] theorem State.setTxn_dpx (s : State) (line : Nat) (t : Option CTxn) : (s.setTxn line t).dpx = s.dpx := rfl
@[simp] theorem State.setTxn_flt (s : State) (line : Nat) (t : Option CTxn) : (s.setTxn line t).flt = s.flt := rfl
@[simp] theorem State.setTxn_pwr (s : State) (line : Nat) (t : Option CTxn) : (s.setTxn line t).pwr = s.pwr := rfl
@[simp] theorem State.setTxn_boot (s : State) (line : Nat) (t : Option CTxn) : (s.setTxn line t).boot = s.boot := rfl
@[simp] theorem State.setTxn_pin (s : State) (line : Nat) (t : Option CTxn) : (s.setTxn line t).pin = s.pin := rfl

@[simp] theorem State.setLk_pending (s : State) (l : Nat) (k : LinkSt) : (s.setLk l k).pending = s.pending := rfl
@[simp] theorem State.setLk_out (s : State) (l : Nat) (k : LinkSt) : (s.setLk l k).out = s.out := rfl
@[simp] theorem State.setLk_free (s : State) (l : Nat) (k : LinkSt) : (s.setLk l k).free = s.free := rfl
@[simp] theorem State.setLk_fuse (s : State) (l : Nat) (k : LinkSt) : (s.setLk l k).fuse = s.fuse := rfl
@[simp] theorem State.setLk_now (s : State) (l : Nat) (k : LinkSt) : (s.setLk l k).now = s.now := rfl
@[simp] theorem State.setLk_nowStage (s : State) (l : Nat) (k : LinkSt) : (s.setLk l k).nowStage = s.nowStage := rfl
@[simp] theorem State.setLk_regs (s : State) (l : Nat) (k : LinkSt) : (s.setLk l k).regs = s.regs := rfl
@[simp] theorem State.setLk_core (s : State) (l : Nat) (k : LinkSt) : (s.setLk l k).core = s.core := rfl
@[simp] theorem State.setLk_coh (s : State) (l : Nat) (k : LinkSt) : (s.setLk l k).coh = s.coh := rfl
@[simp] theorem State.setLk_mem (s : State) (l : Nat) (k : LinkSt) : (s.setLk l k).mem = s.mem := rfl
@[simp] theorem State.setLk_host (s : State) (l : Nat) (k : LinkSt) : (s.setLk l k).host = s.host := rfl
@[simp] theorem State.setLk_parts (s : State) (l : Nat) (k : LinkSt) : (s.setLk l k).parts = s.parts := rfl
@[simp] theorem State.setLk_cry (s : State) (l : Nat) (k : LinkSt) : (s.setLk l k).cry = s.cry := rfl
@[simp] theorem State.setLk_cmp (s : State) (l : Nat) (k : LinkSt) : (s.setLk l k).cmp = s.cmp := rfl
@[simp] theorem State.setLk_xchg (s : State) (l : Nat) (k : LinkSt) : (s.setLk l k).xchg = s.xchg := rfl
@[simp] theorem State.setLk_jrn (s : State) (l : Nat) (k : LinkSt) : (s.setLk l k).jrn = s.jrn := rfl
@[simp] theorem State.setLk_dpx (s : State) (l : Nat) (k : LinkSt) : (s.setLk l k).dpx = s.dpx := rfl
@[simp] theorem State.setLk_flt (s : State) (l : Nat) (k : LinkSt) : (s.setLk l k).flt = s.flt := rfl
@[simp] theorem State.setLk_pwr (s : State) (l : Nat) (k : LinkSt) : (s.setLk l k).pwr = s.pwr := rfl
@[simp] theorem State.setLk_boot (s : State) (l : Nat) (k : LinkSt) : (s.setLk l k).boot = s.boot := rfl
@[simp] theorem State.setLk_pin (s : State) (l : Nat) (k : LinkSt) : (s.setLk l k).pin = s.pin := rfl

@[simp] theorem State.setInbox_pending (s : State) (q : Nat) (b : Inbox) : (s.setInbox q b).pending = s.pending := rfl
@[simp] theorem State.setInbox_out (s : State) (q : Nat) (b : Inbox) : (s.setInbox q b).out = s.out := rfl
@[simp] theorem State.setInbox_free (s : State) (q : Nat) (b : Inbox) : (s.setInbox q b).free = s.free := rfl
@[simp] theorem State.setInbox_fuse (s : State) (q : Nat) (b : Inbox) : (s.setInbox q b).fuse = s.fuse := rfl
@[simp] theorem State.setInbox_now (s : State) (q : Nat) (b : Inbox) : (s.setInbox q b).now = s.now := rfl
@[simp] theorem State.setInbox_nowStage (s : State) (q : Nat) (b : Inbox) : (s.setInbox q b).nowStage = s.nowStage := rfl
@[simp] theorem State.setInbox_regs (s : State) (q : Nat) (b : Inbox) : (s.setInbox q b).regs = s.regs := rfl
@[simp] theorem State.setInbox_core (s : State) (q : Nat) (b : Inbox) : (s.setInbox q b).core = s.core := rfl
@[simp] theorem State.setInbox_coh (s : State) (q : Nat) (b : Inbox) : (s.setInbox q b).coh = s.coh := rfl
@[simp] theorem State.setInbox_mem (s : State) (q : Nat) (b : Inbox) : (s.setInbox q b).mem = s.mem := rfl
@[simp] theorem State.setInbox_host (s : State) (q : Nat) (b : Inbox) : (s.setInbox q b).host = s.host := rfl
@[simp] theorem State.setInbox_cry (s : State) (q : Nat) (b : Inbox) : (s.setInbox q b).cry = s.cry := rfl
@[simp] theorem State.setInbox_cmp (s : State) (q : Nat) (b : Inbox) : (s.setInbox q b).cmp = s.cmp := rfl
@[simp] theorem State.setInbox_link (s : State) (q : Nat) (b : Inbox) : (s.setInbox q b).link = s.link := rfl
@[simp] theorem State.setInbox_xchg (s : State) (q : Nat) (b : Inbox) : (s.setInbox q b).xchg = s.xchg := rfl
@[simp] theorem State.setInbox_jrn (s : State) (q : Nat) (b : Inbox) : (s.setInbox q b).jrn = s.jrn := rfl
@[simp] theorem State.setInbox_dpx (s : State) (q : Nat) (b : Inbox) : (s.setInbox q b).dpx = s.dpx := rfl
@[simp] theorem State.setInbox_flt (s : State) (q : Nat) (b : Inbox) : (s.setInbox q b).flt = s.flt := rfl
@[simp] theorem State.setInbox_pwr (s : State) (q : Nat) (b : Inbox) : (s.setInbox q b).pwr = s.pwr := rfl
@[simp] theorem State.setInbox_boot (s : State) (q : Nat) (b : Inbox) : (s.setInbox q b).boot = s.boot := rfl
@[simp] theorem State.setInbox_pin (s : State) (q : Nat) (b : Inbox) : (s.setInbox q b).pin = s.pin := rfl

@[simp] theorem State.setMb_pending (s : State) (m : MbId) (b : Mbox) : (s.setMb m b).pending = s.pending := rfl
@[simp] theorem State.setMb_out (s : State) (m : MbId) (b : Mbox) : (s.setMb m b).out = s.out := rfl
@[simp] theorem State.setMb_free (s : State) (m : MbId) (b : Mbox) : (s.setMb m b).free = s.free := rfl
@[simp] theorem State.setMb_fuse (s : State) (m : MbId) (b : Mbox) : (s.setMb m b).fuse = s.fuse := rfl
@[simp] theorem State.setMb_now (s : State) (m : MbId) (b : Mbox) : (s.setMb m b).now = s.now := rfl
@[simp] theorem State.setMb_nowStage (s : State) (m : MbId) (b : Mbox) : (s.setMb m b).nowStage = s.nowStage := rfl
@[simp] theorem State.setMb_regs (s : State) (m : MbId) (b : Mbox) : (s.setMb m b).regs = s.regs := rfl
@[simp] theorem State.setMb_core (s : State) (m : MbId) (b : Mbox) : (s.setMb m b).core = s.core := rfl
@[simp] theorem State.setMb_coh (s : State) (m : MbId) (b : Mbox) : (s.setMb m b).coh = s.coh := rfl
@[simp] theorem State.setMb_mem (s : State) (m : MbId) (b : Mbox) : (s.setMb m b).mem = s.mem := rfl
@[simp] theorem State.setMb_parts (s : State) (m : MbId) (b : Mbox) : (s.setMb m b).parts = s.parts := rfl
@[simp] theorem State.setMb_cry (s : State) (m : MbId) (b : Mbox) : (s.setMb m b).cry = s.cry := rfl
@[simp] theorem State.setMb_cmp (s : State) (m : MbId) (b : Mbox) : (s.setMb m b).cmp = s.cmp := rfl
@[simp] theorem State.setMb_link (s : State) (m : MbId) (b : Mbox) : (s.setMb m b).link = s.link := rfl
@[simp] theorem State.setMb_xchg (s : State) (m : MbId) (b : Mbox) : (s.setMb m b).xchg = s.xchg := rfl
@[simp] theorem State.setMb_jrn (s : State) (m : MbId) (b : Mbox) : (s.setMb m b).jrn = s.jrn := rfl
@[simp] theorem State.setMb_dpx (s : State) (m : MbId) (b : Mbox) : (s.setMb m b).dpx = s.dpx := rfl
@[simp] theorem State.setMb_flt (s : State) (m : MbId) (b : Mbox) : (s.setMb m b).flt = s.flt := rfl
@[simp] theorem State.setMb_pwr (s : State) (m : MbId) (b : Mbox) : (s.setMb m b).pwr = s.pwr := rfl
@[simp] theorem State.setMb_boot (s : State) (m : MbId) (b : Mbox) : (s.setMb m b).boot = s.boot := rfl
@[simp] theorem State.setMb_pin (s : State) (m : MbId) (b : Mbox) : (s.setMb m b).pin = s.pin := rfl

@[simp] theorem State.setQp_pending (s : State) (port fn qp : Nat) (r : Qp) : (s.setQp port fn qp r).pending = s.pending := rfl
@[simp] theorem State.setQp_out (s : State) (port fn qp : Nat) (r : Qp) : (s.setQp port fn qp r).out = s.out := rfl
@[simp] theorem State.setQp_free (s : State) (port fn qp : Nat) (r : Qp) : (s.setQp port fn qp r).free = s.free := rfl
@[simp] theorem State.setQp_fuse (s : State) (port fn qp : Nat) (r : Qp) : (s.setQp port fn qp r).fuse = s.fuse := rfl
@[simp] theorem State.setQp_now (s : State) (port fn qp : Nat) (r : Qp) : (s.setQp port fn qp r).now = s.now := rfl
@[simp] theorem State.setQp_nowStage (s : State) (port fn qp : Nat) (r : Qp) : (s.setQp port fn qp r).nowStage = s.nowStage := rfl
@[simp] theorem State.setQp_regs (s : State) (port fn qp : Nat) (r : Qp) : (s.setQp port fn qp r).regs = s.regs := rfl
@[simp] theorem State.setQp_core (s : State) (port fn qp : Nat) (r : Qp) : (s.setQp port fn qp r).core = s.core := rfl
@[simp] theorem State.setQp_coh (s : State) (port fn qp : Nat) (r : Qp) : (s.setQp port fn qp r).coh = s.coh := rfl
@[simp] theorem State.setQp_mem (s : State) (port fn qp : Nat) (r : Qp) : (s.setQp port fn qp r).mem = s.mem := rfl
@[simp] theorem State.setQp_parts (s : State) (port fn qp : Nat) (r : Qp) : (s.setQp port fn qp r).parts = s.parts := rfl
@[simp] theorem State.setQp_cry (s : State) (port fn qp : Nat) (r : Qp) : (s.setQp port fn qp r).cry = s.cry := rfl
@[simp] theorem State.setQp_cmp (s : State) (port fn qp : Nat) (r : Qp) : (s.setQp port fn qp r).cmp = s.cmp := rfl
@[simp] theorem State.setQp_link (s : State) (port fn qp : Nat) (r : Qp) : (s.setQp port fn qp r).link = s.link := rfl
@[simp] theorem State.setQp_xchg (s : State) (port fn qp : Nat) (r : Qp) : (s.setQp port fn qp r).xchg = s.xchg := rfl
@[simp] theorem State.setQp_jrn (s : State) (port fn qp : Nat) (r : Qp) : (s.setQp port fn qp r).jrn = s.jrn := rfl
@[simp] theorem State.setQp_dpx (s : State) (port fn qp : Nat) (r : Qp) : (s.setQp port fn qp r).dpx = s.dpx := rfl
@[simp] theorem State.setQp_flt (s : State) (port fn qp : Nat) (r : Qp) : (s.setQp port fn qp r).flt = s.flt := rfl
@[simp] theorem State.setQp_pwr (s : State) (port fn qp : Nat) (r : Qp) : (s.setQp port fn qp r).pwr = s.pwr := rfl
@[simp] theorem State.setQp_boot (s : State) (port fn qp : Nat) (r : Qp) : (s.setQp port fn qp r).boot = s.boot := rfl
@[simp] theorem State.setQp_pin (s : State) (port fn qp : Nat) (r : Qp) : (s.setQp port fn qp r).pin = s.pin := rfl

@[simp] theorem State.setWin_pending (s : State) (q src : Nat) (w : RWin) : (s.setWin q src w).pending = s.pending := rfl
@[simp] theorem State.setWin_out (s : State) (q src : Nat) (w : RWin) : (s.setWin q src w).out = s.out := rfl
@[simp] theorem State.setWin_free (s : State) (q src : Nat) (w : RWin) : (s.setWin q src w).free = s.free := rfl
@[simp] theorem State.setWin_fuse (s : State) (q src : Nat) (w : RWin) : (s.setWin q src w).fuse = s.fuse := rfl
@[simp] theorem State.setWin_now (s : State) (q src : Nat) (w : RWin) : (s.setWin q src w).now = s.now := rfl
@[simp] theorem State.setWin_nowStage (s : State) (q src : Nat) (w : RWin) : (s.setWin q src w).nowStage = s.nowStage := rfl
@[simp] theorem State.setWin_regs (s : State) (q src : Nat) (w : RWin) : (s.setWin q src w).regs = s.regs := rfl
@[simp] theorem State.setWin_core (s : State) (q src : Nat) (w : RWin) : (s.setWin q src w).core = s.core := rfl
@[simp] theorem State.setWin_coh (s : State) (q src : Nat) (w : RWin) : (s.setWin q src w).coh = s.coh := rfl
@[simp] theorem State.setWin_mem (s : State) (q src : Nat) (w : RWin) : (s.setWin q src w).mem = s.mem := rfl
@[simp] theorem State.setWin_parts (s : State) (q src : Nat) (w : RWin) : (s.setWin q src w).parts = s.parts := rfl
@[simp] theorem State.setWin_cry (s : State) (q src : Nat) (w : RWin) : (s.setWin q src w).cry = s.cry := rfl
@[simp] theorem State.setWin_cmp (s : State) (q src : Nat) (w : RWin) : (s.setWin q src w).cmp = s.cmp := rfl
@[simp] theorem State.setWin_link (s : State) (q src : Nat) (w : RWin) : (s.setWin q src w).link = s.link := rfl
@[simp] theorem State.setWin_xchg (s : State) (q src : Nat) (w : RWin) : (s.setWin q src w).xchg = s.xchg := rfl
@[simp] theorem State.setWin_jrn (s : State) (q src : Nat) (w : RWin) : (s.setWin q src w).jrn = s.jrn := rfl
@[simp] theorem State.setWin_dpx (s : State) (q src : Nat) (w : RWin) : (s.setWin q src w).dpx = s.dpx := rfl
@[simp] theorem State.setWin_flt (s : State) (q src : Nat) (w : RWin) : (s.setWin q src w).flt = s.flt := rfl
@[simp] theorem State.setWin_pwr (s : State) (q src : Nat) (w : RWin) : (s.setWin q src w).pwr = s.pwr := rfl
@[simp] theorem State.setWin_boot (s : State) (q src : Nat) (w : RWin) : (s.setWin q src w).boot = s.boot := rfl
@[simp] theorem State.setWin_pin (s : State) (q src : Nat) (w : RWin) : (s.setWin q src w).pin = s.pin := rfl

@[simp] theorem State.setReq_pending (s : State) (k : Nat) (r : Req) : (s.setReq k r).pending = s.pending := rfl
@[simp] theorem State.setReq_out (s : State) (k : Nat) (r : Req) : (s.setReq k r).out = s.out := rfl
@[simp] theorem State.setReq_free (s : State) (k : Nat) (r : Req) : (s.setReq k r).free = s.free := rfl
@[simp] theorem State.setReq_fuse (s : State) (k : Nat) (r : Req) : (s.setReq k r).fuse = s.fuse := rfl
@[simp] theorem State.setReq_now (s : State) (k : Nat) (r : Req) : (s.setReq k r).now = s.now := rfl
@[simp] theorem State.setReq_nowStage (s : State) (k : Nat) (r : Req) : (s.setReq k r).nowStage = s.nowStage := rfl
@[simp] theorem State.setReq_regs (s : State) (k : Nat) (r : Req) : (s.setReq k r).regs = s.regs := rfl
@[simp] theorem State.setReq_core (s : State) (k : Nat) (r : Req) : (s.setReq k r).core = s.core := rfl
@[simp] theorem State.setReq_coh (s : State) (k : Nat) (r : Req) : (s.setReq k r).coh = s.coh := rfl
@[simp] theorem State.setReq_mem (s : State) (k : Nat) (r : Req) : (s.setReq k r).mem = s.mem := rfl
@[simp] theorem State.setReq_host (s : State) (k : Nat) (r : Req) : (s.setReq k r).host = s.host := rfl
@[simp] theorem State.setReq_parts (s : State) (k : Nat) (r : Req) : (s.setReq k r).parts = s.parts := rfl
@[simp] theorem State.setReq_cmp (s : State) (k : Nat) (r : Req) : (s.setReq k r).cmp = s.cmp := rfl
@[simp] theorem State.setReq_link (s : State) (k : Nat) (r : Req) : (s.setReq k r).link = s.link := rfl
@[simp] theorem State.setReq_xchg (s : State) (k : Nat) (r : Req) : (s.setReq k r).xchg = s.xchg := rfl
@[simp] theorem State.setReq_jrn (s : State) (k : Nat) (r : Req) : (s.setReq k r).jrn = s.jrn := rfl
@[simp] theorem State.setReq_dpx (s : State) (k : Nat) (r : Req) : (s.setReq k r).dpx = s.dpx := rfl
@[simp] theorem State.setReq_flt (s : State) (k : Nat) (r : Req) : (s.setReq k r).flt = s.flt := rfl
@[simp] theorem State.setReq_pwr (s : State) (k : Nat) (r : Req) : (s.setReq k r).pwr = s.pwr := rfl
@[simp] theorem State.setReq_boot (s : State) (k : Nat) (r : Req) : (s.setReq k r).boot = s.boot := rfl
@[simp] theorem State.setReq_pin (s : State) (k : Nat) (r : Req) : (s.setReq k r).pin = s.pin := rfl

@[simp] theorem State.setCreq_pending (s : State) (k : Nat) (r : Req) : (s.setCreq k r).pending = s.pending := rfl
@[simp] theorem State.setCreq_out (s : State) (k : Nat) (r : Req) : (s.setCreq k r).out = s.out := rfl
@[simp] theorem State.setCreq_free (s : State) (k : Nat) (r : Req) : (s.setCreq k r).free = s.free := rfl
@[simp] theorem State.setCreq_fuse (s : State) (k : Nat) (r : Req) : (s.setCreq k r).fuse = s.fuse := rfl
@[simp] theorem State.setCreq_now (s : State) (k : Nat) (r : Req) : (s.setCreq k r).now = s.now := rfl
@[simp] theorem State.setCreq_nowStage (s : State) (k : Nat) (r : Req) : (s.setCreq k r).nowStage = s.nowStage := rfl
@[simp] theorem State.setCreq_regs (s : State) (k : Nat) (r : Req) : (s.setCreq k r).regs = s.regs := rfl
@[simp] theorem State.setCreq_core (s : State) (k : Nat) (r : Req) : (s.setCreq k r).core = s.core := rfl
@[simp] theorem State.setCreq_coh (s : State) (k : Nat) (r : Req) : (s.setCreq k r).coh = s.coh := rfl
@[simp] theorem State.setCreq_mem (s : State) (k : Nat) (r : Req) : (s.setCreq k r).mem = s.mem := rfl
@[simp] theorem State.setCreq_host (s : State) (k : Nat) (r : Req) : (s.setCreq k r).host = s.host := rfl
@[simp] theorem State.setCreq_parts (s : State) (k : Nat) (r : Req) : (s.setCreq k r).parts = s.parts := rfl
@[simp] theorem State.setCreq_cry (s : State) (k : Nat) (r : Req) : (s.setCreq k r).cry = s.cry := rfl
@[simp] theorem State.setCreq_link (s : State) (k : Nat) (r : Req) : (s.setCreq k r).link = s.link := rfl
@[simp] theorem State.setCreq_xchg (s : State) (k : Nat) (r : Req) : (s.setCreq k r).xchg = s.xchg := rfl
@[simp] theorem State.setCreq_jrn (s : State) (k : Nat) (r : Req) : (s.setCreq k r).jrn = s.jrn := rfl
@[simp] theorem State.setCreq_dpx (s : State) (k : Nat) (r : Req) : (s.setCreq k r).dpx = s.dpx := rfl
@[simp] theorem State.setCreq_flt (s : State) (k : Nat) (r : Req) : (s.setCreq k r).flt = s.flt := rfl
@[simp] theorem State.setCreq_pwr (s : State) (k : Nat) (r : Req) : (s.setCreq k r).pwr = s.pwr := rfl
@[simp] theorem State.setCreq_boot (s : State) (k : Nat) (r : Req) : (s.setCreq k r).boot = s.boot := rfl
@[simp] theorem State.setCreq_pin (s : State) (k : Nat) (r : Req) : (s.setCreq k r).pin = s.pin := rfl

@[simp] theorem State.setPwin_pending (s : State) (q : Nat) (w : PWin) : (s.setPwin q w).pending = s.pending := rfl
@[simp] theorem State.setPwin_out (s : State) (q : Nat) (w : PWin) : (s.setPwin q w).out = s.out := rfl
@[simp] theorem State.setPwin_free (s : State) (q : Nat) (w : PWin) : (s.setPwin q w).free = s.free := rfl
@[simp] theorem State.setPwin_fuse (s : State) (q : Nat) (w : PWin) : (s.setPwin q w).fuse = s.fuse := rfl
@[simp] theorem State.setPwin_now (s : State) (q : Nat) (w : PWin) : (s.setPwin q w).now = s.now := rfl
@[simp] theorem State.setPwin_nowStage (s : State) (q : Nat) (w : PWin) : (s.setPwin q w).nowStage = s.nowStage := rfl
@[simp] theorem State.setPwin_regs (s : State) (q : Nat) (w : PWin) : (s.setPwin q w).regs = s.regs := rfl
@[simp] theorem State.setPwin_core (s : State) (q : Nat) (w : PWin) : (s.setPwin q w).core = s.core := rfl
@[simp] theorem State.setPwin_coh (s : State) (q : Nat) (w : PWin) : (s.setPwin q w).coh = s.coh := rfl
@[simp] theorem State.setPwin_mem (s : State) (q : Nat) (w : PWin) : (s.setPwin q w).mem = s.mem := rfl
@[simp] theorem State.setPwin_host (s : State) (q : Nat) (w : PWin) : (s.setPwin q w).host = s.host := rfl
@[simp] theorem State.setPwin_parts (s : State) (q : Nat) (w : PWin) : (s.setPwin q w).parts = s.parts := rfl
@[simp] theorem State.setPwin_cry (s : State) (q : Nat) (w : PWin) : (s.setPwin q w).cry = s.cry := rfl
@[simp] theorem State.setPwin_cmp (s : State) (q : Nat) (w : PWin) : (s.setPwin q w).cmp = s.cmp := rfl
@[simp] theorem State.setPwin_link (s : State) (q : Nat) (w : PWin) : (s.setPwin q w).link = s.link := rfl
@[simp] theorem State.setPwin_jrn (s : State) (q : Nat) (w : PWin) : (s.setPwin q w).jrn = s.jrn := rfl
@[simp] theorem State.setPwin_dpx (s : State) (q : Nat) (w : PWin) : (s.setPwin q w).dpx = s.dpx := rfl
@[simp] theorem State.setPwin_flt (s : State) (q : Nat) (w : PWin) : (s.setPwin q w).flt = s.flt := rfl
@[simp] theorem State.setPwin_pwr (s : State) (q : Nat) (w : PWin) : (s.setPwin q w).pwr = s.pwr := rfl
@[simp] theorem State.setPwin_boot (s : State) (q : Nat) (w : PWin) : (s.setPwin q w).boot = s.boot := rfl
@[simp] theorem State.setPwin_pin (s : State) (q : Nat) (w : PWin) : (s.setPwin q w).pin = s.pin := rfl

@[simp] theorem State.endRetry_pending (s : State) (c : Nat) : (s.endRetry c).pending = s.pending := by
  unfold State.endRetry; split <;> simp
@[simp] theorem State.endRetry_out (s : State) (c : Nat) : (s.endRetry c).out = s.out := by
  unfold State.endRetry; split <;> simp
@[simp] theorem State.endRetry_free (s : State) (c : Nat) : (s.endRetry c).free = s.free := by
  unfold State.endRetry; split <;> simp
@[simp] theorem State.endRetry_fuse (s : State) (c : Nat) : (s.endRetry c).fuse = s.fuse := by
  unfold State.endRetry; split <;> simp
@[simp] theorem State.endRetry_now (s : State) (c : Nat) : (s.endRetry c).now = s.now := by
  unfold State.endRetry; split <;> simp
@[simp] theorem State.endRetry_nowStage (s : State) (c : Nat) : (s.endRetry c).nowStage = s.nowStage := by
  unfold State.endRetry; split <;> simp
@[simp] theorem State.endRetry_core (s : State) (c : Nat) : (s.endRetry c).core = s.core := by
  unfold State.endRetry; split <;> simp
@[simp] theorem State.endRetry_coh (s : State) (c : Nat) : (s.endRetry c).coh = s.coh := by
  unfold State.endRetry; split <;> simp
@[simp] theorem State.endRetry_mem (s : State) (c : Nat) : (s.endRetry c).mem = s.mem := by
  unfold State.endRetry; split <;> simp
@[simp] theorem State.endRetry_host (s : State) (c : Nat) : (s.endRetry c).host = s.host := by
  unfold State.endRetry; split <;> simp
@[simp] theorem State.endRetry_parts (s : State) (c : Nat) : (s.endRetry c).parts = s.parts := by
  unfold State.endRetry; split <;> simp
@[simp] theorem State.endRetry_cry (s : State) (c : Nat) : (s.endRetry c).cry = s.cry := by
  unfold State.endRetry; split <;> simp
@[simp] theorem State.endRetry_cmp (s : State) (c : Nat) : (s.endRetry c).cmp = s.cmp := by
  unfold State.endRetry; split <;> simp
@[simp] theorem State.endRetry_link (s : State) (c : Nat) : (s.endRetry c).link = s.link := by
  unfold State.endRetry; split <;> simp
@[simp] theorem State.endRetry_xchg (s : State) (c : Nat) : (s.endRetry c).xchg = s.xchg := by
  unfold State.endRetry; split <;> simp
@[simp] theorem State.endRetry_jrn (s : State) (c : Nat) : (s.endRetry c).jrn = s.jrn := by
  unfold State.endRetry; split <;> simp
@[simp] theorem State.endRetry_dpx (s : State) (c : Nat) : (s.endRetry c).dpx = s.dpx := by
  unfold State.endRetry; split <;> simp
@[simp] theorem State.endRetry_flt (s : State) (c : Nat) : (s.endRetry c).flt = s.flt := by
  unfold State.endRetry; split <;> simp
@[simp] theorem State.endRetry_pwr (s : State) (c : Nat) : (s.endRetry c).pwr = s.pwr := by
  unfold State.endRetry; split <;> simp
@[simp] theorem State.endRetry_boot (s : State) (c : Nat) : (s.endRetry c).boot = s.boot := by
  unfold State.endRetry; split <;> simp
@[simp] theorem State.endRetry_pin (s : State) (c : Nat) : (s.endRetry c).pin = s.pin := by
  unfold State.endRetry; split <;> simp

@[simp] theorem State.splitPass_pending (s : State) (c : Nat) (b : Bool) : (s.splitPass c b).pending = s.pending := by
  unfold State.splitPass; split <;> simp
@[simp] theorem State.splitPass_out (s : State) (c : Nat) (b : Bool) : (s.splitPass c b).out = s.out := by
  unfold State.splitPass; split <;> simp
@[simp] theorem State.splitPass_free (s : State) (c : Nat) (b : Bool) : (s.splitPass c b).free = s.free := by
  unfold State.splitPass; split <;> simp
@[simp] theorem State.splitPass_fuse (s : State) (c : Nat) (b : Bool) : (s.splitPass c b).fuse = s.fuse := by
  unfold State.splitPass; split <;> simp
@[simp] theorem State.splitPass_now (s : State) (c : Nat) (b : Bool) : (s.splitPass c b).now = s.now := by
  unfold State.splitPass; split <;> simp
@[simp] theorem State.splitPass_nowStage (s : State) (c : Nat) (b : Bool) : (s.splitPass c b).nowStage = s.nowStage := by
  unfold State.splitPass; split <;> simp
@[simp] theorem State.splitPass_core (s : State) (c : Nat) (b : Bool) : (s.splitPass c b).core = s.core := by
  unfold State.splitPass; split <;> simp
@[simp] theorem State.splitPass_coh (s : State) (c : Nat) (b : Bool) : (s.splitPass c b).coh = s.coh := by
  unfold State.splitPass; split <;> simp
@[simp] theorem State.splitPass_mem (s : State) (c : Nat) (b : Bool) : (s.splitPass c b).mem = s.mem := by
  unfold State.splitPass; split <;> simp
@[simp] theorem State.splitPass_host (s : State) (c : Nat) (b : Bool) : (s.splitPass c b).host = s.host := by
  unfold State.splitPass; split <;> simp
@[simp] theorem State.splitPass_parts (s : State) (c : Nat) (b : Bool) : (s.splitPass c b).parts = s.parts := by
  unfold State.splitPass; split <;> simp
@[simp] theorem State.splitPass_cry (s : State) (c : Nat) (b : Bool) : (s.splitPass c b).cry = s.cry := by
  unfold State.splitPass; split <;> simp
@[simp] theorem State.splitPass_cmp (s : State) (c : Nat) (b : Bool) : (s.splitPass c b).cmp = s.cmp := by
  unfold State.splitPass; split <;> simp
@[simp] theorem State.splitPass_link (s : State) (c : Nat) (b : Bool) : (s.splitPass c b).link = s.link := by
  unfold State.splitPass; split <;> simp
@[simp] theorem State.splitPass_xchg (s : State) (c : Nat) (b : Bool) : (s.splitPass c b).xchg = s.xchg := by
  unfold State.splitPass; split <;> simp
@[simp] theorem State.splitPass_jrn (s : State) (c : Nat) (b : Bool) : (s.splitPass c b).jrn = s.jrn := by
  unfold State.splitPass; split <;> simp
@[simp] theorem State.splitPass_dpx (s : State) (c : Nat) (b : Bool) : (s.splitPass c b).dpx = s.dpx := by
  unfold State.splitPass; split <;> simp
@[simp] theorem State.splitPass_flt (s : State) (c : Nat) (b : Bool) : (s.splitPass c b).flt = s.flt := by
  unfold State.splitPass; split <;> simp
@[simp] theorem State.splitPass_pwr (s : State) (c : Nat) (b : Bool) : (s.splitPass c b).pwr = s.pwr := by
  unfold State.splitPass; split <;> simp
@[simp] theorem State.splitPass_boot (s : State) (c : Nat) (b : Bool) : (s.splitPass c b).boot = s.boot := by
  unfold State.splitPass; split <;> simp
@[simp] theorem State.splitPass_pin (s : State) (c : Nat) (b : Bool) : (s.splitPass c b).pin = s.pin := by
  unfold State.splitPass; split <;> simp

@[simp] theorem State.closeWindow_pending (s : State) (c : Nat) : (s.closeWindow c).pending = s.pending := by
  simp [State.closeWindow]
@[simp] theorem State.closeWindow_out (s : State) (c : Nat) : (s.closeWindow c).out = s.out := by
  simp [State.closeWindow]
@[simp] theorem State.closeWindow_free (s : State) (c : Nat) : (s.closeWindow c).free = s.free := by
  simp [State.closeWindow]
@[simp] theorem State.closeWindow_fuse (s : State) (c : Nat) : (s.closeWindow c).fuse = s.fuse := by
  simp [State.closeWindow]
@[simp] theorem State.closeWindow_now (s : State) (c : Nat) : (s.closeWindow c).now = s.now := by
  simp [State.closeWindow]
@[simp] theorem State.closeWindow_nowStage (s : State) (c : Nat) : (s.closeWindow c).nowStage = s.nowStage := by
  simp [State.closeWindow]
@[simp] theorem State.closeWindow_coh (s : State) (c : Nat) : (s.closeWindow c).coh = s.coh := by
  simp [State.closeWindow]
@[simp] theorem State.closeWindow_mem (s : State) (c : Nat) : (s.closeWindow c).mem = s.mem := by
  simp [State.closeWindow]
@[simp] theorem State.closeWindow_host (s : State) (c : Nat) : (s.closeWindow c).host = s.host := by
  simp [State.closeWindow]
@[simp] theorem State.closeWindow_parts (s : State) (c : Nat) : (s.closeWindow c).parts = s.parts := by
  simp [State.closeWindow]
@[simp] theorem State.closeWindow_cry (s : State) (c : Nat) : (s.closeWindow c).cry = s.cry := by
  simp [State.closeWindow]
@[simp] theorem State.closeWindow_cmp (s : State) (c : Nat) : (s.closeWindow c).cmp = s.cmp := by
  simp [State.closeWindow]
@[simp] theorem State.closeWindow_link (s : State) (c : Nat) : (s.closeWindow c).link = s.link := by
  simp [State.closeWindow]
@[simp] theorem State.closeWindow_xchg (s : State) (c : Nat) : (s.closeWindow c).xchg = s.xchg := by
  simp [State.closeWindow]
@[simp] theorem State.closeWindow_jrn (s : State) (c : Nat) : (s.closeWindow c).jrn = s.jrn := by
  simp [State.closeWindow]
@[simp] theorem State.closeWindow_dpx (s : State) (c : Nat) : (s.closeWindow c).dpx = s.dpx := by
  simp [State.closeWindow]
@[simp] theorem State.closeWindow_flt (s : State) (c : Nat) : (s.closeWindow c).flt = s.flt := by
  simp [State.closeWindow]
@[simp] theorem State.closeWindow_pwr (s : State) (c : Nat) : (s.closeWindow c).pwr = s.pwr := by
  simp [State.closeWindow]
@[simp] theorem State.closeWindow_boot (s : State) (c : Nat) : (s.closeWindow c).boot = s.boot := by
  simp [State.closeWindow]
@[simp] theorem State.closeWindow_pin (s : State) (c : Nat) : (s.closeWindow c).pin = s.pin := by
  simp [State.closeWindow]

@[simp] theorem State.draw_pending (s : State) : (s.draw).2.pending = s.pending := rfl
@[simp] theorem State.drawBytes_pending (s : State) (n : Nat) : (s.drawBytes n).2.pending = s.pending := rfl
@[simp] theorem State.draw_out (s : State) : (s.draw).2.out = s.out := rfl
@[simp] theorem State.drawBytes_out (s : State) (n : Nat) : (s.drawBytes n).2.out = s.out := rfl
@[simp] theorem State.draw_fuse (s : State) : (s.draw).2.fuse = s.fuse := rfl
@[simp] theorem State.drawBytes_fuse (s : State) (n : Nat) : (s.drawBytes n).2.fuse = s.fuse := rfl
@[simp] theorem State.draw_now (s : State) : (s.draw).2.now = s.now := rfl
@[simp] theorem State.drawBytes_now (s : State) (n : Nat) : (s.drawBytes n).2.now = s.now := rfl
@[simp] theorem State.draw_nowStage (s : State) : (s.draw).2.nowStage = s.nowStage := rfl
@[simp] theorem State.drawBytes_nowStage (s : State) (n : Nat) : (s.drawBytes n).2.nowStage = s.nowStage := rfl
@[simp] theorem State.draw_regs (s : State) : (s.draw).2.regs = s.regs := rfl
@[simp] theorem State.drawBytes_regs (s : State) (n : Nat) : (s.drawBytes n).2.regs = s.regs := rfl
@[simp] theorem State.draw_core (s : State) : (s.draw).2.core = s.core := rfl
@[simp] theorem State.drawBytes_core (s : State) (n : Nat) : (s.drawBytes n).2.core = s.core := rfl
@[simp] theorem State.draw_coh (s : State) : (s.draw).2.coh = s.coh := rfl
@[simp] theorem State.drawBytes_coh (s : State) (n : Nat) : (s.drawBytes n).2.coh = s.coh := rfl
@[simp] theorem State.draw_mem (s : State) : (s.draw).2.mem = s.mem := rfl
@[simp] theorem State.drawBytes_mem (s : State) (n : Nat) : (s.drawBytes n).2.mem = s.mem := rfl
@[simp] theorem State.draw_host (s : State) : (s.draw).2.host = s.host := rfl
@[simp] theorem State.drawBytes_host (s : State) (n : Nat) : (s.drawBytes n).2.host = s.host := rfl
@[simp] theorem State.draw_parts (s : State) : (s.draw).2.parts = s.parts := rfl
@[simp] theorem State.drawBytes_parts (s : State) (n : Nat) : (s.drawBytes n).2.parts = s.parts := rfl
@[simp] theorem State.draw_cry (s : State) : (s.draw).2.cry = s.cry := rfl
@[simp] theorem State.drawBytes_cry (s : State) (n : Nat) : (s.drawBytes n).2.cry = s.cry := rfl
@[simp] theorem State.draw_cmp (s : State) : (s.draw).2.cmp = s.cmp := rfl
@[simp] theorem State.drawBytes_cmp (s : State) (n : Nat) : (s.drawBytes n).2.cmp = s.cmp := rfl
@[simp] theorem State.draw_link (s : State) : (s.draw).2.link = s.link := rfl
@[simp] theorem State.drawBytes_link (s : State) (n : Nat) : (s.drawBytes n).2.link = s.link := rfl
@[simp] theorem State.draw_xchg (s : State) : (s.draw).2.xchg = s.xchg := rfl
@[simp] theorem State.drawBytes_xchg (s : State) (n : Nat) : (s.drawBytes n).2.xchg = s.xchg := rfl
@[simp] theorem State.draw_jrn (s : State) : (s.draw).2.jrn = s.jrn := rfl
@[simp] theorem State.drawBytes_jrn (s : State) (n : Nat) : (s.drawBytes n).2.jrn = s.jrn := rfl
@[simp] theorem State.draw_dpx (s : State) : (s.draw).2.dpx = s.dpx := rfl
@[simp] theorem State.drawBytes_dpx (s : State) (n : Nat) : (s.drawBytes n).2.dpx = s.dpx := rfl
@[simp] theorem State.draw_flt (s : State) : (s.draw).2.flt = s.flt := rfl
@[simp] theorem State.drawBytes_flt (s : State) (n : Nat) : (s.drawBytes n).2.flt = s.flt := rfl
@[simp] theorem State.draw_pwr (s : State) : (s.draw).2.pwr = s.pwr := rfl
@[simp] theorem State.drawBytes_pwr (s : State) (n : Nat) : (s.drawBytes n).2.pwr = s.pwr := rfl
@[simp] theorem State.draw_boot (s : State) : (s.draw).2.boot = s.boot := rfl
@[simp] theorem State.drawBytes_boot (s : State) (n : Nat) : (s.drawBytes n).2.boot = s.boot := rfl
@[simp] theorem State.draw_pin (s : State) : (s.draw).2.pin = s.pin := rfl
@[simp] theorem State.drawBytes_pin (s : State) (n : Nat) : (s.drawBytes n).2.pin = s.pin := rfl
@[simp] theorem State.emitPin_pending (s : State) (o : Out) : (s.emitPin o).pending = s.pending := by
  unfold State.emitPin; split <;> rfl
@[simp] theorem State.emitPin_free (s : State) (o : Out) : (s.emitPin o).free = s.free := by
  unfold State.emitPin; split <;> rfl
@[simp] theorem State.emitPin_fuse (s : State) (o : Out) : (s.emitPin o).fuse = s.fuse := by
  unfold State.emitPin; split <;> rfl
@[simp] theorem State.emitPin_now (s : State) (o : Out) : (s.emitPin o).now = s.now := by
  unfold State.emitPin; split <;> rfl
@[simp] theorem State.emitPin_nowStage (s : State) (o : Out) : (s.emitPin o).nowStage = s.nowStage := by
  unfold State.emitPin; split <;> rfl
@[simp] theorem State.emitPin_regs (s : State) (o : Out) : (s.emitPin o).regs = s.regs := by
  unfold State.emitPin; split <;> rfl
@[simp] theorem State.emitPin_core (s : State) (o : Out) : (s.emitPin o).core = s.core := by
  unfold State.emitPin; split <;> rfl
@[simp] theorem State.emitPin_coh (s : State) (o : Out) : (s.emitPin o).coh = s.coh := by
  unfold State.emitPin; split <;> rfl
@[simp] theorem State.emitPin_mem (s : State) (o : Out) : (s.emitPin o).mem = s.mem := by
  unfold State.emitPin; split <;> rfl
@[simp] theorem State.emitPin_host (s : State) (o : Out) : (s.emitPin o).host = s.host := by
  unfold State.emitPin; split <;> rfl
@[simp] theorem State.emitPin_parts (s : State) (o : Out) : (s.emitPin o).parts = s.parts := by
  unfold State.emitPin; split <;> rfl
@[simp] theorem State.emitPin_cry (s : State) (o : Out) : (s.emitPin o).cry = s.cry := by
  unfold State.emitPin; split <;> rfl
@[simp] theorem State.emitPin_cmp (s : State) (o : Out) : (s.emitPin o).cmp = s.cmp := by
  unfold State.emitPin; split <;> rfl
@[simp] theorem State.emitPin_link (s : State) (o : Out) : (s.emitPin o).link = s.link := by
  unfold State.emitPin; split <;> rfl
@[simp] theorem State.emitPin_xchg (s : State) (o : Out) : (s.emitPin o).xchg = s.xchg := by
  unfold State.emitPin; split <;> rfl
@[simp] theorem State.emitPin_jrn (s : State) (o : Out) : (s.emitPin o).jrn = s.jrn := by
  unfold State.emitPin; split <;> rfl
@[simp] theorem State.emitPin_dpx (s : State) (o : Out) : (s.emitPin o).dpx = s.dpx := by
  unfold State.emitPin; split <;> rfl
@[simp] theorem State.emitPin_flt (s : State) (o : Out) : (s.emitPin o).flt = s.flt := by
  unfold State.emitPin; split <;> rfl
@[simp] theorem State.emitPin_pwr (s : State) (o : Out) : (s.emitPin o).pwr = s.pwr := by
  unfold State.emitPin; split <;> rfl
@[simp] theorem State.emitPin_boot (s : State) (o : Out) : (s.emitPin o).boot = s.boot := by
  unfold State.emitPin; split <;> rfl
@[simp] theorem State.emitPin_pin (s : State) (o : Out) : (s.emitPin o).pin = s.pin := by
  unfold State.emitPin; split <;> rfl

/-! ## Reading back -/

@[simp] theorem State.rd_wr_self (s : State) (a : Nat) (v : Word) : (s.wr a v).rd a = v := by
  simp [State.rd, State.wr]

theorem State.rd_wr_ne (s : State) (a b : Nat) (v : Word) (h : b ≠ a) : (s.wr a v).rd b = s.rd b := by
  simp [State.rd, State.wr, h]

theorem State.rd_wr (s : State) (a b : Nat) (v : Word) : (s.wr a v).rd b = if b = a then v else s.rd b := by
  by_cases h : b = a
  · subst h; simp
  · simp [State.rd_wr_ne, h]

theorem State.rd_wf_ne (s : State) (a b hi lo v : Nat) (h : b ≠ a) : (s.wf a hi lo v).rd b = s.rd b :=
  State.rd_wr_ne s a b _ h

theorem State.rd_wb_ne (s : State) (a b i : Nat) (v : Bool) (h : b ≠ a) : (s.wb a i v).rd b = s.rd b :=
  State.rd_wr_ne s a b _ h

@[simp] theorem State.rd_emit (s : State) (o : Out) (a : Nat) : (s.emit o).rd a = s.rd a := rfl

@[simp] theorem State.rd_raise (s : State) (src ev a : Nat) : (s.raise src ev).rd a = s.rd a := rfl

@[simp] theorem State.rd_emitPin (s : State) (o : Out) (a : Nat) : (s.emitPin o).rd a = s.rd a := by
  unfold State.emitPin; split <;> rfl

@[simp] theorem State.emit_out (s : State) (o : Out) : (s.emit o).out = s.out ++ [o] := rfl

theorem State.emitPin_out (s : State) (o : Out) : (s.emitPin o).out = s.out ++ pinOut s o := by
  unfold State.emitPin pinOut; split <;> simp [State.emit]

@[simp] theorem State.raise_queue (s : State) (src ev : Nat) :
    (s.raise src ev).flt.queue = s.flt.queue ++ [⟨src, ev, s.time, false⟩] := rfl

@[simp] theorem State.proc_setProc_self (s : State) (c : Nat) (p : Proc) : (s.setProc c p).proc c = p := by
  simp [State.proc, State.setProc]

theorem State.proc_setProc_ne (s : State) (c k : Nat) (p : Proc) (h : k ≠ c) : (s.setProc c p).proc k = s.proc k := by
  simp [State.proc, State.setProc, h]

@[simp] theorem State.lk_setLk_self (s : State) (l : Nat) (k : LinkSt) : (s.setLk l k).lk l = k := by
  simp [State.lk, State.setLk]

theorem State.lk_setLk_ne (s : State) (l m : Nat) (k : LinkSt) (h : m ≠ l) : (s.setLk l k).lk m = s.lk m := by
  simp [State.lk, State.setLk, h]

/-! ## The fault logic's pass -/

theorem settleN_idle (n : Nat) (s : State) (h : s.flt.queue = []) : settleN n s = s := by
  cases n with
  | zero => rfl
  | succ n => unfold settleN; rw [h]

/-- Where no event waits the pass at the end of a command changes nothing. -/
theorem settle_idle (s : State) (h : s.flt.queue = []) : settle s = s := settleN_idle 4096 s h

/-- A command whose meaning ends in `u` does what holds of `u`. -/
theorem Does.of_fin {i : Instr} {s u : State} {P : State → Prop} (h : exec i s = fin u) (hp : P u) : Does i s P :=
  ⟨u, h, hp⟩

end Sys2Proof.Machine
end

