-- ==== Sys2Proof/Tests/Slice0.lean ====
section
/-!
SUPPORT. Tests of the model: a word that each check of WellFormed refuses, what a few commands of each family do on small
states (the expected results are worked out by hand from the rules of spec/ that the statements cite), and for each statement
with hypotheses a state and operands that meet them.
-/
namespace Sys2Proof.Tests
open Sys2Proof Sys2Proof.Machine

set_option Elab.async false

/-! ## Helpers -/

/-- The state that a command leads to. -/
def ran (i : Instr) (s : State) : State :=
  match exec i s with
  | .next t => t
  | _ => {}

/-- Registers of the block of `cpu`: pair 0 active for partition 1, which runs with extent 2 in slot 0. -/
def cpuRegs : Tbl Word := [(0x100408, 1), (aPart 1 8, 2), (aPart 1 0x800, 0x201), (aPair 0 0, 0x101)]

/-- A block whose processor 0 has architectural state `a`, with CODE at address 0x1000 of its partition, the words `m` above
it, by partition address (in slot 0, so at 2 GiB more in memory), and page tables at 0 and 0x8000 that map each address to
itself with every permission. -/
def cpu (a : Arch) (m : List (Nat × TWord) := []) : State :=
  { regs := cpuRegs
    mem := { words := (0x10000000, ⟨0x8001, Tag.untyped⟩) :: (0x10000200, ⟨0, Tag.code⟩)
      :: m.map (fun w => (0x10000000 + w.1 / 8, w.2)) ++ [(0x10001000, ⟨0xFF, Tag.untyped⟩)] }
    core := { procs := [(0, { running := true, a := a, ckpt := a })] } }

/-- A processor at address 0x1000 in supervisor state, translation off, with the registers given. -/
def arch (g : Tbl TWord) : Arch := { g := g, psw0 := 1, pc := 0x1000 }

/-- The same in program state. -/
def user (g : Tbl TWord) : Arch := { g := g, psw0 := 0, pc := 0x1000 }

/-- An UNTYPED word. -/
def u (n : Word) : TWord := ⟨n, Tag.untyped⟩

/-- What a word begins with on core 0: its state once the word is fetched. -/
def x0 (s : State) : X :=
  match s.fetch 0 { a := archOf s 0, free := s.free } with
  | .ok y => y
  | .error _ => {}

/-- The premises of `Starts` for core 0, as a check. -/
def startsOk (s : State) : Bool :=
  s.canStart 0 && (s.proc 0).waiting.isNone && (s.proc 0).fresh && decide ((s.proc 0).gate.length ≤ 64)
    && (s.fetch 0 { a := archOf s 0, free := s.free }).isOk && !(archOf s 0).psw0.getLsbD 8

/-- A state that passes the check can start any word. -/
theorem starts_of (s : State) (ub sb : Nat) (hs : sb ≤ 64) (h : startsOk s = true) : Starts s 0 ub sb (x0 s) := by
  simp only [startsOk, Bool.and_eq_true, Option.isNone_iff_eq_none, decide_eq_true_eq, Bool.not_eq_true'] at h
  obtain ⟨⟨⟨⟨⟨h1, h2⟩, h3⟩, h4⟩, h5⟩, h6⟩ := h
  refine ⟨h1, h2, .inl h3, by omega, ?_, h6⟩
  unfold x0
  split
  · assumption
  · rename_i e he; rw [he] at h5; cases h5

/-- Whether a word has retired on core 0 as `Retired` says. -/
def retired (s t : State) (a : Arch) (ents : List GateEnt := []) : Bool :=
  decide (archOf t 0 = a)
  && decide ((t.proc 0).gate.map GateEnt.effect = (s.proc 0).gate.map GateEnt.effect ++ ents.map GateEnt.effect)
  && decide ({ t with free := 0, core := { t.core with procs := [], tlb := [] } }
      = { s with free := 0, core := { s.core with procs := [], tlb := [] } })

/-- The word has written one G register. -/
def wrote (i : Instr) (s : State) (d : Nat) (w : TWord) : Bool := retired s (ran i s) (seqEnd (setG (archOf s 0) d w))

/-- The word has taken an exception of a code: the processor stands at its vector, and no register or store changed. -/
def traps (i : Instr) (s : State) (code : Nat) : Bool :=
  let t := ran i s
  let a := archOf s 0
  decide ((archOf t 0).pc = cr a 8 + BitVec.ofNat 64 (0x40 * code)) && (archOf t 0).psw0.getLsbD 2
    && decide ((archOf t 0).g = a.g) && decide ((t.proc 0).gate = (s.proc 0).gate)

/-- Events that a command has raised, in a state whose fault registers are not armed yet. -/
def events (i : Instr) (s : State) : List (Nat × Nat) := ((ran i s).flt.early.drop s.flt.early.length).map fun e => (e.src, e.ev)

/-! ## Steps and time -/

/-- Hypotheses of QueueAndTime: powered, past boot stage 0, and before it. -/
theorem witness_QueueAndTime : let s : State := { regs := [(aClk 0x410, 1)] }
    s.pending = [] ∧ s.pwr.powered = true ∧ s.rf (aClk 0x410) 3 0 ≠ 0 ∧ s.flt.queue = []
    ∧ State.reset.rf (aClk 0x410) 3 0 = 0 := by decide +kernel

/-- A tick (R19). -/
theorem test_tick : State.tick { regs := [(aClk 0x410, 1)], now := 7, nowStage := 6 } =
    { regs := [(aClk 0x410, 1)], now := 8, nowStage := 7 } := by decide +kernel

/-! ## Integer words -/

/-- Two UNTYPED registers, the second one 2^64 − 1. -/
def sInt : State := cpu (arch [(1, u 5), (2, u 0xFFFFFFFFFFFFFFFF), (3, u 0), (4, u 0x8000000000000000)])

theorem witness_IntegerAndCarry : Starts sInt 0 1 0 (x0 sInt) ∧ (gr (archOf sInt 0) 1).tag = Tag.untyped
    ∧ (gr (archOf sInt 0) 2).tag = Tag.untyped := ⟨starts_of _ _ _ (by decide +kernel) (by decide +kernel), by decide +kernel⟩

theorem test_mul : wrote (.mul 0 9 1 2) sInt 9 (u (-5)) = true ∧ wrote (.mulh 0 9 1 2) sInt 9 (u (-1)) = true
    ∧ wrote (.mulhu 0 9 1 2) sInt 9 (u 4) = true := by decide +kernel
theorem test_minmax : wrote (.min 0 9 1 2) sInt 9 (u (-1)) = true ∧ wrote (.minu 0 9 1 2) sInt 9 (u 5) = true
    ∧ wrote (.max 0 9 1 2) sInt 9 (u 5) = true ∧ wrote (.maxu 0 9 1 2) sInt 9 (u (-1)) = true := by decide +kernel
theorem test_shift : wrote (.shl 0 9 4 1) sInt 9 (u 0) = true ∧ wrote (.shr 0 9 4 2) sInt 9 (u 1) = true
    ∧ wrote (.sra 0 9 4 1) sInt 9 (u 0xFC00000000000000) = true ∧ wrote (.rotl 0 9 4 1) sInt 9 (u 0x10) = true := by decide +kernel
theorem test_addc : retired sInt (ran (.addu 0 9 1 2) sInt) (seqEnd (setG { archOf sInt 0 with cc := 3 } 9 (u 4))) = true
    ∧ retired sInt (ran (.subu 0 9 3 1) sInt) (seqEnd (setG { archOf sInt 0 with cc := 3 } 9 (u (-5)))) = true := by decide +kernel
theorem test_g0 : wrote (.mul 0 0 1 1) sInt 0 (u 25) = true ∧ gr (archOf (ran (.mul 0 0 1 1) sInt) 0) 0 = u 0 := by decide +kernel

theorem witness_DivisionAndTags : Starts sInt 0 1 0 (x0 sInt) ∧ Plain (archOf sInt 0) ∧ (gr (archOf sInt 0) 3).val = 0
    ∧ (gr (archOf sInt 0) 4).val.toInt = -(2 ^ 63) ∧ (gr (archOf sInt 0) 2).val.toInt = -1 :=
  ⟨starts_of _ _ _ (by decide +kernel) (by decide +kernel), by unfold Plain; decide⟩

theorem test_div : wrote (.div 0 9 2 1) sInt 9 (u 0) = true ∧ wrote (.rem 0 9 2 1) sInt 9 (u (-1)) = true
    ∧ wrote (.divu 0 9 2 1) sInt 9 (u 0x3333333333333333) = true := by decide +kernel
theorem test_div_corners : traps (.div 0 9 1 3) sInt 0x0C = true ∧ traps (.div 0 9 4 2) sInt 0x0C = true
    ∧ wrote (.rem 0 9 4 2) sInt 9 (u 0) = true := by decide +kernel

/-- POINTERs and a TIME. -/
def sTag : State := cpu (arch [(1, ⟨0x2000, Tag.pointer⟩), (2, ⟨0x1F00, Tag.pointer⟩), (3, u 8), (5, ⟨0xFFFFFFFFFFFF, Tag.pointer⟩),
  (6, ⟨7, Tag.sealedW⟩), (7, ⟨0x61, Tag.text⟩)])

theorem witness_DivisionAndTags_tags : Starts sTag 0 1 0 (x0 sTag) ∧ (gr (archOf sTag 0) 1).tag = Tag.pointer
    ∧ (gr (archOf sTag 0) 2).tag = Tag.pointer ∧ (gr (archOf sTag 0) 3).tag = Tag.untyped
    ∧ 2 ^ 48 ≤ ((gr (archOf sTag 0) 5).val + 8).toNat := ⟨starts_of _ _ _ (by decide +kernel) (by decide +kernel), by decide +kernel⟩

theorem test_pointers : wrote (.add 0 9 1 3) sTag 9 ⟨0x2008, Tag.pointer⟩ = true ∧ wrote (.sub 0 9 1 2) sTag 9 (u 0x100) = true
    ∧ traps (.add 0 9 1 2) sTag 6 = true ∧ traps (.add 0 9 5 3) sTag 8 = true
    ∧ wrote (.la 0 9 3 0x7FF8) sTag 9 ⟨0, Tag.pointer⟩ = true := by decide +kernel

theorem witness_LogicalAndCompare : Starts sTag 0 1 0 (x0 sTag) ∧ (gr (archOf sTag 0) 7).tag = Tag.text
    ∧ (gr (archOf sTag 0) 6).tag = Tag.sealedW ∧ Plain (archOf sTag 0) :=
  ⟨starts_of _ _ _ (by decide +kernel) (by decide +kernel), by decide +kernel, by decide +kernel, by unfold Plain; decide⟩

theorem test_logic : wrote (.orr 0 9 7 3) sTag 9 ⟨0x69, Tag.text⟩ = true ∧ traps (.andd 0 9 1 3) sTag 6 = true
    ∧ traps (.nott 0 9 3 3) sTag 3 = true ∧ wrote (.andn 0 9 7 3) sTag 9 ⟨0x61, Tag.text⟩ = true := by decide +kernel
theorem test_compare : retired sInt (ran (.cmp 0 0 2 1) sInt) (seqEnd { archOf sInt 0 with cc := 1 }) = true
    ∧ retired sInt (ran (.cmpu 0 0 2 1) sInt) (seqEnd { archOf sInt 0 with cc := 2 }) = true
    ∧ retired sInt (ran (.cmpui 0 0 2 0x7FFF) sInt) (seqEnd { archOf sInt 0 with cc := 2 }) = true := by decide +kernel

theorem witness_UnaryAndConstants : Starts sTag 0 1 0 (x0 sTag) ∧ (gr (archOf sTag 0) 3).tag = Tag.untyped
    ∧ (gr (archOf sTag 0) 7).tag = Tag.text ∧ (gr (archOf sTag 0) 6).tag = Tag.sealedW :=
  ⟨starts_of _ _ _ (by decide +kernel) (by decide +kernel), by decide +kernel⟩

theorem test_bits : wrote (.clz 0 9 3 0) sTag 9 (u 60) = true ∧ wrote (.ctz 0 9 3 0) sTag 9 (u 3) = true
    ∧ wrote (.popc 0 9 3 0) sTag 9 (u 1) = true ∧ wrote (.clz 0 9 0 0) sTag 9 (u 64) = true := by decide +kernel
theorem test_moves : traps (.mov 0 9 6 0) sTag 6 = true ∧ wrote (.movs 0 9 6 0) sTag 9 ⟨7, Tag.sealedW⟩ = true
    ∧ wrote (.txup 0 9 7 0) sTag 9 ⟨0x41, Tag.text⟩ = true ∧ wrote (.gettag 0 9 6 0) sTag 9 (u Tag.sealedW.toNat) = true := by
  decide +kernel
theorem test_wide : retired sInt (ran (.mulwu 0 10 2 2) sInt)
    (seqEnd (setG (setG (archOf sInt 0) 10 (u 0xFFFFFFFFFFFFFFFE)) 11 (u 1))) = true ∧ traps (.mulw 0 9 1 2) sInt 3 = true := by
  decide +kernel
theorem test_constants : wrote (.movi 0 9 0xFFFFF) sInt 9 (u (-1)) = true ∧ wrote (.ins16 0 2 0 3 0x1234) sInt 2 (u 0x1234FFFFFFFFFFFF) = true
    ∧ wrote (.shi 0 9 4 (2#9 ++ 4#6)) sInt 9 (u 0xF800000000000000) = true
    ∧ wrote (.rcpt 0 9 1 3) sInt 9 ⟨5, Tag.receipt⟩ = true := by decide +kernel

/-! ## Loads, stores, branches -/

/-- Registers 1 to 4 point at the words at 0x2000; those carry UNTYPED, SEALED, BINFP, POISON, CODE. -/
def sMem (a : Tbl TWord → Arch := arch) : State :=
  cpu (a [(1, ⟨0x2000, Tag.pointer⟩), (2, u 0x2003), (3, ⟨0x1234, Tag.sealedW⟩), (4, u 0x80), (5, ⟨0x2000, Tag.text⟩), (6, u 8)])
    [(0x2000, u 0x1122334455667788), (0x2008, ⟨9, Tag.sealedW⟩), (0x2010, ⟨0x3FF0000000000000, Tag.binfp⟩), (0x2018, ⟨1, Tag.poison⟩),
     (0x2020, ⟨2, Tag.code⟩)]

/-- Where an access of core 0 to an address goes. -/
def paOf (s : State) (w : Acc) (va : Word) : Option Nat :=
  match s.translate 0 (x0 s) w va with
  | .ok (pa, _) => some pa
  | .error _ => none

/-- The word that core 0 sees at an address of its partition. -/
def seenAt (s : State) (pra : Nat) : TWord := s.seen 0 (x0 s) (0x80000000 + pra)

theorem witness_Loads : Starts (sMem) 0 1 0 (x0 sMem) ∧ paOf sMem .load 0x2000 = some 0x80002000
    ∧ paOf sMem .load 0x2003 = some 0x80002003 ∧ (seenAt sMem 0x2000).tag = Tag.untyped ∧ (seenAt sMem 0x2008).tag = Tag.sealedW
    ∧ (seenAt sMem 0x2010).tag = Tag.binfp ∧ (seenAt sMem 0x2018).tag = Tag.poison ∧ Plain (archOf sMem 0) :=
  ⟨starts_of _ _ _ (by decide) (by decide +kernel), by decide +kernel, by decide +kernel, by decide +kernel, by decide +kernel,
    by decide +kernel, by decide +kernel, by unfold Plain; decide +kernel⟩

theorem test_loads : wrote (.ld 0 9 1 0) sMem 9 (u 0x1122334455667788) = true ∧ wrote (.lb 0 9 1 3) sMem 9 (u 0x55) = true
    ∧ wrote (.lbu 0 9 1 0) sMem 9 (u 0x88) = true ∧ wrote (.lb 0 9 1 0) sMem 9 (u 0xFFFFFFFFFFFFFF88) = true
    ∧ wrote (.lhu 0 9 1 6) sMem 9 (u 0x1122) = true ∧ wrote (.lw 0 9 1 4) sMem 9 (u 0x11223344) = true := by decide +kernel
theorem test_loads_tagged : wrote (.movsL 0 9 1 8) sMem 9 ⟨9, Tag.sealedW⟩ = true ∧ traps (.ld 0 9 1 8) sMem 6 = true
    ∧ traps (.ld 0 9 1 24) sMem 10 = true ∧ wrote (.tagm 0 9 1 24) sMem 9 (u Tag.poison.toNat) = true
    ∧ traps (.ld 0 9 2 0) sMem 7 = true ∧ traps (.lh 0 9 2 0) sMem 7 = true := by decide +kernel
theorem test_ldf : retired sMem (ran (.ldf 0 9 1 16) sMem) (seqEnd (setF (archOf sMem 0) 9 0x3FF0000000000000)) = true := by
  decide +kernel

/-- The gate after a command on core 0. -/
def gateOf (i : Instr) (s : State) : List (GateKind × Nat × Nat × TWord × Bool) :=
  ((ran i s).proc 0).gate.map fun e => (e.kind, e.pa, e.size, e.data, e.keep)

/-- The gate after a command on core 0 is the one given. -/
def gateIs (i : Instr) (s : State) (l : List (GateKind × Nat × Nat × TWord × Bool)) : Bool := decide (gateOf i s = l)

theorem witness_StoreEffects : Starts sMem 0 1 1 (x0 sMem) ∧ paOf sMem .store 0x2000 = some 0x80002000
    ∧ (seenAt sMem 0x2020).tag = Tag.code ∧ Plain (archOf sMem 0) ∧ (archOf sMem 0).psw0.getLsbD 5 = false :=
  ⟨starts_of _ _ _ (by decide) (by decide +kernel), by decide +kernel, by decide +kernel, by unfold Plain; decide +kernel,
    by decide +kernel⟩

theorem test_stores : gateIs (.st 0 4 1 0) sMem [(.store, 0x80002000, 8, u 0x80, false)] = true
    ∧ gateIs (.sb 0 4 2 0) sMem [(.store, 0x80002003, 1, u 0x80, true)] = true
    ∧ gateIs (.movsS 0 3 1 0) sMem [(.store, 0x80002000, 8, ⟨0x1234, Tag.sealedW⟩, false)] = true
    ∧ (ran (.st 0 4 1 0) sMem).mem = sMem.mem := by decide +kernel
theorem test_store_traps : traps (.st 0 4 1 32) sMem 9 = true ∧ traps (.st 0 3 1 0) sMem 6 = true ∧ traps (.st 0 4 2 0) sMem 7 = true
    ∧ traps (.st 0 4 5 0) sMem 6 = true := by decide +kernel
theorem test_store_seen : seenAt (ran (.sb 0 4 2 0) sMem) 0x2000 = u 0x1122334480667788
    ∧ (ran (.sb 0 4 2 0) sMem).readPa 0x80002000 = u 0x1122334455667788 := by decide +kernel

theorem witness_IndexedAccess : Starts sMem 0 1 1 (x0 sMem) ∧ (gr (archOf sMem 0) 1).tag = Tag.pointer
    ∧ (gr (archOf sMem 0) 6).tag = Tag.untyped ∧ paOf sMem .load 0x2010 = some 0x80002010 ∧ paOf sMem .store 0x2008 = some 0x80002008 :=
  ⟨starts_of _ _ _ (by decide) (by decide +kernel), by decide +kernel⟩

theorem test_indexed : wrote (.indexedAccess 0 9 1 0 0) sMem 9 (u 0x1122334455667788) = true
    ∧ retired sMem (ran (.indexedAccess 0 9 1 6 (11#4 ++ 1#2 ++ 0#4)) sMem) (seqEnd (setF (archOf sMem 0) 9 0x3FF0000000000000)) = true
    ∧ gateIs (.indexedAccess 0 4 1 6 (8#4 ++ 3#2 ++ 0#4)) sMem [(.store, 0x80002040, 1, u 0x80, true)] = true
    ∧ traps (.indexedAccess 0 9 1 6 (13#4 ++ 0#2 ++ 0#4)) sMem 3 = true := by decide +kernel

theorem witness_BranchResults : Starts sMem 0 1 0 (x0 sMem) ∧ (gr (archOf sMem 0) 2).val.toNat % 4 ≠ 0
    ∧ (gr (archOf sMem 0) 6).val.toNat % 4 = 0 ∧ (gr (archOf sMem 0) 3).tag = Tag.sealedW ∧ Plain (archOf sMem 0) :=
  ⟨starts_of _ _ _ (by decide) (by decide +kernel), by unfold Plain; decide +kernel⟩

theorem test_branches : retired sMem (ran (.b 0 0x1FFFFFF) sMem) (jumpEnd (archOf sMem 0) 0xFFC) = true
    ∧ retired sMem (ran (.call 0 31 2) sMem) (jumpEnd (setG (archOf sMem 0) 31 ⟨0x1004, Tag.pointer⟩) 0x1008) = true
    ∧ retired sMem (ran (.bc 0 0 5) sMem) (jumpEnd (archOf sMem 0) 0x1014) = true
    ∧ retired sMem (ran (.bc 0 4 5) sMem) (seqEnd (archOf sMem 0)) = true
    ∧ retired sMem (ran (.br 0 0 6 0) sMem) (jumpEnd (archOf sMem 0) 8) = true := by decide +kernel
theorem test_cb : retired sMem (ran (.cb 0 2 6 4 5) sMem) (jumpEnd (archOf sMem 0) 0x1014) = true
    ∧ retired sMem (ran (.cb 0 5 6 4 5) sMem) (seqEnd (archOf sMem 0)) = true ∧ traps (.cb 0 0 3 6 5) sMem 6 = true
    ∧ traps (.cb 0 6 4 6 5) sMem 3 = true ∧ traps (.br 0 0 2 0) sMem 7 = true := by decide +kernel

/-- A processor with four loops open. -/
def sFull : State := cpu { arch [(1, u 2)] with depth := 4, lend := [(3, 0x1000)], lstart := [(3, 0x800)], lcount := [(3, 5)] }

theorem witness_Loops : Starts sMem 0 1 0 (x0 sMem) ∧ (archOf sMem 0).depth = 0 ∧ (gr (archOf sMem 0) 6).val ≠ 0
    ∧ (gr (archOf sMem 0) 0).val = 0 ∧ Starts sFull 0 1 0 (x0 sFull) ∧ 4 ≤ (archOf sFull 0).depth
    ∧ (archOf sFull 0).lend.get 0 3 = (archOf sFull 0).pc ∧ 1 < ((archOf sFull 0).lcount.get 0 3).toNat :=
  ⟨starts_of _ _ _ (by decide) (by decide +kernel), by decide +kernel, by decide +kernel, by decide +kernel,
    starts_of _ _ _ (by decide) (by decide +kernel), by decide +kernel⟩

theorem test_loops : (archOf (ran (.loop 0 6 3) sMem) 0).depth = 1 ∧ (archOf (ran (.loop 0 6 3) sMem) 0).lend.get 0 0 = 0x100C
    ∧ (archOf (ran (.loop 0 0 3) sMem) 0).pc = 0x1010 ∧ traps (.loop 0 1 3) sFull 5 = true ∧ traps (.lexit 0 0 0 0) sMem 5 = true := by
  decide +kernel
theorem test_loop_end : (seqEnd (archOf sFull 0)).pc = 0x800 ∧ (seqEnd (archOf sFull 0)).lcount.get 0 3 = 4
    ∧ (archOf (ran (.lexit 0 0 0 0) sFull) 0).depth = 3 := by decide +kernel

theorem witness_PairedWords : Starts sMem 0 2 2 (x0 sMem) ∧ (gr (archOf sMem 0) 6).tag = Tag.untyped :=
  ⟨starts_of _ _ _ (by decide) (by decide +kernel), by decide +kernel⟩

theorem test_paired : wrote (.pairedWord 0 (11#5 ++ 7#5 ++ 3#5) (10#5 ++ 7#5 ++ 31#5)) sMem 7 (u 2) = true
    ∧ retired sMem (ran (.shortNop 0 0 0) sMem) (seqEnd (archOf sMem 0)) = true := by decide +kernel

theorem witness_OperandTags : Starts sMem 0 1 1 (x0 sMem) ∧ Plain (archOf sMem 0) ∧ (gr (archOf sMem 0) 5).tag = Tag.text
    ∧ (gr (archOf sMem 0) 3).tag = Tag.sealedW ∧ (gr (archOf sMem 0) 1).tag = Tag.pointer ∧ wordDefined 0x7E000000 = false :=
  ⟨starts_of _ _ _ (by decide) (by decide +kernel), by unfold Plain; decide +kernel, by decide +kernel⟩

theorem test_operand_tags : traps (.mul 0 9 5 6) sMem 6 = true ∧ traps (.ld 0 9 5 0) sMem 6 = true ∧ traps (.movs 0 9 6 0) sMem 6 = true
    ∧ traps (.undefinedOpcode 0 0x7E000000) sMem 3 = true := by decide +kernel

/-! ## System words -/

/-- The registers of a processor whose handlers stand at 0x40000 and whose event 3 is pending and delegated. -/
def sSys (a : Tbl TWord → Arch := arch) : State :=
  let b := a [(1, u 0x55), (2, ⟨0x2000, Tag.pointer⟩)]
  { cpu { b with c := [(1, 0x2004), (2, 3), (5, 0xD), (8, 0x40000), (10, 0x3000), (11, 0x9), (13, 0x4), (16, 0x408), (18, 8)] } with
    now := 10, nowStage := 9 }

theorem witness_SpecialRegisters : Starts sSys 0 1 0 (x0 sSys) ∧ (archOf sSys 0).psw0.getLsbD 0 = true
    ∧ Starts (sSys user) 0 1 0 (x0 (sSys user)) ∧ (archOf (sSys user) 0).psw0.getLsbD 0 = false ∧ Plain (archOf (sSys user) 0) :=
  ⟨starts_of _ _ _ (by decide) (by decide +kernel), by decide +kernel, starts_of _ _ _ (by decide) (by decide +kernel),
    by decide +kernel, by unfold Plain; decide +kernel⟩

theorem test_special : wrote (.rdtime 0 9 0 0) sSys 9 ⟨9, Tag.time⟩ = true ∧ wrote (.mfc 0 9 8 0) sSys 9 (u 0x40000) = true
    ∧ wrote (.mfc 0 9 31 0) sSys 9 (u 0) = true ∧ cr (archOf (ran (.mtc 0 8 1 0) sSys) 0) 8 = 0
    ∧ cr (archOf (ran (.mtc 0 6 1 0) sSys) 0) 6 = 0x55 ∧ (archOf (ran (.mtpsw 0 0 1 0) sSys) 0).psw0 = 0x55 := by decide +kernel
theorem test_privilege : traps (.mtc 0 8 1 0) (sSys user) 4 = true ∧ traps (.mfc 0 9 8 0) (sSys user) 4 = true
    ∧ wrote (.mfc 0 9 18 0) (sSys user) 9 (u 8) = true ∧ traps (.rfe 0 0 0 0) (sSys user) 4 = true := by decide +kernel

theorem witness_ExceptionsAndReturns : Starts sSys 0 1 0 (x0 sSys) ∧ Plain (archOf sSys 0) ∧ (archOf sSys 0).psw0.getLsbD 0 = true
    ∧ (cr (archOf sSys 0) 5).toNat / 4 % 8 ≤ 4 ∧ (cr (archOf sSys 0) 13).toNat / 4 % 8 ≤ 4 :=
  ⟨starts_of _ _ _ (by decide) (by decide +kernel), by unfold Plain; decide +kernel, by decide +kernel⟩

theorem test_svc : let a := archOf (ran (.svc 0 0 0xABCD) sSys) 0
    a.pc = 0x40000 + 0x40 * 0x0F ∧ cr a 1 = 0x1004 ∧ cr a 2 = 1 ∧ fld (cr a 3) 63 32 = 0xABCD ∧ a.psw0 = 0x15 := by decide +kernel
theorem test_returns : let a := archOf (ran (.rfe 0 0 0 0) sSys) 0
    let b := archOf (ran (.rfn 0 0 0 0) sSys) 0
    a.pc = 0x2004 ∧ a.psw0 = 3 ∧ a.cc = 1 ∧ a.depth = 3 ∧ b.pc = 0x3000 ∧ b.psw0 = 1 ∧ b.depth = 1 := by decide +kernel
theorem test_brk : let a := archOf (ran (.brk 0 0 0 0) sSys) 0
    a.pc = 0x40000 + 0x440 ∧ cr a 1 = 0x1000 := by decide +kernel

theorem witness_EventsAndFences : Starts sSys 0 1 1 (x0 sSys) ∧ (archOf sSys 0).psw0.getLsbD 0 = true ∧ cr (archOf sSys 0) 16 &&& 8 ≠ 0
    ∧ cr (archOf sSys 0) 16 &&& 4 = 0 ∧ (gr (archOf sSys 0) 2).tag = Tag.pointer ∧ paOf sSys .load 0x2000 = some 0x80002000 :=
  ⟨starts_of _ _ _ (by decide) (by decide +kernel), by decide +kernel⟩

theorem test_events : wrote (.rdev 0 9 0 0) sSys 9 (u 0x408) = true ∧ wrote (.rdev 0 9 0 0) (sSys user) 9 (u 8) = true
    ∧ cr (archOf (ran (.clrev 0 0 8 0) sSys) 0) 16 = 0x400 ∧ cr (archOf (ran (.setev 0 0 4 0) sSys) 0) 16 = 0x40C
    ∧ (archOf (ran (.wait 0 0 8 0) sSys) 0).pc = 0x1004 ∧ ((ran (.wait 0 0 4 0) sSys).proc 0).waiting = some 4 := by decide +kernel
theorem test_fences : ((ran (.fenceM 0 0 0 0) sSys).proc 0).ser = true ∧ gateIs (.tlbi 0 0 2 0) sSys [(.tlbi, 0x2000, 8, u 0, false)] = true
    ∧ gateIs (.cleanL 0 0 2 0) sSys [(.clean, 0x80002000, 8, u 0, false)] = true ∧ traps (.flushL 0 0 2 0) (sSys user) 4 = true := by
  decide +kernel
/-! ## Floating point -/

/-- F1 = 1.5, F2 = 0.25, F3 a signalling NaN, F4 = 2^63, all traps off; G1 = 3, G2 a BINFP. -/
def sFp : State := cpu { arch [(1, u 3), (2, ⟨0x4000000000000000, Tag.binfp⟩)] with
  f := [(1, 0x3FF8000000000000), (2, 0x3FD0000000000000), (3, 0x7FF0000000000001), (4, 0x43E0000000000000)] }

/-- The same with the Inexact trap and every other one on. -/
def sFpTrap : State := cpu { archOf sFp 0 with fpsr := 0x3E0 }

theorem witness_FloatWordsAndMoves : Starts sFp 0 1 0 (x0 sFp) ∧ (archOf sFp 0).fpsr.extractLsb' 5 5 = 0 ∧ Plain (archOf sFpTrap 0)
    ∧ Starts sFpTrap 0 1 0 (x0 sFpTrap) ∧ (gr (archOf sFp 0) 1).tag = Tag.untyped ∧ (gr (archOf sFp 0) 2).tag = Tag.binfp :=
  ⟨starts_of _ _ _ (by decide) (by decide +kernel), by decide +kernel, by unfold Plain; decide +kernel,
    starts_of _ _ _ (by decide) (by decide +kernel), by decide +kernel⟩

/-- F register n after a command on core 0, and the flags. -/
def fOf (i : Instr) (s : State) (n : Nat) : Word × Word := (fr (archOf (ran i s) 0) n, (archOf (ran i s) 0).fpsr)

theorem test_float : fOf (.fadd 0 0 9 1 2) sFp 9 = (0x3FFC000000000000, 0) ∧ fOf (.fmul 0 0 9 1 2) sFp 9 = (0x3FD8000000000000, 0)
    ∧ fOf (.fdiv 0 0 9 1 2) sFp 9 = (0x4018000000000000, 0) ∧ fOf (.fsqrt 0 0 9 2 0) sFp 9 = (0x3FE0000000000000, 0)
    ∧ fOf (.fadd 0 0 9 1 3) sFp 9 = (0x7FF8000000000001, 16) ∧ fOf (.fmadd 0 0 9 1 2 2) sFp 9 = (0x3FE4000000000000, 0) := by
  decide +kernel
theorem test_float_trap : (archOf (ran (.fadd 0 0 9 1 3) sFpTrap) 0).pc = 0x380 ∧ cr (archOf (ran (.fadd 0 0 9 1 3) sFpTrap) 0) 1 = 0x1004
    ∧ traps (.fdiv 0 2 9 1 2) sFp 3 = true ∧ traps (.fadd 0 3 9 1 2) sFp 3 = true := by decide +kernel
theorem test_convert : gr (archOf (ran (.fcvtL 0 0 9 4 0) sFp) 0) 9 = u 0x7FFFFFFFFFFFFFFF ∧ fOf (.fcvtL 0 0 9 4 0) sFp 0 = (0, 16)
    ∧ gr (archOf (ran (.fcvtLu 0 0 9 4 0) sFp) 0) 9 = u 0x8000000000000000 ∧ fOf (.fcvtFl 0 0 9 1 0) sFp 9 = (0x4008000000000000, 0)
    ∧ fOf (.fcvtSD 0 0 9 1 0) sFp 9 = (0x3FC00000, 0) ∧ fOf (.fmvFg 0 0 9 2 0) sFp 9 = (0x4000000000000000, 0) := by decide +kernel

theorem witness_FloatValues : fmtD.isN 0x7FF0000000000001 = true ∧ fmtD.isS 0x7FF0000000000001 = true
    ∧ (0 < 1 ∧ 1 < 0x7FF0000000000000) := by decide +kernel

/-! ## External operations -/

/-- The premises of `StartsExt` for core 0, as a check. -/
def startsExtOk (s : State) : Bool :=
  startsOk s && s.settledProc 0 && (s.proc 0).inflight.isNone && (s.proc 0).kept.isNone

theorem startsExt_of (s : State) (h : startsExtOk s = true) : StartsExt s 0 (x0 s) := by
  simp only [startsExtOk, Bool.and_eq_true, Option.isNone_iff_eq_none] at h
  obtain ⟨⟨⟨h1, h2⟩, h3⟩, h4⟩ := h
  have h0 := starts_of s 0 0 (by decide) h1
  simp only [startsOk, Bool.and_eq_true] at h1
  exact ⟨h0.can, h0.awake, h1.1.1.1.2, h2, h3, h4, h0.fetched, h0.untraced⟩

theorem witness_AtomicWords : StartsExt sMem 0 (x0 sMem) ∧ (gr (archOf sMem 0) 1).tag = Tag.pointer
    ∧ (gr (archOf sMem 0) 1).val.toNat % 8 = 0 ∧ paOf sMem .load 0x2000 = some 0x80002000 ∧ paOf sMem .store 0x2000 = some 0x80002000
    ∧ (sMem.readPa 0x80002000).tag = Tag.untyped ∧ sMem.tracked 0x80002000 = []
    ∧ ownerIn sMem.coh.l2 (0x80002000 / 128) = none ∧ sMem.coh.evb = [] ∧ sMem.coh.msgs = [] :=
  ⟨startsExt_of _ (by decide +kernel), by decide +kernel⟩

theorem test_atomic : let t := ran (.aadd 0 9 1 6) sMem
    gr (archOf t 0) 9 = u 0x1122334455667788 ∧ t.readPa 0x80002000 = u 0x1122334455667790 ∧ (archOf t 0).pc = 0x1004
    ∧ t.readPa 0x80002008 = sMem.readPa 0x80002008 := by decide +kernel
theorem test_acas : let t := ran (.acas 0 9 1 6) sMem
    gr (archOf t 0) 9 = u 0x1122334455667788 ∧ t.readPa 0x80002000 = u 0x1122334455667788 ∧ (archOf t 0).cc = 1 := by decide +kernel

theorem witness_DeviceWords : Starts sSys 0 1 1 (x0 sSys) ∧ StartsExt sSys 0 (x0 sSys) ∧ (gr (archOf sSys 0) 1).tag = Tag.untyped
    ∧ ((gr (archOf sSys 0) 1).val + (3 : BitVec 15).signExtend 64).toNat % 8 = 0
    ∧ ((gr (archOf sSys 0) 1).val + (3 : BitVec 15).signExtend 64).toNat < 0x10000 ∧ sSys.slotChannel 1 0 = none
    ∧ Plain (archOf sSys 0) :=
  ⟨starts_of _ _ _ (by decide) (by decide +kernel), startsExt_of _ (by decide +kernel), by decide +kernel, by decide +kernel,
    by decide +kernel, by decide +kernel, by unfold Plain; decide +kernel⟩

theorem test_device_words : gateIs (.iost 0 1 1 3) sSys [(.device, 0x58, 8, u 0x55, false)] = true
    ∧ gateIs (.cqpost 0 2 1 0) sSys [(.device, 0x98, 8, u 0x55, false)] = true
    ∧ gateIs (.jcommit 0 0 2 0) sSys [(.device, 0x4020, 8, u 0x2000, false)] = true ∧ traps (.iost 0 1 1 0) sSys 7 = true := by decide +kernel

/-! ## Units of work and packed decimal -/

/-- G2 and G4 point at two blocks of 24 bytes, lengths in G3 and G5; operands +123 at 0x2100 and −7 at 0x2108. -/
def sUnit : State := cpu (arch [(2, ⟨0x2004, Tag.pointer⟩), (3, u 24), (4, ⟨0x2040, Tag.pointer⟩), (5, u 24), (6, u 0x33),
  (8, ⟨0x2100, Tag.pointer⟩), (10, ⟨0x2108, Tag.pointer⟩)])
  [(0x2000, u 0x1122334455667788), (0x2040, u 0xAABBCCDDEEFF0011), (0x2100, ⟨0x3C12, Tag.decimal⟩), (0x2108, ⟨0x7D00, Tag.decimal⟩)]

/-- The words of an access, as `touch` reads them. -/
def touched (s : State) (k : Acc) (va : Word) (n : Nat) : Option (List TWord × List Nat) :=
  match s.touch 0 k (wordVas va n) { x0 s with free := (x0 s).free + 1 } with
  | .ok (l, _) => some (l.map OpWord.w, l.map OpWord.pa)
  | .error _ => none

theorem witness_UnitsOfWork : Starts sUnit 0 44 33 (x0 sUnit) ∧ sUnit.patched = false ∧ (gr (archOf sUnit 0) 2).tag = Tag.pointer
    ∧ (gr (archOf sUnit 0) 3).tag = Tag.untyped ∧ (gr (archOf sUnit 0) 6).tag = Tag.untyped
    ∧ touched sUnit .load 0x2040 24 = some ([u 0xAABBCCDDEEFF0011, u 0, u 0], [0x80002040, 0x80002048, 0x80002050])
    ∧ touched sUnit .store 0x2004 24 = some ([u 0x1122334455667788, u 0, u 0, u 0], [0x80002000, 0x80002008, 0x80002010, 0x80002018]) :=
  ⟨starts_of _ _ _ (by decide) (by decide +kernel), by decide +kernel⟩

/-- What a unit leaves: G2, G3, G4, CC and the word at 0x2000 that core 0 sees. -/
def unitEnd (i : Instr) : Word × Word × Word × BitVec 2 × Word :=
  let a := archOf (ran i sUnit) 0
  ((gr a 2).val, (gr a 3).val, (gr a 4).val, a.cc, (seenAt (ran i sUnit) 0x2000).val)

theorem test_movb : unitEnd (.movb 0 2 4 0) = (0x201C, 0, 0x2058, 0, 0xEEFF001155667788) := by decide +kernel
theorem test_fillb : unitEnd (.fillb 0 2 6 0) = (0x201C, 0, 0x2040, 0, 0x3333333355667788) := by decide +kernel
theorem test_cmpb : unitEnd (.cmpb 0 4 2 0) = (0x2004, 24, 0x2040, 1, 0x1122334455667788) := by decide +kernel

theorem witness_Decimals : Starts sUnit 0 64 5 (x0 sUnit) ∧ touched sUnit .load 0x2100 2 = some ([⟨0x3C12, Tag.decimal⟩], [0x80002100])
    ∧ touched sUnit .load 0x2108 2 = some ([⟨0x7D00, Tag.decimal⟩], [0x80002108])
    ∧ decVal [0x12, 0x3C] = some 123 ∧ decVal [0x00, 0x7D] = some (-7) ∧ decVal [0xA0, 0x0C] = none := ⟨starts_of _ _ _ (by decide) (by decide +kernel), by decide +kernel⟩

/-- The operands of a decimal word are there whatever follows: the premise `Reads` of the statement. -/
theorem witness_Decimals_reads : ∃ y l p q, Reads sUnit 0 { x0 sUnit with free := (x0 sUnit).free + 1 } true true true
    (isD false) (isD false) (gr (archOf sUnit 0) 8) (gr (archOf sUnit 0) 10) 2 2 y l p q ∧ decVal p = some 123 ∧ decVal q = some (-7) := by
  refine ⟨_, _, _, _, fun k => rfl, ?_⟩
  decide +kernel

/-- What a decimal word leaves: CC and the first two bytes of operand 1. -/
def decEnd (i : Instr) : BitVec 2 × Nat := ((archOf (ran i sUnit) 0).cc, (seenAt (ran i sUnit) 0x2100).val.toNat % 65536)

theorem test_decimal : decEnd (.dadd 0 1 1 8 10) = (2, 0x6C11) ∧ decEnd (.dsub 0 1 1 8 10) = (2, 0x0C13)
    ∧ decEnd (.dmul 0 1 1 8 10) = (1, 0x1D86) ∧ decEnd (.ddiv 0 1 1 8 10) = (1, 0x7D01) ∧ decEnd (.dcmp 0 1 1 8 10) = (2, 0x3C12) := by
  decide +kernel

/-! ## Windows, the gate, interrupts and sparing -/

/-- Event 3 pending and enabled, an NMI pending, the timer due. -/
def sIrq : State := { cpu { arch [] with psw0 := 3, c := [(8, 0x40000), (16, 8), (17, 8), (19, 5)] } with nowStage := 5 }
def sNmi : State := { sIrq with core := { procs := [(0, { sIrq.proc 0 with nmi := [(2, 9)] })] } }

theorem witness_InterruptsTaken : sIrq.runs 0 = true ∧ (sIrq.proc 0).fails = 0 ∧ (sIrq.proc 0).nmi = [] ∧ (sIrq.proc 0).ser = false
    ∧ irqOf (archOf sIrq 0) = some 3 ∧ (sNmi.proc 0).nmi = [(2, 9)] ∧ sNmi.runs 0 = true ∧ sIrq.dieOn 0 = true ∧ sIrq.procOf 0 = 0
    ∧ (cr (archOf sIrq 0) 19).toNat ≤ sIrq.nowStage.toNat ∧ sIrq.core.images.find (sIrq.imgKey 0) = none := by decide +kernel

/-- EL set, where BRK becomes an NMI. -/
def sDouble : State := cpu { arch [] with psw0 := 5 }
theorem witness_InterruptsTaken_double : Starts sDouble 0 1 0 (x0 sDouble) ∧ (archOf sDouble 0).psw0.getLsbD 2 = true
    ∧ (archOf sDouble 0).psw0.getLsbD 3 = false := ⟨starts_of _ _ _ (by decide) (by decide +kernel), by decide +kernel⟩

theorem test_interrupt : (archOf (ran (.eventInterrupt 0) sIrq) 0).pc = 0x40800 ∧ cr (archOf (ran (.eventInterrupt 0) sIrq) 0) 1 = 0x1000
    ∧ (archOf (ran (.nmiEntry 0) sNmi) 0).pc = 0x40FC0 ∧ cr (archOf (ran (.nmiEntry 0) sNmi) 0) 10 = 0x1000
    ∧ cr (archOf (ran (.timerCompare 0) sIrq) 0) 16 = 0x88 ∧ (archOf (ran (.brk 0 0 0 0) sDouble) 0).pc = 0xFC0 := by decide +kernel

/-- Two closed windows with signatures 5 and 6, and a store of each. -/
def sWin (n : Nat) : State :=
  { sSys with core := { procs := [(0, { sSys.proc 0 with
      a := { archOf sSys 0 with pc := 0x3000 }, fresh := false, fails := n
      closed := [{ seq := 0, misr := 5, after := { archOf sSys 0 with pc := 0x1008 } }, { seq := 1, misr := 6 }]
      gate := [{ pa := 0x80002000, data := u 7, win := 0 }, { pa := 0x80002008, data := u 8, win := 1 }] })] } }

theorem witness_WindowsAndGate : (sWin 0).alive 0 = true ∧ (sWin 3).alive 0 = true ∧ (sWin 0).split = false
    ∧ (sWin 0).rf (aPair 0 0x30) 2 0 = 0 ∧ NoForce (sWin 0) 0 0 ∧ NoForce (sWin 3) 0 3 ∧ ((sWin 0).proc 0).running = true
    ∧ (sWin 0).coreFenced 0 = false ∧ ((sWin 3).proc 0).fails = 3 := by unfold NoForce; decide +kernel

theorem test_window_equal : let p := (ran (.windowComparison 0 5) (sWin 0)).proc 0
    p.closed.length = 1 ∧ p.ckpt.pc = 0x1008 ∧ p.seq = 1 ∧ p.gate.map (·.passed) = [true, false] := by decide +kernel
theorem test_window_unequal : let t := ran (.windowComparison 0 4) (sWin 0)
    archOf t 0 = archOf sSys 0 ∧ (t.proc 0).gate = [] ∧ (t.proc 0).fails = 1 ∧ t.rf (aPair 0 8) 2 0 = 2 ∧ t.rf (aPair 0 8) 4 3 = 1
    ∧ t.rf (aPair 0 0x20) 3 0 = 1 ∧ events (.windowComparison 0 4) (sWin 0) = [(0, 0)] := by decide +kernel
theorem test_window_fourth : let t := ran (.windowComparison 0 4) (sWin 3)
    (t.proc 0).running = false ∧ t.rf (aPair 0 8) 2 0 = 4 ∧ (t.core.images.get {} 0).a = archOf sSys 0 := by decide +kernel
theorem test_detected_error : let t := ran (.detectedError 0 true false false) (sWin 2)
    archOf t 0 = archOf sSys 0 ∧ (t.proc 0).fails = 3 ∧ (t.proc 0).gate = [] := by decide +kernel

/-- A passed entry at the head of the gate, and the pair's L2 with its line in E. -/
def sGate (e : GateEnt) : State :=
  { sSys with
    regs := cpuRegs ++ [(aPair 0 0x680, 0)]
    core := { procs := [(0, { sSys.proc 0 with gate := [{ e with passed := true }, { pa := 0x80002100, win := 1 }] })]
              tlb := [(0, [{ part := 1, vpage := 2, ppage := 2 }, { part := 2, vpage := 2, ppage := 2 }])] }
    coh := { l2 := [(0, { lines := [(0x1000040, { st := .e, data := List.replicate 16 (u 1), way := 3 })] })] } }

theorem witness_WindowsAndGate_gate : let s := sGate { pa := 0x80002008, data := u 7 }
    s.alive 0 = true ∧ (s.proc 0).fails ≠ 4 ∧ (s.l2 0).wfull = [] ∧ s.streamOn 0 = false
    ∧ (s.l2 0).lines.find (0x80002008 / 128) = some { st := .e, data := List.replicate 16 (u 1), way := 3 }
    ∧ (∀ t ∈ s.coh.l2, t.1 ≠ 0 → ownerIn [t] 0x1000040 = none) ∧ s.tracked 0x80002008 = []
    ∧ s.maintSent 0 0x1000040 .clean = false := by decide +kernel

theorem test_gate_store : let t := ran (.gateStoreRelease 0) (sGate { pa := 0x80002008, data := u 7 })
    (t.proc 0).gate.length = 1 ∧ t.readPa 0x80002008 = u 7 ∧ t.readPa 0x80002010 = u 1 ∧ t.mem = sSys.mem := by decide +kernel
theorem test_gate_other : let t := ran (.gateStoreRelease 0) (sGate { kind := .tlbi, pa := 0x2123 })
    let v := ran (.gateStoreRelease 0) (sGate { kind := .clean, pa := 0x80002000 })
    t.core.tlb.get [] 0 = [{ part := 2, vpage := 2, ppage := 2 }] ∧ v.coh.msgs = [.request 0 0x1000040 .clean []]
    ∧ (v.proc 0).gate.length = 2 := by decide +kernel

theorem witness_ExternalOperations : StartsExt sSys 0 (x0 sSys) ∧ sSys.farOpen 0 = false ∧ sSys.coh.msgs = [] :=
  ⟨startsExt_of _ (by decide +kernel), by decide +kernel⟩

theorem test_external : let t := ran (.externalOpIssue 0 (.iold 0x4028)) sSys
    (t.proc 0).inflight.isSome = true ∧ ((ran (.externalOpResult 0) t).proc 0).inflight = none
    ∧ ((ran (.externalOpResult 0) t).proc 0).kept.isSome = true := by decide +kernel

/-- The management space open to the Steward; pair 4 a running spare, pair 5 one in LOADING. -/
def sMgmt : State := { regs := [(0x100408, 1), (aPair 4 0, 2), (aPair 4 8, 5), (aPair 5 0, 2), (aPair 5 8, 6), (aPair 6 0, 0x101)] }

theorem witness_PairRegisters : Accepts sMgmt .steward (aPair 4 0) ∧ Accepts sMgmt .steward (aPair 4 0x30)
    ∧ Accepts sMgmt .steward (aPair 5 0x100) ∧ ckptOff 0x100 = true ∧ roleOk 1 2 1 = false ∧ sMgmt.dieOn 8 = true
    ∧ fld (sMgmt.rd (aPair 4 0)) 1 0 = 2 ∧ sMgmt.rf (aPair 5 8) 2 0 = 6 :=
  ⟨⟨rfl, rfl, by decide +kernel, by decide +kernel, by decide +kernel⟩, ⟨rfl, rfl, by decide +kernel, by decide +kernel, by decide +kernel⟩,
    ⟨rfl, rfl, by decide +kernel, by decide +kernel, by decide +kernel⟩, by decide +kernel⟩

theorem test_pair_role : (ran (.pairRoleWrite .steward 4 3 0xFF) sMgmt).rf (aPair 4 8) 2 0 = 4
    ∧ (ran (.pairRoleWrite .steward 4 0x102 0xFF) sMgmt).rf (aPair 4 8) 2 0 = 6
    ∧ (ran (.pairRoleWrite .steward 4 0x102 0xFF) sMgmt).core.images.find 4 = some {}
    ∧ (ran (.pairRoleWrite .steward 4 0 0xFF) sMgmt).rf (aPair 4 8) 2 0 = 5
    ∧ (ran (.pairRoleWrite .steward 6 0x102 0xFF) sMgmt).rd (aPair 6 0) = 0x101
    ∧ (ran (.spareSelfTest 4 false) sMgmt).rf (aPair 4 0) 1 0 = 3 := by decide +kernel
theorem test_pair_test : (ran (.pairTestWrite .steward 4 4 0xFF) sMgmt).rf (aPair 4 0x30) 2 0 = 4
    ∧ (ran (.pairTestWrite .steward 4 5 0xFF) sMgmt).rf (aPair 4 0x30) 2 0 = 0
    ∧ (ran (.pairCkptWrite .steward 4 0x100 7 0xFF) sMgmt).core = sMgmt.core := by decide +kernel

/-- Split mode: core 4 of pair 2 is fenced with an image and waits; pair 3 serves with an idle odd core (a half spare). -/
def sSpare : State :=
  { regs := [(0x100408, 0x10001), (aPart 1 8, 2), (aPair 2 0, 0x101), (aPair 3 0, 0x101), (aPair 3 8, 0x200)]
    core := { waiting := [4], images := [(68, { a := { arch [(1, u 9)] with pc := 0x7000 }, seq := 12, latched := 4 })]
              procs := [(6, { running := true })] } }

/-- Checked mode: pair 2 is fenced with an image, no spare is left. -/
def sLost : State :=
  { regs := [(0x100408, 1), (aPart 1 8, 2), (aPair 2 0, 0x10101), (aPair 2 8, 3)]
    core := { waiting := [4], images := [(2, { a := { arch [(1, u 9)] with pc := 0x7000 }, seq := 12, latched := 4 })] } }

theorem witness_SparingAndFencing : sSpare.split = true ∧ 7 ∈ sSpare.spareCores 4 ∧ sSpare.partState (sSpare.partOf 7) = 2
    ∧ sSpare.core.images.find (64 + 7) = none ∧ (sSpare.core.images.find (sSpare.imgKey 4)).isSome = true ∧ NoForce sSpare 2 2
    ∧ sLost.spareCores 4 = [] ∧ sLost.rf (aPair 2 8) 2 0 ≠ 4 ∧ (sLost.core.images.find (sLost.imgKey 4)).isSome = true
    ∧ sLost.core.waiting.head? = some 4 := by unfold NoForce; decide +kernel

theorem test_sparing : let t := ran (.stewardSparing 4 7) sSpare
    (t.proc 7).running = true ∧ (t.proc 7).a.pc = 0x7000 ∧ (t.proc 7).seq = 12 ∧ t.core.waiting = [] ∧ t.core.images.find 68 = none
    ∧ events (.stewardSparing 4 7) sSpare = [(2, 1)] := by decide +kernel
theorem test_no_spare : let t := ran (.stewardSparing 4 7) sLost
    (t.parts.lost.find (lostKey 1 1)).isSome = true ∧ t.core.waiting = [] ∧ t.core.images = [] := by decide +kernel

/-- Pair 2 drains and holds clean lines only. -/
def sDrain : State :=
  { regs := [(0x100408, 1)], core := { draining := [2] }
    coh := { l2 := [(2, { lines := [(8, { st := .e }), (9, { st := .s })] })] } }

theorem witness_SparingAndFencing_l2 : 2 ∈ sDrain.core.draining ∧ (sDrain.l2 2).miss = [] ∧ (sDrain.l2 2).wb = [] ∧ (sDrain.l2 2).wfull = []
    ∧ (∀ t ∈ (sDrain.l2 2).lines, (t.2.st = .s ∨ t.2.st = .e) ∧ sDrain.coh.txn.find t.1 = none) := by decide +kernel
theorem test_l2_empty : let t := ran (.fencedL2Empty 2) sDrain
    t.core.l2off = [2] ∧ t.core.draining = [] ∧ t.l2 2 = {} := by decide +kernel
/-! ## Coherence and memory -/

/-- Line 64 (slice 4's; memory beneath it holds 1s), with the messages, L3, directory and L2s given. -/
def sCoh (m : List CMsg) (l3 : Tbl L3Line := []) (dir : Tbl DirEnt := []) (l2 : Tbl L2 := []) (txn : Tbl CTxn := []) : State :=
  { regs := [(0x100408, 1), (aCoh 0 0, 0xFFFF)]
    mem := { words := (List.range 16).map fun i => (1024 + i, u 1) }
    coh := { msgs := m, l3 := l3, dir := dir, l2 := l2, txn := txn } }

/-- Sixteen words of one value. -/
def ws (v : Word) : List TWord := List.replicate 16 (u v)

/-- The premise `Asked`, as a check. -/
def askedOk (s : State) (p line : Nat) (r : CReq) (d : List TWord) : Bool :=
  s.homeUp line && decide (s.coh.msgs = [.request p line r d]) && !s.coh.blocked.contains line && decide (s.coh.txn.find line = none)
  && s.txnRoom p line && decide ((s.takeMsg (.request p line r d)).dirRoom p line = some (s.takeMsg (.request p line r d)))
  && !s.forced (48 + homeOf line) 0 && !s.forced (48 + homeOf line) 1 && !isCas line && decide (s.tracked (line * 128) = [])

theorem asked_of (s : State) (p line : Nat) (r : CReq) (d : List TWord) (h : askedOk s p line r d = true) : Asked s p line r d := by
  simp only [askedOk, Bool.and_eq_true, decide_eq_true_eq, Bool.not_eq_true'] at h
  obtain ⟨⟨⟨⟨⟨⟨⟨⟨⟨h1, h2⟩, h3⟩, h4⟩, h5⟩, h6⟩, h7⟩, h8⟩, h9⟩, h10⟩ := h
  exact ⟨h1, h2, h3, h4, h5, h6, h7, h8, h9, h10⟩

def sRead : State := sCoh [.request 3 64 .readShared []] [(64, { data := ws 5, way := 2 })]
def sOwned (r : CReq) : State := sCoh [.request 3 64 r []] [] [(64, { st := .em, owner := 9 })]
def sShared (r : CReq) (l : List Nat) : State := sCoh [.request 3 64 r []] [] [(64, { st := .s, sharers := l })]

theorem witness_Homes : Asked sRead 3 64 .readShared [] ∧ Asked (sOwned .readShared) 3 64 .readShared []
    ∧ Asked (sShared .readOwn [9]) 3 64 .readOwn [] ∧ Asked (sShared .upgrade [3, 9]) 3 64 .upgrade []
    ∧ Asked (sCoh [.request 3 64 .readShared []]) 3 64 .readShared [] :=
  ⟨asked_of _ _ _ _ _ (by decide +kernel), asked_of _ _ _ _ _ (by decide +kernel), asked_of _ _ _ _ _ (by decide +kernel),
    asked_of _ _ _ _ _ (by decide +kernel), asked_of _ _ _ _ _ (by decide +kernel)⟩

theorem test_home_read : let t := ran (.homeReadshared 3 64) sRead
    t.coh.msgs = [.grant 3 64 .e (some (ws 5))] ∧ t.coh.dir.find 64 = some { st := .em, owner := 3 } ∧ t.coh.txn.find 64 = none
    ∧ (ran (.homeReadshared 3 64) (sOwned .readShared)).coh.msgs = [.snpShared 9 64]
    ∧ (ran (.homeReadshared 3 64) (sCoh [.request 3 64 .readShared []])).coh.txn.find 64
        = some { pair := 3, req := .readShared, fetch := true } := by decide +kernel
theorem test_home_own : (ran (.homeReadown 3 64) (sCoh [.request 3 64 .readOwn []] [(64, { data := ws 5, way := 2 })])).coh.msgs
      = [.grant 3 64 .m (some (ws 5))]
    ∧ (ran (.homeReadown 3 64) (sShared .readOwn [9])).coh.msgs = [.snpInv 9 64]
    ∧ (ran (.homeUpgrade 3 64) (sShared .upgrade [3])).coh.msgs = [.grant 3 64 .m none]
    ∧ (ran (.homeUpgrade 3 64) (sShared .upgrade [3, 9])).coh.msgs = [.snpInv 9 64] := by decide +kernel

def sWb (r : CReq) (d : List TWord) : State := sCoh [.request 3 64 r d] [] [(64, { st := .em, owner := 3 })]
def sDirty (r : CReq) : State := sCoh [.request 3 64 r []] [(64, { data := ws 5, way := 2, dirty := true })]
def sRelease : State := { sCoh [.request 3 64 .release (ws 8)] with coh := { msgs := [.request 3 64 .release (ws 8)], blocked := [64] } }

theorem witness_Homes_writing : (sWb .writeBack (ws 7)).homeUp 64 = true ∧ isCas 64 = false ∧ (sWb .writeBack (ws 7)).rd (aCoh (homeOf 64) 0) = 0xFFFF
    ∧ sRelease.homeUp 64 = true ∧ sRelease.tracked (64 * 128) = [] ∧ askedOk (sWb .evictClean []) 3 64 .evictClean [] = true
    ∧ askedOk (sDirty .clean) 3 64 .clean [] = true ∧ askedOk (sDirty .flush) 3 64 .flush [] = true
    ∧ askedOk (sCoh [.request 3 64 .writeFull (ws 8)]) 3 64 .writeFull (ws 8) = true
    ∧ askedOk (sDirty (.farAtomic 6 false 0 8200 (u 3) (u 0))) 3 64 (.farAtomic 6 false 0 8200 (u 3) (u 0)) [] = true := by
  decide +kernel

theorem test_home_write : let t := ran (.homeWriteback 3 64) (sWb .writeBack (ws 7))
    t.coh.msgs = [.wback 3 64] ∧ t.coh.dir.find 64 = none ∧ t.coh.l3.find 64 = some { data := ws 7, dirty := true, way := 0 }
    ∧ (ran (.homeEvictclean 3 64) (sWb .evictClean [])).coh.dir.find 64 = none
    ∧ (ran (.homeWritefull 3 64) (sCoh [.request 3 64 .writeFull (ws 8)])).coh.msgs = [.ready 3 64] := by decide +kernel
theorem test_home_release : let t := ran (.homeRelease 3 64) sRelease
    t.coh.msgs = [] ∧ t.coh.blocked = [] ∧ t.memLine 64 = ws 8 := by decide +kernel
theorem test_home_clean : let t := ran (.homeClean 3 64) (sDirty .clean)
    t.memLine 64 = ws 5 ∧ t.coh.l3.find 64 = some { data := ws 5, way := 2 }
    ∧ (ran (.homeFlush 3 64) (sDirty .flush)).l3Find 64 = none := by decide +kernel
theorem test_far_atomic : let t := ran (.homeFarAtomic 3 64) (sDirty (.farAtomic 6 false 0 8200 (u 3) (u 0)))
    t.coh.msgs = [.atomicDone 6 64 (u 5)] ∧ t.readPa 8200 = u 8 ∧ t.readPa 8192 = u 5 := by decide +kernel

/-- Pair 3 holds line 64 in a state, and a snoop is under way. -/
def sSnoop (st : Moesi) (m : CMsg) : State := sCoh [m] [] [(64, { st := .em, owner := 3 })] [(3, { lines := [(64, { st := st, data := ws 6, way := 1 })] })]

/-- Pair 9 has answered with dirty data; pair 3 waits for it. -/
def sAnswer : State := sCoh [.answer 9 64 .m (some (ws 6))] [] [(64, { st := .em, owner := 9 })] []
  [(64, { pair := 3, req := .readShared, missing := [9] })]

theorem witness_SnoopsAndLoss : (sSnoop .m (.snpShared 3 64)).dieUp 0 = true ∧ sAnswer.homeUp 64 = true
    ∧ ((sSnoop .m (.snpInv 3 64)).l2 3).lines.find 64 = some { st := .m, data := ws 6, way := 1 }
    ∧ sAnswer.coh.dir.find 64 = some { st := .em, owner := 9 } := by decide +kernel

theorem test_snoops : let t := ran (.l2Snpshared 3 64) (sSnoop .m (.snpShared 3 64))
    t.coh.msgs = [.answer 3 64 .m (some (ws 6))] ∧ t.l2State 3 64 = .o
    ∧ (ran (.l2Snpinv 3 64) (sSnoop .e (.snpInv 3 64))).coh.msgs = [.answer 3 64 .e none]
    ∧ (ran (.l2Snpinv 3 64) (sSnoop .e (.snpInv 3 64))).l2State 3 64 = .i
    ∧ (ran (.l2Snpclean 3 64) (sSnoop .m (.snpClean 3 64))).l2State 3 64 = .e := by decide +kernel
theorem test_answer : let t := ran (.homeSnoopAnswer 9 64) sAnswer
    t.coh.msgs = [.grant 3 64 .s (some (ws 6))] ∧ t.coh.dir.find 64 = some { st := .o, owner := 9, sharers := [3] } := by
  decide +kernel

/-- A running block in which pair 3 waits for line 64. -/
def sLive : State := sCoh [] [] [] [(3, { miss := [(64, { nacks := 63 })] })]

theorem witness_SnoopsAndLoss_loss : sLive.coh.lost = false ∧ sLive.pwr.powered = true ∧ sLive.hibernating = false ∧ sLive.flt.reset = none
    ∧ sLive.agentHere 88 = true ∧ sLive.agentHere 47 = true ∧ sLive.agentHere 48 = true ∧ sLive.cohWaits 3 64 = true ∧ homeOf 64 < 24 := by
  decide +kernel

theorem test_loss : let t := ran (.coherenceLoss 7 2 47 64) sLive
    t.coh.lost = true ∧ t.flt.reset = some (5, 47) ∧ t.rb (aCoh 23 8) 13 = true ∧ (47, 6) ∈ events (.coherenceLoss 7 2 47 64) sLive
    ∧ (ran (.coherenceTimeout 3 64) sLive).flt.reset = some (5, 78) ∧ (ran (.coherenceTimeout 4 64) sLive).flt.reset = none := by
  decide +kernel

/-- Pair 3 with a miss entry, a write-back and a WriteFull for line 64, and a message to it. -/
def sL2 (m : CMsg) (l : L2) : State := sCoh [m] [] [] [(3, l)]

theorem witness_L2Messages : (sL2 (.grant 3 64 .e (some (ws 2))) { miss := [(64, {})] }).dieUp 0 = true
    ∧ (sL2 (.grant 3 64 .e (some (ws 2))) { miss := [(64, {})] }).l2WayOk 3 64 15 0 = true
    ∧ (sL2 (.grant 3 64 .e (some (ws 2))) { miss := [(64, {})] }).l2Occupant 3 64 15 = none
    ∧ (sL2 (.nack 3 64) { miss := [(64, { nacks := 63 })] }).forced 3 4 = false
    ∧ ((sL2 (.ready 3 64) { wfull := [(64, ws 8, false)] }).proc 6).fails ≠ 4 := by decide +kernel

theorem test_l2 : let t := ran (.l2Grant 3 64 15) (sL2 (.grant 3 64 .e (some (ws 2))) { miss := [(64, {})] })
    let v := ran (.l2Nack 3 64) (sL2 (.nack 3 64) { miss := [(64, { nacks := 63 })] })
    (t.l2 3).lines.find 64 = some { st := .e, data := ws 2, way := 15 } ∧ (t.l2 3).miss.find 64 = none
    ∧ (v.l2 3).miss.find 64 = some { nacks := 64, backoff := true, starving := true }
    ∧ ((ran (.l2NackRetry 3 64) v).l2 3).miss.find 64 = some { nacks := 64, starving := true }
    ∧ (ran (.l2Ready 3 64) (sL2 (.ready 3 64) { wfull := [(64, ws 8, false)] })).coh.msgs = [.request 3 64 .release (ws 8)]
    ∧ ((ran (.l2Wback 3 64) (sL2 (.wback 3 64) { wb := [{ line := 64, data := ws 2 }] })).l2 3).wb = [] := by decide +kernel

/-- Slice 0 converting two ways; slice 1 releasing two; extent 4's first word set. -/
def sCas : State :=
  { regs := [(0x100408, 1), (aCoh 0 0, 0x100000FFFF ||| 0x200000000), (aCoh 1 0, 0x200000FFFF)]
    mem := { words := [(0x3F0000000000 / 8, u 1), (0x3F0000400000 / 8, u 2)] }
    coh := { converting := [(0, 0), (1, 2)] } }

theorem witness_CacheAsStore : Accepts { regs := [(0x100408, 1)] } .steward (aCoh 0 0) ∧ wayctlOk 0x8000003FF = true ∧ wayctlOk 0x30000FFFF = false
    ∧ sCas.rf (aCoh 0 0) 37 36 = 1 ∧ sCas.rf (aCoh 1 0) 37 36 = 2 ∧ sCas.dieUp 0 = true
    ∧ (∀ e ∈ casExtents 1 2 0, sCas.accessing (extentPa true e) = false) ∧ Accepts { regs := [(0x100408, 1)] } .steward (aPair 3 0x680) :=
  ⟨⟨rfl, rfl, by decide +kernel, by decide +kernel, by decide +kernel⟩, by decide +kernel, by decide +kernel, by decide +kernel,
    by decide +kernel, by decide +kernel, by decide +kernel, ⟨rfl, rfl, by decide +kernel, by decide +kernel, by decide +kernel⟩⟩

theorem test_cas : (ran (.casWaysWrite .steward 5 0x40000FFFF 0xFF) { regs := [(0x100408, 1)] }).rf (aCoh 5 0) 37 36 = 1
    ∧ (ran (.casWaysWrite .steward 5 0x30000FFFF 0xFF) { regs := [(0x100408, 1)] }).rf (aCoh 5 0) 37 36 = 0
    ∧ (ran (.casConvertDone 0) sCas).mem.words.get {} (0x3F0000000000 / 8) = {}
    ∧ (ran (.casConvertDone 0) sCas).mem.words.get {} (0x3F0000400000 / 8) = u 2
    ∧ (ran (.casReleaseDone 1) sCas).mem.words.get {} (0x3F0000400000 / 8) = {}
    ∧ ((ran (.predClear .steward 3 2 0xFF) (sL2 (.nack 3 64) { pred := [(5, 3)] })).l2 3).pred = [] := by decide +kernel

/-- The home of line 64 has asked memory for it. -/
def sFetch : State := sCoh [] [] [] [] [(64, { pair := 3, req := .readShared, fetch := true })]

theorem witness_MemoryAndControlStore : sFetch.homeUp 64 = true ∧ sFetch.rf (aMc (mcOf 64) 0x10) 1 0 = 0 ∧ isCas 64 = false
    ∧ (∀ w ∈ sFetch.memLine 64, w.tag = Tag.untyped) ∧ sFetch.rd (aCoh (homeOf 64) 0) = 0xFFFF ∧ sFetch.forced (80 + mcOf 64) 1 = false
    ∧ sFetch.tagHeld 0 0 = false ∧ sFetch.dieUp 1 = true ∧ ((tagLines 0 0).all fun l => sFetch.paValid (l * 128)) = true
    ∧ sFetch.paValid (lineAt 0 0 0 * 128) = true ∧ isPoisoned (sFetch.memLine (lineAt 0 0 0)) 3 = false := by decide +kernel

theorem test_memory : let t := ran (.mcRead 64 {} 0) sFetch
    let v := ran (.mcRead 64 { d0 := .uncorrectable } 0) sFetch
    t.coh.msgs = [.grant 3 64 .e (some (ws 1))] ∧ t.coh.l3.find 64 = some { data := ws 1, way := 0 }
    ∧ (v.memLine 64).getD 3 {} = ⟨0, Tag.poison⟩ ∧ (v.memLine 64).getD 4 {} = u 1 ∧ events (.mcRead 64 { d0 := .uncorrectable } 0) sFetch = [(80 + mcOf 64, 1)] := by
  decide +kernel
theorem test_eviction : let s := { sFetch with coh := { evb := [(64, ws 9)] } }
    (ran (.mcWrite 64 (ws 9) 0) s).memLine 64 = ws 9 ∧ (ran (.evictionWriteAccepted 4 64) s).coh.evb = []
    ∧ (ran (.tagBufferFill 0 5 .good) sFetch).tagHeld 0 5 = true ∧ events (.hcsScrub 4 true false) sFetch = [(108, 0), (109, 0), (109, 1)]
    ∧ events (.patrolScrub 0 3 .corrected) sFetch = [(80, 0)] := by decide +kernel

/-- The control store while a load is under way, and after one. -/
def sUcs (st : Word) : State := { regs := [(0x100408, 1), (aUcs 8, st)] }
/-- A patch of one microword. -/
def patch1 : PatchImg := { part := 0x9648, words := [0], matches_ := [0x80000001] }

/-- Whether the image loads rests on the format of microwords, which the spec leaves open (Config.wordOk): one of the two
clauses about PATCH_LOAD_DONE applies to it whichever way that falls. -/
theorem witness_MemoryAndControlStore_patch : Accepts (sUcs 0) .steward (aUcs 0x10) ∧ (sUcs 0).rf (aUcs 8) 2 0 = 0
    ∧ (0x100000000 : Word).getLsbD 32 = true ∧ (sUcs 0).rb (aUcs 0x10) 33 = false ∧ (sUcs 1).rf (aUcs 8) 2 0 = 1
    ∧ (sUcs 1).patchReason none ≠ 0 ∧ (sUcs 1).patchReason (some patch1) = (if Config.wordOk 0 then 0 else 6)
    ∧ (sUcs 0x10002).rf (aUcs 8) 26 16 ≠ 0 ∧ (sUcs 2).pairPresent 47 = true ∧ (sUcs 2).dieOn 95 = true ∧ Accepts (sUcs 2) .steward (aUcs 0x18) := by
  refine ⟨⟨rfl, rfl, by decide +kernel, by decide +kernel, by decide +kernel⟩, by decide +kernel, by decide +kernel, by decide +kernel,
    by decide +kernel, by decide +kernel, ?_, by decide +kernel, by decide +kernel, by decide +kernel,
    ⟨rfl, rfl, by decide +kernel, by decide +kernel, by decide +kernel⟩⟩
  cases h : Config.wordOk 0 <;> simp_all [State.patchReason, patch1, sUcs, romAddrsUnique, fld]

theorem test_control_store : (ran (.patchLoadGo .steward 0x100000000 0xFF) (sUcs 0)).rf (aUcs 8) 2 0 = 1
    ∧ (ran (.patchLoadDone none) (sUcs 1)).rf (aUcs 8) 15 8 = 7 ∧ events (.patchLoadDone none) (sUcs 1) = [(235, 0)]
    ∧ (ran (.ucsDisable .steward 0x400000000 0xFF) (sUcs 2)).rf (aUcs 8) 2 0 = 4
    ∧ (ran (.ucsLock .steward 0x200000000 0xFF) (sUcs 2)).rb (aUcs 0x10) 33 = true
    ∧ events (.patchRamScrub 95 1023 true false) (sUcs 0x10002) = [(232, 0)] := by
  decide +kernel
theorem test_peek : (ran (.ucsPeek .steward 0x0003FF5F01 0xFF)
      { sUcs 2 with core := { ucode := { words := [(1023, 0xABCD00000000000000011122334455667788)] } } }).rd (aUcs 0x20) = 0x1122334455667788 := by
  decide +kernel
/-! ## Partitions -/

/-- Partition 1 in a state, with pair 0 and its inbox and domain in place. -/
def sPart (st : Word) : State :=
  { regs := [(0x100408, 1), (aPart 1 8, st), (aPart 1 0x10, 0x0C06000000100000), (aPart 1 0x50, 0x77), (aPart 1 0x800, 0x201), (aPair 0 0, 0x101)]
    mem := { words := [(0x10000200, ⟨0, Tag.code⟩)] } }

/-- Partition 1 with its processor frozen at a boundary. -/
def sFrozen (st : Word) : State :=
  { sPart st with core := { procs := [(0, { running := true, frozen := true, a := { arch [(1, u 5)] with pc := 0x2000 } })] } }

/-- A write of PART_CTL reaches a state. -/
theorem acceptsPart (s : State) (h : (s.hibernating = false ∧ s.pwr.powered = true) ∧ s.changeRoom = true ∧ s.absent (aPart 1 0) = false) :
    Accepts s .steward (aPart 1 0) := ⟨h.1.1, h.1.2, h.2.1, rfl, h.2.2⟩

/-- An image that partition 1 can install. -/
def img1 : PImage := { part := 1, rdomain := 0x77, hslots := [0], sigOk := true, keysOk := true, procs := [(0, { a := { arch [(1, u 6)] with pc := 0x3000 } })] }

theorem witness_PartitionCommands : Accepts (sPart 0) .steward (aPart 1 0) ∧ (sPart 0).createOk 1 = true ∧ (sPart 2).createOk 1 = false
    ∧ (sPart 1).partState 1 = 1 ∧ (sPart 1).split = false ∧ (sPart 2).partState 1 = 2 ∧ (sFrozen 4).partState 1 = 4
    ∧ (sFrozen 4).parts.resume.find 1 = none ∧ (sFrozen 3).allStopped 1 = true ∧ (sFrozen 3).drained 1 = true
    ∧ ({ sPart 6 with parts := { migImage := [(1, img1)] } }).imageCheck 1 img1 = none ∧ (sPart 6).imageCheck 1 { img1 with sigOk := false } ≠ none
    ∧ (sPart 7).cry.vault = [] ∧ ({ sPart 7 with regs := [(aPart 1 8, 7)] }).extentsOf 1 = [] :=
  ⟨acceptsPart _ (by decide +kernel), by decide +kernel⟩

theorem test_create : (ran (.partCreate .steward 1) (sPart 0)).partState 1 = 1 ∧ (ran (.partCreate .steward 1) (sPart 2)).partState 1 = 2
    ∧ (ran (.partCreate .steward 1) (sPart 2)).rb (aPart 1 8) 11 = true := by decide +kernel
theorem test_start : let t := ran (.partStart .steward 1) (sPart 1)
    t.partState 1 = 2 ∧ (t.proc 0).running = true ∧ t.rf (aPair 0 8) 2 0 = 0 ∧ archOf t 0 = (sPart 1).startArch 0 := by decide +kernel
theorem test_freeze : (ran (.partFreeze .steward 1) (sFrozen 2)).partState 1 = 3 ∧ (ran (.partFreezeDone 1) (sFrozen 3)).partState 1 = 4
    ∧ (ran (.partThaw .steward 1) (sFrozen 4)).partState 1 = 2 ∧ ((ran (.partThaw .steward 1) (sFrozen 4)).proc 0).frozen = false := by
  decide +kernel
theorem test_migrate : (ran (.partExportConfirmed 1 true) (sFrozen 5)).partState 1 = 7
    ∧ (ran (.partExportConfirmed 1 false) (sFrozen 5)).partState 1 = 4 ∧ (ran (.partImport .steward 1) (sPart 0)).partState 1 = 6
    ∧ (ran (.partImportInstalled 1 img1) { sPart 6 with parts := { migImage := [(1, img1)] } }).partState 1 = 4 := by decide +kernel
theorem test_destroy : (ran (.partDestroy .steward 1) (sFrozen 4)).partState 1 = 7 ∧ (ran (.partDestroy .steward 1) (sPart 2)).partState 1 = 2
    ∧ (ran (.partAbort .steward 1) (sPart 6)).partState 1 = 7
    ∧ (ran (.partDestroyDone 1) { sPart 7 with regs := [(aPart 1 8, 7), (aPart 1 0x18, 5), (aPair 0 0, 0x100)] }).rd (aPart 1 0x18)
        = regReset false (aPart 1 0x18)
    := by decide +kernel

/-- An entry of exchange 7 waits for a slot of partition 1's Work Inbox. -/
def sServe : State := { sPart 2 with parts := { inbox := [(1, { waiting := [(.xcomplete 7, 4)] })] } }

/-- A processor waits for event 2, with parking after a delay of 1; and parked, with the event there. -/
def sPark (parked : Bool) (ev : Word) : State :=
  { cpu { arch [] with c := [(16, ev)] } with
    regs := [(0x100408, 1), (aPart 1 8, 2), (aPart 1 0x30, 1), (aPart 1 0x800, 0x201), (aPair 0 0, 0x101)]
    core := { procs := [(0, { running := true, a := { arch [] with c := [(16, ev)] }, waiting := some 4, parked := parked })] } }

theorem witness_PartitionServices : (sServe.inbox 1).waiting = [(.xcomplete 7, 4)] ∧ sServe.slotFree 1 0 = true
    ∧ (sPark false 0).runs 0 = true ∧ cr (archOf (sPark false 0) 0) 16 &&& 4 = 0 ∧ irqOf (archOf (sPark false 0) 0) = none
    ∧ (sPark false 0).settledProc 0 = true ∧ (sPark false 0).rf (aPart 1 0x30) 31 0 ≠ 0 ∧ (sPark true 4).dieOn 0 = true
    ∧ ({ sPart 2 with nowStage := 40001 }).time.toNat / 40000 ≠ (sPart 2).parts.period
    ∧ ((sPart 2).mb (.part 1)).state ≠ .posted ∧ (sPart 2).rb (aPart 1 0x40) 0 = false ∧ (sPart 2).rb (aPart 1 0x40) 3 = false
    ∧ (sPart 2).extentExists false 89 = true ∧ (sPart 2).extentTaken false (aExt 1 false 1) 89 = false
    ∧ (sPart 2).extentTaken false (aExt 1 false 1) 2 = true ∧ (sPart 2).rf (aExt 1 false 0) 1 0 = 1
    ∧ ({ sPart 2 with regs := [(aExt 1 false 127, 0x5902)] }).rf (aExt 1 false 127) 1 0 = 2
    ∧ ({ sPart 2 with regs := [(aExt 1 false 127, 0x5902)] }).accessing (extentPa false 89) = false := by decide +kernel

theorem test_serve : let t := ran (.serviceEntryDeliver 1 0) sServe
    (t.inbox 1).order = [0] ∧ (t.inbox 1).waiting = [] ∧ (t.inbox 1).fill.get 0 0 = 1 := by decide +kernel
theorem test_park : ((ran (.park 0) (sPark false 0)).proc 0).parked = true ∧ (ran (.park 0) (sPark false 0)).rf (aPair 0 8) 2 0 = 1
    ∧ ((ran (.unpark 0) (sPark true 4)).proc 0).parked = false ∧ ((ran (.unpark 0) (sPark true 0)).proc 0).parked = true
    ∧ ((ran (.park 0) (sPark false 4)).proc 0).parked = false := by decide +kernel
theorem test_share : (ran .sharePeriod { sPart 2 with nowStage := 40001, parts := { eclk := [(1, 5)] } }).parts.period = 1
    ∧ (ran .sharePeriod { sPart 2 with nowStage := 40001, parts := { eclk := [(1, 5)] } }).parts.eclk = [] := by decide +kernel
theorem test_mailbox : ((ran (.mboxDbWrite .steward (.part 1) 64 0xFF) (sPart 2)).mb (.part 1)).state = .posted
    ∧ ((ran (.mboxDbWrite .steward (.part 1) 65 0xFF) (sPart 2)).mb (.part 1)).state ≠ .posted := by decide +kernel
theorem test_tracking : (ran (.dirtyTrackStart .steward 1 1 0xFF) (sPart 2)).rf (aPart 1 0x40) 3 0 = 9
    ∧ (ran (.partSnap .steward 1 3 0xFF) { sPart 2 with regs := [(aPart 1 8, 2), (aPart 1 0x40, 1)] }).rb (aPart 1 0x40) 2 = true
    ∧ (ran (.dirtyScanDone 1) { sPart 2 with regs := [(aPart 1 0x40, 9)] }).rb (aPart 1 0x40) 3 = false := by decide +kernel
theorem test_extents : (ran (.extentMapWrite .steward 1 false 1 0x5901 0xFF) (sPart 2)).rd (aExt 1 false 1) = 0x5901
    ∧ (ran (.extentMapWrite .steward 1 false 1 0x201 0xFF) (sPart 2)).rd (aExt 1 false 1) = 0
    ∧ (ran (.extentMapWrite .steward 1 false 0 0x200 0xFF) (sPart 2)).rf (aExt 1 false 0) 1 0 = 2
    ∧ (ran (.unmapDone 1 false 127) { sPart 2 with regs := [(aExt 1 false 127, 0x5902)] }).rf (aExt 1 false 127) 1 0 = 0 := by decide +kernel

/-! ## Host interface -/

/-- Port 1 is up; VF 5 serves partition 1; its queue pair 2 has rings of 64 and 64. -/
def sHost (q : Qp) (e : List (Nat × WoEnt) := []) : State :=
  { sPart 2 with
    regs := [(0x100408, 1), (aPart 1 8, 2), (aPart 1 0x10, 0x0C06000000100000), (aPart 1 0x18, 0x0000010000000010), (aPart 1 0x800, 0x201),
      (aHif 1 0, 0x81), (aHif 1 0x128, 1)]
    host := { qps := [(1024 + 5 * 16 + 2, q)], wo := e, numVfs := [(1, 63)], vfEnable := [(1, true)]
              msix := [(69, { enabled := true, unmasked := [3] })] }
    boot := { admission := true, opened := true, booting := false } }
def qp6 : Qp := { mode := .active, cfg := 0x30606, sqBase := 0x10000, cqBase := 0x20000, phase := true }

theorem witness_HostQueues : (sHost qp6).hostUp 1 = true ∧ (sHost qp6).fnHere 1 5 = true ∧ (sHost qp6).vfPart 1 5 ≠ 0 ∧ sqSize qp6 = 64
    ∧ cqSize qp6 = 64 ∧ (sHost { qp6 with sqTail := 3 }).admits = true ∧ ((sHost qp6).wo 9).state = .free
    ∧ (sHost qp6).fnCtx 1 5 = 1 ∧ (sHost qp6).admitWo 1 = true ∧ (sHost qp6).outstanding 1 5 2 < cqFree qp6
    ∧ fld (0x10030606 : Word) 47 32 = 0 ∧ fld (0x200030606 : Word) 47 32 ≠ 0
    ∧ ((sHost qp6).host.msix.get {} (fnKey 1 5)).enabled = true := by decide +kernel

theorem test_doorbells : (ran (.sqDoorbell 1 5 2 63) (sHost qp6)).qp 1 5 2 = { qp6 with sqTail := 63 }
    ∧ ((ran (.sqDoorbell 1 5 2 64) (sHost qp6)).qp 1 5 2).cause = 3 ∧ events (.sqDoorbell 1 5 2 64) (sHost qp6) = [(hifSrc 1 6, 0)]
    ∧ (ran (.cqDoorbell 1 5 2 0) (sHost qp6)).qp 1 5 2 = qp6 ∧ ((ran (.cqDoorbell 1 5 2 1) (sHost qp6)).qp 1 5 2).cause = 4 := by
  decide +kernel
theorem test_fetch : let t := ran (.descriptorFetch 1 5 2 9) (sHost { qp6 with sqTail := 3 })
    (t.wo 9).state = .reserved ∧ (t.wo 9).part = 1 ∧ t.out = [.hostRead 1 0x10000 64] ∧ (t.qp 1 5 2).sqFetch = 1 := by decide +kernel
theorem test_queue_control : ((ran (.qctlEnable 1 5 2) (sHost { qp6 with mode := .disabled })).qp 1 5 2).mode = .active
    ∧ (ran (.qctlEnable 1 5 2) (sHost { mode := .disabled, cfg := 0x30605 })).qp 1 5 2 = { mode := .disabled, cfg := 0x30605, cause := 5 }
    ∧ ((ran (.qctlReset 1 5 2) (sHost qp6)).qp 1 5 2).mode = .resetting
    ∧ ((ran (.queueResetDone 1 5 2) (sHost { qp6 with mode := .resetting })).qp 1 5 2).mode = .disabled := by decide +kernel
theorem test_coalesce : (ran (.coalesceTimer 1 5 2) { sHost { qp6 with cfg := 0x200030606, firstUnsig := some 0, unsignalled := 1 } with nowStage := 2 }).out
    = [.msix 1 5 3] := by decide +kernel
/-! ## Descriptors, links and functions -/

/-- Work order 9 of VF 5 of port 1, with its read under way. -/
def woAt (st : WoSt) (rd : WoRead) : WoEnt := { state := st, port := 1, fn := 5, qp := 2, part := 1, rd := rd }
def sDesc : State := sHost qp6 [(9, woAt .reserved (.desc 0))]

/-- A segment entry: type, length, address. -/
def seg (ty len : Nat) (a : Nat) : BitVec 128 := BitVec.ofNat 128 (a + len * 2 ^ 64 + ty * 2 ^ 88)
/-- A WORK descriptor of partition 1, source 3, sequence 7, with 16 bytes in and 32 out. -/
def work1 : Desc := { w0 := 0x0000000000AB0001, receipt := 0x0203000000000007, e0 := seg 1 16 0x5000, e1 := seg 2 32 0x6000 }

theorem witness_HostDescriptors : sDesc.readable (sDesc.wo 9) = true ∧ sDesc.forcedRead 1 = none ∧ dOpcode work1 = 1 ∧ descOk work1 = true
    ∧ descOk { work1 with e2 := seg 3 64 0x100 } = true ∧ descOk { work1 with e2 := seg 3 65 0x100 } = false
    ∧ rcptPart work1.receipt = 1 ∧ rcptSource work1.receipt < 0x80 ∧ segTotal 1 (inlineEnts work1) ≤ sDesc.entrySize 1
    ∧ sDesc.partState 1 = 2 ∧ staleSeq (sDesc.win 1 3).high 7 = false ∧ staleSeq 4104 7 = true ∧ staleSeq 4103 7 = false
    ∧ (sDesc.win 1 3).outs.find 7 = none ∧ (sDesc.win 1 3).lossy = false
    ∧ sDesc.slotFree 1 0 = true ∧ sDesc.slotMapped 1 0 = true
    ∧ chainEnts 1023 (List.replicate 16 (seg 1 1 0)) = .limit ∧ chainEnts 0 (List.replicate 16 0) = .done := by decide +kernel

theorem test_work : let t := ran (.work 9 work1) sDesc
    (t.wo 9).state = .reading ∧ (t.wo 9).rd = .segs ∧ t.out = [.hostRead 1 0x5000 16] ∧ (t.win 1 3).outs.find 7 = some (.pending 9)
    ∧ (t.qp 1 5 2).sqHead = 1 := by decide +kernel
theorem test_work_refused : ((ran (.work 9 { work1 with receipt := 0x0403000000000007 }) sDesc).wo 9).status = 0x11
    ∧ ((ran (.hostInvalidOpcode 9 { work1 with w0 := 0x40 }) sDesc).wo 9).status = 0x10
    ∧ ((ran (.nopDescriptor 9 { w0 := 2 }) sDesc).wo 9).status = 0
    ∧ ((ran (.work 9 work1) (sHost qp6 [(9, woAt .reserved (.desc 0))] |> fun s => { s with regs := s.regs.map fun r => if r.1 = aPart 1 8 then (r.1, 3) else r })).wo 9).status = 0x70 := by
  decide +kernel
theorem test_chain : let t := ran (.work 9 { work1 with e2 := seg 3 2 0x700 }) sDesc
    let v := ran (.chainReadDone 9 (List.replicate 31 (seg 1 1 0x50) ++ [seg 3 1 0x900])) t
    (t.wo 9).rd = .chain 0x700 2 1 [] ∧ v.out.getLast? = some (.hostRead 1 0x900 256) := by decide +kernel
theorem test_delivery : let t := ran (.seginReadDone 9 (List.replicate 16 0xAA) 0) (ran (.work 9 work1) sDesc)
    (t.wo 9).state = .delivered ∧ (t.inbox 1).order = [0] ∧ (t.wo 9).slot = some 0 := by decide +kernel
theorem test_timeout : let t := ran (.completionTimeout 9) (ran (.work 9 work1) sDesc)
    (t.wo 9).status = 0x20 ∧ (t.qp 1 5 2).mode = .halted ∧ (t.qp 1 5 2).cause = 2 := by decide +kernel
theorem test_response : let t := ran (.responseSend 9) (ran (.nopDescriptor 9 { w0 := 0xAB0002 }) sDesc)
    (t.wo 9).state = .free ∧ (t.qp 1 5 2).cqTail = 1
    ∧ t.out = [.hostWrite 1 0x20000 (leBytes 8 0 ++ leBytes 8 0 ++ leBytes 8 (2 ^ 32 + 2 * 2 ^ 48) ++ leBytes 8 (0xAB + 2 ^ 31)),
      .msix 1 5 3] := by decide +kernel

theorem witness_HostLinks : (sHost qp6).hostUp 1 = true ∧ (sHost qp6).hostUp 0 = false ∧ (sHost qp6).fnHere 1 63 = true
    ∧ (sHost qp6).host.vfEnable.get false 1 = true ∧ (sHost qp6).host.vfEnable.get false 0 = false ∧ (sHost qp6).pwr.powered = true
    ∧ 7 ≤ ({ regs := [(aHif 0 8, 0x8E0000)] } : State).rf (aHif 0 8) 19 17 ∧ (sHost qp6).vfBusy 1 5 = true ∧ (sHost qp6).vfBusy 1 6 = false
    ∧ (sHost qp6).boundVf 1 1 = some 5 ∧ (sHost qp6).boundVf 1 2 = none ∧ Accepts (sHost qp6) .steward (aHif 1 0x130)
    ∧ Accepts (sHost qp6) .steward (aHif 1 8) := by
  refine ⟨by decide +kernel, by decide +kernel, by decide +kernel, by decide +kernel, by decide +kernel, by decide +kernel,
    by decide +kernel, by decide +kernel, by decide +kernel, by decide +kernel, by decide +kernel,
    ⟨rfl, rfl, by decide +kernel, rfl, by decide +kernel⟩, ⟨rfl, rfl, by decide +kernel, rfl, by decide +kernel⟩⟩

theorem test_links : let t := ran (.pcieLinkDown 1) (sHost qp6)
    t.rf (aHif 1 0) 7 0 = 0 ∧ t.rf (aHif 1 0) 31 16 = 1 ∧ (t.qp 1 5 2).mode = .frozen ∧ (t.qp 1 5 2).cause = 6
    ∧ events (.pcieLinkDown 1) (sHost qp6) = [(hifSrc 1 0, 0)]
    ∧ ((ran (.functionLevelReset 1 5) (sHost qp6)).qp 1 5 2).mode = .resetting
    ∧ (ran (.numvfsWrite 1 5) (sHost qp6)).host.numVfs.get 0 1 = 63
    ∧ (ran (.numvfsWrite 1 5) { sHost qp6 with host := {} }).host.numVfs.get 0 1 = 5 := by decide +kernel
theorem test_link_up : let t := ran (.pcieLinkUp 0 5 8) { sHost qp6 with regs := [(aHif 0 8, 0x8E0000)] }
    t.rf (aHif 0 0) 7 0 = 1 + 10 + 128 ∧ t.rb (aClk 0) 2 = true := by decide +kernel
theorem test_bind : (ran (.hifVfbindWrite .steward 1 6 2 0xFF) (sHost qp6)).vfPart 1 6 = 2
    ∧ (ran (.hifVfbindWrite .steward 1 6 1 0xFF) (sHost qp6)).vfPart 1 6 = 0
    ∧ (ran (.hifVfbindWrite .steward 1 5 2 0xFF) (sHost qp6)).vfPart 1 5 = 1
    ∧ (ran (.hifCfgLock .steward 1 0x1000000 0xFF) (sHost qp6)).rb (aHif 1 8) 24 = true := by decide +kernel
/-! ## Crypto complex -/

/-- Partition 1's crypto queue 3 at 0x10000 of the partition (16 slots), with one request of the words given in slot 0. -/
def sCry (ws : List (Nat × TWord)) (c : CrySt := {}) : State :=
  { sPart 2 with
    regs := (sPart 2).regs ++ [(aCry 0x408, 1)]
    mem := { words := (0x10000200, ⟨0, Tag.code⟩) :: ws.map fun w => (0x10002000 + w.1, w.2) }
    cry := { c with queues := [(35, { mode := .active, base := 0x10000, log2 := 4, tail := 1 })] } }
/-- SHA-256 of 8 bytes into 32. -/
def hashWords : List (Nat × TWord) := [(0, u 0x138), (4, ⟨0x4000, Tag.pointer⟩), (5, u 8), (6, ⟨0x5000, Tag.pointer⟩), (7, u 32)]
/-- A request whose IN length is not below 2^24. -/
def hashLong : List (Nat × TWord) := [(0, u 0x138), (5, u 0x1000000), (6, ⟨0x5000, Tag.pointer⟩), (7, u 32)]
/-- A key of partition 1, AES of 16 bytes with the USAGE bits given. -/
def aesKey (use : BitVec 16) : VRec := { gen := 2, type_ := 1, usage := use, material := List.replicate 16 7, kcv := 0xCC, label := 0x11 }
/-- A vault request: its opcode on key 5, with OUT at 0x5000. -/
def keyWords (op : Word) : List (Nat × TWord) := [(0, u op), (2, ⟨mkHandle 1 5 2, Tag.sealedW⟩), (6, ⟨0x5000, Tag.pointer⟩), (7, u 64)]
/-- The request at the head. -/
def headReq (s : State) : Req := { part := 1, queue := 3, slot := 0, words := s.pqWords .cry 1 3 }

theorem witness_CryptoRequests : (sCry hashWords).pqFetchOk .cry 1 3 = true ∧ (rqWord (headReq (sCry hashWords)) 0).getLsbD 16 = false
    ∧ (sCry hashWords).admitCry 1 = true ∧ RingRoom (sCry hashWords) .cry 1 3 ∧ (sCry hashWords).enginesOk 2 50 none = true
    ∧ (sCry hashWords).cryTurn 1 2 = true ∧ (sCry hashWords).cryCheck (headReq (sCry hashWords)) = none
    ∧ (sCry hashLong).cryCheck (headReq (sCry hashLong)) = some (0x11, 0, 0) := by
  refine ⟨by decide +kernel, by decide +kernel, by decide +kernel, ?_, by decide +kernel⟩
  unfold RingRoom; decide +kernel
theorem witness_CryptoRequests_vault : let s := sCry (keyWords 0x54) { vault := [(vKey 1 5, aesKey 4)] }
    s.pqFetchOk .cry 1 3 = true ∧ s.admitCry 1 = true ∧ s.cryCheck (headReq s) = none
    ∧ s.cry.vault.find (vKey 1 (fld (rqWord (headReq s) 2) 13 0)) = some (aesKey 4)
    ∧ (let e := sCry [(0, u 0x99)]; cryClass (rqOp (headReq e)) = 9 ∧ cryTags (headReq e) = true) := by decide +kernel

theorem test_request : let t := ran (.hash 1 3 50) (sCry hashWords)
    (t.req 0).stage = .running ∧ (t.req 0).engine = 50 ∧ t.rd (aCry 400) = 0x104 ∧ (t.pq .cry 1 3).head = 1
    ∧ (ran (.hash 1 3 5) (sCry hashWords)).cry.reqs = [] ∧ (ran (.random 1 3 50) (sCry hashWords)).cry.reqs = [] := by decide +kernel
theorem test_request_refused : let t := ran (.hash 1 3 50) (sCry hashLong)
    t.cry.reqs = [] ∧ t.mem.words.get {} (0x10002000 + 256 + 3) = u 0x80000011 ∧ (t.pq .cry 1 3).cTail = 1
    ∧ (ran (.cryptoInvalidOpcode 1 3) (sCry [(0, u 0x99)])).mem.words.get {} (0x10002000 + 256 + 3) = u 0x80000010 := by decide +kernel
theorem test_key_requests : ((ran (.keyDestroy 1 3) (sCry (keyWords 0x54) { vault := [(vKey 1 5, aesKey 4)] })).cry.vault.get {} (vKey 1 5)).destroying = true
    ∧ (ran (.keyInfo 1 3) (sCry (keyWords 0x55) { vault := [(vKey 1 5, aesKey 4)] })).mem.words.get {} (0x10000A00) = u 0x1000040001
    ∧ (ran (.keyInfo 1 3) (sCry (keyWords 0x55) { vault := [(vKey 1 5, aesKey 4)] })).mem.words.get {} (0x10000A01) = u (mkHandle 1 5 2) := by
  decide +kernel

/-- The hash request running on engine 50, the first slot's. -/
def running (errors : Nat) : State :=
  let s := sCry hashWords
  { s with regs := s.regs ++ [(aCry 400, 0x104)]
           cry := { s.cry with queues := [(35, { mode := .active, base := 0x10000, log2 := 4, head := 1, tail := 1, outstanding := 1 })]
                               reqs := [(0, { headReq s with stage := .running, engine := 50, errors := errors })] } }
/-- A vault with key 5 of partition 1, and its creation on the way. -/
def sVault (v : VRec) : State := { sPart 2 with cry := { vault := [(vKey 1 5, v)], changes := [⟨1, 5, some v, .domain 1, none⟩] } }

/-- A request for random bytes that still runs when the entropy source has failed. -/
def noRandom : State :=
  let s := running 0
  { s with regs := s.regs.filter (fun r => r.1 ≠ aCry 0x408)
           cry := { s.cry with reqs := [(0, { part := 1, queue := 3, words := [u 0x60], stage := .running, engine := 50 })] } }

theorem witness_CryptoEngines : (running 0).runningOn 50 = some 0 ∧ ((running 0).req 0).engine = 50 ∧ ((running 0).req 0).dropped = false
    ∧ (running 0).pqLive .cry 1 3 = true ∧ RingRoom (running 0) .cry 1 3 ∧ (∀ x ∈ (running 0).cry.reqs, x.2.stage ≠ .waiting)
    ∧ NoForce (running 0) (engineSrc 50) 0 ∧ NoForce (running 0) (engineSrc 50) 1 ∧ (needsRandom ((running 0).req 0) = false ∧ (running 0).keysHere ((running 0).req 0) = true ∧ (noRandom).keysHere ((noRandom).req 0) = true)
    ∧ ((running 0).cryRun ((running 0).req 0) [] 0).status = St.ok
    ∧ ((running 0).rngOk = true ∧ 2 ^ 20 ≤ ({ running 0 with cry := { calls := [(2, 1048576)] } }).cry.calls.get 0 2 ∧ (running 0).pwr.powered = true)
    ∧ (({ sPart 2 with cry := { queues := [(35, { mode := .resetting })] } }).pq .cry 1 3).outstanding = 0
    ∧ (sVault { aesKey 4 with destroying := true }).keyHeld 1 5 (.domain 1) = false ∧ isVolatile (aesKey 0x2000) = true
    ∧ NoForce (sVault (aesKey 4)) 134 0
    ∧ (({ sPart 2 with nowStage := 360000000000 } : State).time.toNat = 360000000000) := by
  refine ⟨by decide +kernel, by decide +kernel, by decide +kernel, by decide +kernel, ?_, by decide +kernel, ?_, ?_, by decide +kernel,
    rfl, by decide +kernel, by decide +kernel, by decide +kernel, by decide +kernel, ?_, by decide +kernel⟩
  · unfold RingRoom; decide +kernel
  all_goals unfold NoForce; decide +kernel

theorem test_engine_done : let t := ran (.cryptoEngineDone 50) noRandom
    t.rd (aCry 400) = 0 ∧ t.cry.reqs = [] ∧ (t.pq .cry 1 3).outstanding = 0 ∧ (t.pq .cry 1 3).cTail = 1
    ∧ t.mem.words.get {} (0x10002000 + 256 + 3) = u 0x8000007F := by decide +kernel
theorem test_engine_error : (ran (.cryptoEngineError 50) (running 0)).rb (aCry 400) 1 = true
    ∧ ((ran (.cryptoEngineError 50) (running 0)).req 0).errors = 1 ∧ (ran (.cryptoEngineError 50) (running 1)).cry.reqs = []
    ∧ (ran (.cryptoEngineError 50) (running 1)).mem.words.get {} (0x10002000 + 256 + 3) = u 0x8000007F := by decide +kernel
theorem test_rng : (ran .entropyFail (running 0)).rd (aCry 0x408) = 0x10000 ∧ (ran .entropyRestart (ran .entropyFail (running 0))).rngOk = true
    ∧ (ran (.drbgReseed 2) { running 0 with cry := { calls := [(2, 1048576)] } }).cry.calls.get 0 2 = 0 := by decide +kernel
theorem test_vault : (ran (.keyErase 1 5) (sVault { aesKey 4 with destroying := true })).cry.vault = []
    ∧ (ran (.keyErase 1 5) (sVault (aesKey 4))).cry.vault ≠ [] ∧ (ran (.vaultChangeDurable 1 5 true) (sVault (aesKey 4))).cry.changes = []
    ∧ events (.vaultChangeDurable 1 5 false) (sVault (aesKey 4)) = [(134, 0)] ∧ (ran (.kvUncorrected 1 5) (sVault (aesKey 0x2000))).cry.vault = []
    ∧ ((ran (.cqResetDone 1 3) { sPart 2 with cry := { queues := [(35, { mode := .resetting })] } }).pq .cry 1 3).mode = .disabled
    ∧ (ran (.componentExpiry 1) { sPart 2 with nowStage := 360000000000, cry := { combos := [(1, {})] } }).cry.combos = [] := by decide +kernel

/-! ## Key commands -/

/-- Work order 9 of PF0 of port 1 holds a key command; the state has a pending combination `c` and a vault `v` of domain 1. -/
def sKey (c : Tbl Combo) (v : Tbl VRec) : State :=
  let s := sHost qp6
  { s with regs := s.regs ++ [(aCry 0x808, 0x100000000400)]
           host := { s.host with qps := [(1024, qp6)], wo := [(9, { state := .reserved, port := 1, rd := .desc 0 })] }
           cry := { combos := c, vault := v } }
/-- A key command: opcode, ARG, SEG_IN length; 64 bytes of SEG_OUT. -/
def keyDesc (op arg inLen : Nat) : Desc :=
  { w0 := BitVec.ofNat 64 (op + 0xAB0000 + arg * 2 ^ 32), receipt := 0x0003000000000007, e0 := seg 1 inLen 0x5000, e1 := seg 2 64 0x6000 }
/-- Component 1 of 2 of an AES key. -/
def comp1 : Bytes := List.replicate 16 0x55
/-- Both components of a key of domain 1 have arrived. -/
def both : Combo := { count := 2, type_ := 1, parts := [(1, comp1), (2, List.replicate 16 0xAA)] }

theorem witness_KeyCommands : (let s := sKey [] []; let d := keyDesc 0x40 0x12101 16
      s.readable (s.wo 9) = true ∧ s.forcedRead (s.wo 9).port = none ∧ (s.wo 9).state = .reserved ∧ (s.wo 9).rd = .desc (s.qp 1 0 0).sqHead
      ∧ descOk d = true ∧ segType d.e2 ≠ 3 ∧ rcptPart d.receipt = 0 ∧ rcptSource d.receipt < 0x80
      ∧ staleSeq (s.win 0 3).high 7 = false ∧ (s.win 0 3).outs.find 7 = none ∧ s.domainOk (fld (BitVec.ofNat 64 (dArg d)) 5 0) = true
      ∧ fld (BitVec.ofNat 64 (dArg d)) 11 8 = 1 ∧ fld (BitVec.ofNat 64 (dArg d)) 15 12 = 2 ∧ fld (BitVec.ofNat 64 (dArg d)) 23 16 = 1
      ∧ (fit (segTotal 1 (inlineEnts d)) comp1).length = 16)
    ∧ ((sKey [(1, both)] []).cry.combos.find 1 = some both ∧ (sKey [(1, both)] []).time.toNat < both.first.toNat + 360000000000 ∧ ofLe (slice (fit 64 [0, 0, 4]) 2 2) < 2 ^ 13
      ∧ (sKey [(1, both)] []).vRoom 1 1 1 = none)
    ∧ (let s := sKey [] [(vKey 1 5, aesKey 0x30)]
      s.plainKey 1 (mkHandle 1 5 2) ⟨[1, 2], none, some 5, []⟩ false = none ∧ s.plainKey 1 (mkHandle 1 5 2) {} false = none
      ∧ s.vLookup 1 0x11 = some (vKey 1 5, aesKey 0x30) ∧ s.vLookup 1 0x12 = none ∧ s.fuse.small = s.fuse.small)
    ∧ (let s := sKey [] [(vKey 1 5, aesKey 0x1030)]
      s.plainKey 1 (mkHandle 1 5 2) ⟨[1], none, some 4, []⟩ false = none ∧ s.plainKey 1 (mkHandle 1 5 2) {} true = none) := by decide +kernel

/-- Input data of a key command as the host read returns it. -/
def input (b : Bytes) : HostRd := .ok [] b
theorem test_components : let t := ran (.keyComponent 9 (keyDesc 0x40 0x12101 16) (input comp1)) (sKey [] [])
    (t.wo 9).state = .posting ∧ (t.wo 9).status = 0
    ∧ (t.cry.combos.get {} 1).parts = [(1, comp1)]
    ∧ ((ran (.keyComponent 9 (keyDesc 0x40 0x1A001 16) (input comp1)) (sKey [] [])).wo 9).status = 0x11
    ∧ ((ran (.keyComponentClear 9 (keyDesc 0x42 1 8) (input [])) (sKey [(1, both)] [])).cry.combos) = []
    ∧ ((ran (.keyCombine 9 (keyDesc 0x41 1 64) (input [0, 0, 4])) (sKey [] [])).wo 9).status = 0x11 := by decide +kernel
theorem test_key_delete : let s := sKey [] [(vKey 1 5, aesKey 0x30)]
    (ran (.keyDelete 9 (keyDesc 0x45 1 8) (input (leBytes 8 (mkHandle 1 5 2).toNat))) s).cry.erasing = [(vKey 1 5, .command 9)]
    ∧ ((ran (.keyDelete 9 (keyDesc 0x45 1 9) (input [])) s).wo 9).status = 0x11
    ∧ ((ran (.keyQuery 9 (keyDesc 0x46 1 8) (input (leBytes 8 0x11))) s).wo 9).result = 0xCC
    ∧ ((ran (.keyQuery 9 (keyDesc 0x46 1 8) (input (leBytes 8 0x12))) s).wo 9).status = 0x50 := by decide +kernel

/-! ## Compression engines and the Block Mover -/

/-- Partition 1's compression queue 3 at 0x10000 of the partition (16 slots), with one request of the words given. -/
def sCmp (ws : List (Nat × TWord)) (c : CmpSt := {}) : State :=
  { sPart 2 with
    mem := { words := (0x10000200, ⟨0, Tag.code⟩) :: ws.map fun w => (0x10002000 + w.1, w.2) }
    cmp := { c with queues := [(35, { mode := .active, base := 0x10000, log2 := 4, tail := 1 })] } }
/-- DEFLATE of 8 bytes into 32. -/
def zipWords : List (Nat × TWord) := [(0, u 1), (1, u 0xAB), (2, ⟨0x4000, Tag.pointer⟩), (3, u 8), (4, ⟨0x5000, Tag.pointer⟩), (5, u 32)]
/-- The request at the head. -/
def headZip (s : State) : Req := { part := 1, queue := 3, slot := 0, words := s.pqWords .cmp 1 3 }
/-- The same request running on engine 2, with the errors given so far. -/
def zipping (errors : Nat) : State :=
  let s := sCmp zipWords
  { s with regs := s.regs ++ [(0xB00010, 0x104)]
           cmp := { s.cmp with queues := [(35, { mode := .active, base := 0x10000, log2 := 4, head := 1, tail := 1, outstanding := 1 })]
                               reqs := [(0, { headZip s with stage := .running, engine := 2, errors := errors })] } }

theorem witness_CompressionAndMover_requests : (sCmp zipWords).pqFetchOk .cmp 1 3 = true
    ∧ (rqWord (headZip (sCmp zipWords)) 0).getLsbD 16 = false ∧ RingRoom (sCmp zipWords) .cmp 1 3
    ∧ (sCmp zipWords).ceOnline 2 = true ∧ (sCmp zipWords).heldBy 2 = [] ∧ (∀ x ∈ (sCmp zipWords).cmp.reqs, x.2.engine ≠ 0xFF)
    ∧ (sCmp zipWords).zqTurn 1 = true ∧ (sCmp zipWords).zqCheck (headZip (sCmp zipWords)) = none
    ∧ (sCmp [(0, u 0x401)]).zqCheck (headZip (sCmp [(0, u 0x401)])) = some St.invalidField
    ∧ (∀ i, i < 8 → rqTag (headZip (sCmp [(0, u 7)])) i = Tag.untyped) := by
  refine ⟨by decide +kernel, by decide +kernel, ?_, rfl, by decide +kernel, by decide +kernel, by decide +kernel,
    by decide +kernel, by decide +kernel, by decide +kernel⟩
  unfold RingRoom; decide +kernel
theorem witness_CompressionAndMover_engines : (zipping 0).zqRunning 2 = some 0 ∧ ((zipping 0).creq 0).dropped = false
    ∧ (zipping 0).pqLive .cmp 1 3 = true ∧ RingRoom (zipping 0) .cmp 1 3
    ∧ (∀ x ∈ (zipping 0).cmp.reqs, x.1 ≠ 0 → x.2.engine ≠ 2 ∧ x.2.engine ≠ 0xFF) ∧ NoForce (zipping 0) 146 0 ∧ NoForce (zipping 0) 146 1
    ∧ (zipping 0).heldBy 2 = [(0, (zipping 0).creq 0)] ∧ (zipping 1).heldBy 2 = [(0, (zipping 1).creq 0)] ∧ ((zipping 1).creq 0).errors ≠ 0
    ∧ (zipping 0).ceOnline 0 = true := by
  refine ⟨by decide +kernel, by decide +kernel, by decide +kernel, ?_, by decide +kernel, ?_, ?_, by decide +kernel,
    by decide +kernel, by decide +kernel, rfl⟩
  · unfold RingRoom; decide +kernel
  all_goals unfold NoForce; decide +kernel

theorem test_compress : let t := ran (.compress 1 3 0) (sCmp zipWords)
    (t.creq 0).stage = .running ∧ t.rd 0xB00000 = 0x104 ∧ (t.pq .cmp 1 3).head = 1
    ∧ (ran (.decompress 1 3 0) (sCmp zipWords)).cmp.reqs = []
    ∧ (ran (.compressInvalidOpcode 1 3) (sCmp [(0, u 7)])).mem.words.get {} (0x10002000 + 128 + 3) = u 0x80000010 := by decide +kernel
theorem test_compress_error : let t := ran (.compressEngineError 2) (zipping 0)
    t.rb 0xB00010 1 = true ∧ (t.creq 0).errors = 1 ∧ (t.creq 0).engine = 0 ∧ t.rd 0xB00000 = 0x104
    ∧ (ran (.compressEngineError 2) (zipping 1)).mem.words.get {} (0x10002000 + 128 + 3) = u 0x8000007F := by decide +kernel

/-- Channel 9 moves for partition 1. -/
def sMov (r : MovRun) : State :=
  { sPart 2 with
    regs := (sPart 2).regs ++ [(aMov 9 0x18, 4), (aMov 9 0x28, 3)]
    mem := { words := [(0x10000200, ⟨0, Tag.code⟩), (0x10000800, ⟨0x1122334455667788, Tag.decimal⟩), (0x10000A00, ⟨1, Tag.sealedW⟩)] }
    cmp := { runs := [(9, r)] } }
/-- 8 bytes from 0x4000 to `dst`. -/
def mv8 (dst : Nat) : MovRun := { src := 0x4000, dst := dst, count := 8, owner := 1, noEvent := true }

theorem witness_CompressionAndMover_mover : (sMov (mv8 0x6000)).cmp.runs.find 9 = some (mv8 0x6000) ∧ NoForce (sMov (mv8 0x6000)) (movSrc 9) 1
    ∧ ((sMov (mv8 0x6000)).movValid 1 0x4000 8 && (sMov (mv8 0x6000)).movValid 1 0x6000 8) = true
    ∧ (sMov (mv8 0x6000)).movTagsOk 1 0x4000 8 0x6000 8 = true ∧ (sMov (mv8 0x5000)).movTagsOk 1 0x4000 8 0x5000 8 = false
    ∧ ((sMov (mv8 0x80000000)).movValid 1 0x4000 8 && (sMov (mv8 0x80000000)).movValid 1 0x80000000 8) = false
    ∧ (sMov { mv8 0x6000 with done := 8, crcSel := 2, append := true }).movValid 1 0x6008 8 = true
    ∧ (sMov { mv8 0x6000 with done := 8, crcSel := 2, append := true }).movTagsOk 1 0x6009 0 0x6008 8 = true
    ∧ (9, 0) ∈ ({ sMov (mv8 0x6000) with cmp := { syncs := [(9, 0)] } }).cmp.syncs := by
  refine ⟨by decide +kernel, ?_, by decide +kernel⟩
  unfold NoForce; decide +kernel

theorem test_mover : let t := ran (.moverChunk 9) (sMov (mv8 0x6000))
    t.mem.words.get {} 0x10000C00 = ⟨0x1122334455667788, Tag.decimal⟩ ∧ t.rd (aMov 9 0x18) = 2 ∧ t.rd (aMov 9 0x28) = 4
    ∧ t.rd (aMov 9 0x30) = 8 ∧ t.cmp.runs = [] := by decide +kernel
theorem test_mover_bytes : let t := ran (.moverChunk 9) (sMov (mv8 0x6003))
    t.mem.words.get {} 0x10000C00 = ⟨0x4455667788000000, Tag.untyped⟩ ∧ t.mem.words.get {} 0x10000C01 = ⟨0x112233, Tag.untyped⟩
    ∧ (ran (.moverChunk 9) (sMov (mv8 0x5003))).rd (aMov 9 0x18) = 0x5202 := by decide +kernel
theorem test_mover_ends : (ran (.moverChunk 9) (sMov (mv8 0x5000))).rd (aMov 9 0x18) = 0x5202
    ∧ (ran (.moverChunk 9) (sMov (mv8 0x80000000))).rd (aMov 9 0x18) = 0x1102
    ∧ (ran (.moverAbort 9) (sMov { mv8 0x6000 with abort := true })).rd (aMov 9 0x18) = 0x6102
    ∧ (ran (.moverAbort 9) (sMov (mv8 0x6000))).rd (aMov 9 0x18) = 4
    ∧ events (.moverChunk 9) (sMov { mv8 0x6000 with fail := true }) = [(movSrc 9, 2)] := by decide +kernel
theorem test_mover_sync : (ran (.moverSyncReturn 9 0) { sMov (mv8 0x6000) with cmp := { syncs := [(9, 0)] } }).cmp.syncs = [] := by decide +kernel

/-! ## Journal, Strongroom and Ledger -/

/-- A commit descriptor of partition 1 at 0x4000 of the partition waits to be staged: result 0x99, status 0, 8 bytes at 0x5000. -/
def sCommit (ctl rcpt : Word) : State :=
  { sPart 2 with
    mem := { words := [(0x10000200, ⟨0, Tag.code⟩), (0x10000800, u ctl), (0x10000801, u rcpt), (0x10000803, u 0x99), (0x10000804, u 0x5000),
      (0x10000805, u 8), (0x10000A00, u 0xABCD)] }
    jrn := { commits := [{ to_ := { core := 0, part := 1, addr := 0x4000 } }] } }

/-- The same with a window of partition 1 whose sequence 7 of source 3 is committed. -/
def sCommitted : State :=
  { sCommit 1 0x0203000000000007 with host := { wins := [(1 * 512 + 3, { high := 8, outs := [(7, .done 0 0x99 false false true 5)] })] } }

/-- A record staged at JSN 5, that owes the acknowledgement of the descriptor. -/
def jent (written : Bool) : JEnt :=
  { r := { jsn := 5, kind := 1, window := 1, context := 1, receipt := 0x0203000000000007, stamp := 100, result := 0x99 }
    ack := some { core := 0, part := 1, addr := 0x4000 }, written := written }
/-- The ring holds that record. -/
def sRing (written : Bool) : State :=
  { sPart 2 with
    regs := (sPart 2).regs ++ [(0x1200000, 1000), (aJrn 0, 0x3C00400001)]
    nowStage := 400200, boot := { booting := false }, jrn := { ring := [jent written] } }

theorem witness_JournalUnit : (sCommit 1 0x0203000000000007).mayStage = true
    ∧ (sCommit 1 0x0203000000000007).mapped 1 0x4000 64 = true
    ∧ (let s := sCommit 1 0x0203000000000007; let ws := s.rangeWords 1 0x4000 64
      s.commitCheck 1 ws = none ∧ s.commitWin 1 1 0 0x0203000000000007 = none ∧ s.commitRoom 8 = true)
    ∧ (let s := sCommit 3 0; s.commitCheck 1 (s.rangeWords 1 0x4000 64) = some St.invalidField)
    ∧ (sCommitted.commitCheck 1 (sCommitted.rangeWords 1 0x4000 64) = none
      ∧ sCommitted.commitWin 1 1 0 0x0203000000000007 = some (St.replayed, 5))
    ∧ (sCommit 1 0x0203000000000007).mapped 1 0x80000000 64 = false := by decide +kernel
theorem witness_JournalUnit_ring : (sRing false).jrn.ring.find? (fun x => x.r.jsn = 5 ∧ !x.written) = some (jent false)
    ∧ NoForce (sRing false) 98 0 ∧ NoForce (sRing false) 99 0 ∧ (sRing false).rf 0x1200000 12 0 ≠ 1024
    ∧ (sRing false).mayStage = true ∧ (sRing false).healthy = false ∧ (sRing false).jrn.ring = [jent false]
    ∧ (let s := sRing true; let recs := takeBatch (s.rf (aJrn 0) 28 16 * 1024) 0 (s.jrn.ring.takeWhile (·.written))
      recs.head? = some (jent true).r ∧ recs.getLast? = some (jent true).r ∧ (jent true).r.stamp.toNat + 400000 ≤ s.time.toNat
      ∧ s.rb (aJrn 0) 0 = true) := by
  refine ⟨by decide +kernel, ?_, ?_, by decide +kernel, by decide +kernel, by decide +kernel, rfl, by decide +kernel⟩
  all_goals unfold NoForce; decide +kernel

/-- A takeover left record 3 of the partner; a group with one member that is not ACTIVE. -/
def sAdopt : State :=
  { sRing true with
    regs := Tbl.set ((sRing true).regs ++ (List.range 8).map fun e => (0xB00000 + 8 * e, 2)) (aXt 8) 0x17D7840003000001
    dpx := { adopt := some 3, mirror := [{ r := { jsn := 3, kind := 1, context := 2, stamp := 90 }, applied := true, fed := true }] } }
theorem test_takeover_destages : (let t := sAdopt.opBatchTimer 7 none
    (t.jrn.sent.map fun b => (b.firstJsn, b.lastJsn, b.count, b.partner)) = [(3, 3, 1, true)] ∧ t.dpx.adopt = some 4
    ∧ t.adopted.length = 0) := by decide +kernel
theorem test_takeover_destaged : ({ sAdopt with jrn := { sAdopt.jrn with
    sent := [{ firstJsn := 3, lastJsn := 3, count := 1, xent := some 7, partner := true }] } }.destaged 7).dpx.mirror = [] := by
  decide +kernel

/-- The Ledger runs, with SYNC on; now is `n`. -/
def sEpoch (n : Word) (sync : Bool) (acc : Option Word) : State :=
  { regs := [(aJrn 0x100, if sync then 0x20000000 else 0)], nowStage := n, boot := { booting := false }
    pwr := { powered := true }, jrn := { running := true, nominal := 1000000, accepted := acc } }

theorem witness_JournalUnit_epochs : (sEpoch 1000003 true none).ledgerRuns = true ∧ (sEpoch 1000003 true none).rb (aJrn 0x100) 29 = true
    ∧ (1000000 : Nat) ≤ ((sEpoch 1000003 true none).time - 3).toNat + 50000 ∧ ((sEpoch 1000003 true none).time - 3).toNat ≤ 1000000 + 50000
    ∧ (1000000 : Nat) + 50000 < ((sEpoch 1050004 true none).time - 3).toNat ∧ (sEpoch 9 true (some 20)).jrn.accepted = some 20
    ∧ (1000000 : Nat) + 50000 + 3 ≤ (sEpoch 1050003 true none).time.toNat ∧ (1000000 : Nat) ≤ (sEpoch 1000000 false none).time.toNat ∧ (sEpoch 1050003 false none).rb (aJrn 0x100) 29 = false := by
  decide +kernel

/-- Boot is at the point where partition 1's windows are rebuilt. -/
def sRebuild : State := { sPart 1 with boot := { booting := true }, pwr := { powered := true } }
theorem witness_JournalUnit_windows : sRebuild.partState 1 ≠ 2 ∧ sRebuild.boot.booting = true ∧ sRebuild.jrn.ring = []
    ∧ sRebuild.rebuildFrom ≤ (jent true).r.stamp.toNat ∧ (∀ t ∈ sRebuild.host.wo, t.2.sagResumed = false)
    ∧ staleSeq (sRebuild.win 1 3).high 7 = false ∧ Accepts (sPart 2) .steward (aJrn 0x180)
    ∧ (let s : State := { regs := [(aJrn 0, 0x100000001)], nowStage := 400000000, jrn := { lossyFrom := some 0 } }
      (0 : Word).toNat + s.rf (aJrn 0) 47 32 * 400000000 ≤ s.time.toNat) := by
  refine ⟨by decide +kernel, rfl, rfl, by decide +kernel, by decide +kernel, by decide +kernel,
    ⟨rfl, rfl, by decide +kernel, rfl, by decide +kernel⟩, by decide +kernel⟩

theorem test_commit : let t := ran .commitStage (sCommit 1 0x0203000000000007)
    t.jrn.commits = [] ∧ (t.jrn.ring.map fun e => e.r.result) = [0x99] ∧ (t.jrn.ring.map fun e => e.r.payload) = [leBytes 8 0xABCD]
    ∧ (t.jrn.ring.map fun e => e.r.domain) = [0x77] ∧ (t.win 1 3).high = 8 := by decide +kernel
theorem test_commit_refused : (ran .commitStage (sCommit 3 0)).mem.words.get {} 0x10000807 = u 0x8011
    ∧ (ran .commitStage sCommitted).mem.words.get {} 0x10000807 = u (0x58200 + St.replayed.zeroExtend 64)
    ∧ (ran .commitStage sCommitted).jrn.ring = [] := by decide +kernel
theorem test_strongroom : (ran (.strongroomWriteDone 5 false true) (sRing false)).rf 0x1200000 12 0 = 999
    ∧ events (.strongroomWriteDone 5 false true) (sRing false) = [(98, 0), (99, 0)]
    ∧ (ran (.strongroomWriteDone 5 false false) (sRing false)).mem.words.get {} 0x10000807 = u 0x58100
    ∧ (ran (.strongroomWriteDone 6 false false) (sRing false)).jrn.ring = [jent false] := by decide +kernel
theorem test_epochs : (ran .epochSyncEdge (sEpoch 1000003 true none)).rd (aJrn 0x118) = 1000000
    ∧ (ran .epochSyncEdge (sEpoch 1050004 true none)).rf (aJrn 0x120) 31 0 = 1
    ∧ (ran .epochDecision (sEpoch 1050002 true none)).rd (aJrn 0x110) = 0
    ∧ (ran .epochDecision (sEpoch 1050003 true none)).rd (aJrn 0x110) = 1
    ∧ (ran .epochDecision (sEpoch 1000000 false none)).rd (aJrn 0x110) = 1 := by decide +kernel
theorem test_rebuild : (ran (.receiptWindowRebuild 1 [(jent true).r] 0) sRebuild).win 1 3
      = { high := 8, outs := [(7, .done 0 0x99 false false true 5)] }
    ∧ ((ran (.receiptWindowRebuild 1 [] 1) sRebuild).win 1 100).lossy = true := by decide +kernel

/-! ## Links -/

/-- Port 7 in a state (0 DISABLED, 1 TRAINING, 2 INIT, 3 ACTIVE, 4 HOLDOFF), enabled. -/
def sLink (st : Word) (k : LinkSt := {}) : State :=
  { regs := [(aLink 7 0, 1), (aLink 7 8, st)], link := [(7, k)], pwr := { powered := true } }
/-- A LINIT that a channel port accepts, with NONCE 0x55. -/
def linitFrame : Frame :=
  { ftype := 3, body := .bytes (leBytes 16 0x1234 ++ leBytes 2 9 ++ [2, 0] ++ leBytes 2 32 ++ leBytes 2 64 ++ leBytes 2 64 ++ leBytes 2 0
      ++ leBytes 2 4096 ++ leBytes 2 0 ++ leBytes 4 0x55 ++ leBytes 4 0) }
/-- An acknowledgement of a sequence with the limits given. -/
def ackFrame (ty : Nat) (ackseq : BitVec 16) : Frame := { ftype := ty, ackseq := ackseq, credit := [32, 64, 64, 0] }
/-- Two frames have been sent and are held for replay. -/
def sHeld (run : Nat) : State :=
  sLink 3 { nextTx := 2, limit := [32, 64, 64, 0], held := [(0, { xh0 := 10 }), (1, { xh0 := 11 })], replayRun := run, replay := 1, owesAck := true }

theorem witness_Links : Accepts (sLink 0) .steward (aLink 7 0) ∧ (({ sLink 0 with regs := [(aLink 7 8, 0)] }).lkState 7 = 0
    ∧ ({ sLink 0 with regs := [(aLink 7 8, 0)] }).rb (aLink 7 0) 0 = false) ∧ (sLink 1).lkState 7 = 1 ∧ (sLink 4).rb (aLink 7 0) 0 = true
    ∧ linitOk 7 (frameBytes linitFrame) = true ∧ linitOk 7 (frameBytes { linitFrame with body := .bytes [] }) = false
    ∧ (sLink 2).rb (aLink 7 0) 2 = false ∧ (let s := { sLink 2 with regs := [(aLink 7 0, 5), (aLink 7 8, 2)] }
      s.rb (aLink 7 0) 2 = true ∧ (0x1234 : Word) ≠ s.rd (aLink 7 0x20))
    ∧ BitVec.ofNat 32 (ofLe ((frameBytes { ftype := 4, body := .bytes (leBytes 4 9) }).take 4)) = (9 : BitVec 32)
    ∧ ((sLink 2).lkAbsent 7 = false ∧ (7 : Nat) / 8 = 0) ∧ NoForce (sLink 2) (linkSrc 7) 1 ∧ NoForce (sLink 3) (linkSrc 7) 1
    ∧ ((sLink 3).takeAck 7 { ftype := 5 } = none) := by
  refine ⟨⟨rfl, rfl, by decide +kernel, rfl, by decide +kernel⟩, by decide +kernel, by decide +kernel, by decide +kernel,
    by decide +kernel, by decide +kernel, by decide +kernel, by decide +kernel, by decide +kernel, ⟨?_, by decide⟩, ?_, ?_, ?_⟩
  · simp [State.lkAbsent]
  · unfold NoForce; decide +kernel
  · unfold NoForce; decide +kernel
  · decide +kernel
theorem witness_Links_traffic : NoForce (sHeld 0) (linkSrc 7) 1 ∧ (let k := (sHeld 0).lk 7
    (k.nextTx - 1 - k.acked).toNat = 2 ∧ ((ackFrame 1 0).ackseq - k.acked).toNat = 1
    ∧ (∀ v, v < 4 → ((ackFrame 1 0).credit.getD v 0 - k.limit.getD v 0).toNat < 0x8000)
    ∧ 2 < ((ackFrame 1 5).ackseq - k.acked).toNat ∧ 0x8000 ≤ (k.acked - (ackFrame 1 5).ackseq).toNat
    ∧ 0x8000 ≤ (({ ackFrame 1 0 with credit := [31] }).credit.getD 0 0 - k.limit.getD 0 0).toNat
    ∧ k.held.drop (k.held.length - k.replay) = [(1, { xh0 := 11 })])
    ∧ (let k : LinkSt := { limit := [32, 64, 64, 0], queue := [{ vl := 1, xh0 := 12 }] }
      k.replay = 0 ∧ (sLink 3 k).nextFrame 7 k = some { vl := 1, xh0 := 12 } ∧ (sLink 3).nextFrame 7 {} = none)
    ∧ ((sHeld 8).lk 7).replayRun = 8 ∧ ((sHeld 8).lk 7).owesAck = true := by
  refine ⟨?_, by decide +kernel⟩
  unfold NoForce; decide +kernel

theorem test_start_up : (ran (.portEnable .steward 7 1 0xFF) { sLink 0 with regs := [] }).lkState 7 = 1
    ∧ (ran (.trainingTimeout 7) (sLink 1)).rd (aLink 7 8) = 0x904 ∧ (ran (.holdoffExpiry 7) (sLink 4)).lkState 7 = 1
    ∧ (ran (.initTimeout 7) (sLink 2)).rf (aLink 7 8) 11 8 = 10
    ∧ (let t := ran (.linit 7 linitFrame) (sLink 2)
      t.rd (aLink 7 0x10) = 0x1234 ∧ (t.lk 7).peerNonce = some 0x55 ∧ t.out = [.frame 7 { ftype := 4, ackv := false, crv := false, body := .bytes (leBytes 4 0x55 ++ leBytes 4 0) }])
    ∧ (ran (.lack 7 { ftype := 4, body := .bytes (leBytes 4 9) }) (sLink 2 { nonce := 9, lackSent := true })).lkState 7 = 3 := by
  decide +kernel
theorem test_link_loss : (ran (.portDisable .steward 7 0 0xFF) (sLink 3)).rd (aLink 7 8) = 0x700
    ∧ (ran (.ldown 7 { ftype := 5, ackv := false, crv := false, body := .bytes [1] }) (sLink 3)).rf (aLink 7 8) 11 8 = 5
    ∧ (ran (.ackTimeout 7) (sHeld 0)).rf (aLink 7 8) 11 8 = 2 ∧ ((ran (.ackTimeout 7) (sHeld 0)).lk 7).held = []
    ∧ (ran (.pcsLockLoss 7) (sLink 3)).rf (aLink 7 8) 11 8 = 3 ∧ events (.pcsLockLoss 7) (sLink 3) = [(160, 0)] := by decide +kernel
theorem test_acks : let t := ran (.ack 7 (ackFrame 1 0)) (sHeld 3)
    (t.lk 7).held = [(1, { xh0 := 11 })] ∧ (t.lk 7).replayRun = 0 ∧ (ran (.ack 7 (ackFrame 1 5)) (sHeld 0)).rf (aLink 7 8) 11 8 = 4
    ∧ ((ran (.nak 7 (ackFrame 2 0)) (sHeld 3)).lk 7).replay = 1 ∧ ((ran (.nak 7 (ackFrame 2 0xFFFF)) (sHeld 3)).lk 7).replayRun = 4
    ∧ (ran (.nak 7 (ackFrame 2 0xFFFF)) (sHeld 8)).rf (aLink 7 8) 11 8 = 1 ∧ events (.nak 7 (ackFrame 2 0)) (sHeld 0) = [(160, 2)] := by
  decide +kernel
theorem test_transmit : (ran (.frameTransmit 7) (sHeld 0)).out = [.frame 7 { seq := 1, ackseq := 0xFFFF, credit := [0, 0, 0, 0], xh0 := 11 }]
    ∧ ((ran (.frameTransmit 7) (sLink 3 { limit := [32, 64, 64, 0], queue := [{ vl := 1, xh0 := 12 }] })).lk 7).consumed = [0, 1, 0, 0]
    ∧ ((ran (.replayTimer 7) (sHeld 3)).lk 7).replayRun = 4 ∧ (ran (.replayTimer 7) (sHeld 8)).lkState 7 = 4
    ∧ ((ran (.frameCheckFail 7) (sHeld 0)).lk 7).nakSent = true ∧ (ran (.ackDue 7) (sHeld 0)).out.length = 1
    ∧ (ran (.keepalive 7) (sLink 3)).out.length = 1 := by decide +kernel

/-! ## Exchanges -/

/-- Registers of the exchanges below: port 7 ACTIVE, group 5 of partition 1 holds it and accepts requests from outside. -/
def xchRegs : Tbl Word :=
  [(0x100408, 1), (aPart 1 8, 2), (aPart 1 0x10, 0x0C06000000100000), (aPart 1 0x50, 0x77), (aPart 1 0x20, 0x0000010000000010), (aPart 1 0x800, 0x201),
   (aXt 80, 7), (aXt 88, 0x24101), (aLink 7 0, 1), (aLink 7 8, 3)]
/-- Partition 1's exchange start queue 3 at 0x10000 of the partition holds one start; `t` are the entries in use. -/
def sXch (ws : List (Nat × TWord)) (t : Tbl XtEnt := []) : State :=
  { sPart 2 with
    regs := xchRegs
    mem := { words := (0x10000200, ⟨0, Tag.code⟩) :: ws.map fun w => (0x10002000 + w.1, w.2) }
    link := [(7, { limit := [32, 64, 64, 0] })]
    xchg := { queues := [(35, { mode := .active, base := 0x10000, log2 := 4, tail := 1 })], table := t }
    boot := { admission := true, opened := true, booting := false } }
/-- A MESSAGE of 8 bytes with room for a response of 32, source 0x80, sequence 7. -/
def msgWords (ty : Word) : List (Nat × TWord) :=
  [(0, u (0x50000 + ty)), (1, ⟨0x0280000000000007, Tag.receipt⟩), (4, ⟨0x4000, Tag.pointer⟩), (5, u 8), (6, ⟨0x5000, Tag.pointer⟩), (7, u 32)]
/-- Exchange 9 in progress. -/
def xt9 (st : XtSt) : XtEnt :=
  { state := st, xtype := 3, ctx := 1, port := 7, group := 5, queue := 3, receipt := 0x0280000000000007, inAddr := 0x5000, inLen := 32
    outAddr := 0x4000, outLen := 8, deadline := some 10, noEvent := true }
/-- The state in which it is in progress: its start has been fetched; now is 20. -/
def sX (e : XtEnt) : State :=
  { sXch [] [(9, e)] with
    nowStage := 20
    xchg := { queues := [(35, { mode := .active, base := 0x10000, log2 := 4, head := 1, tail := 1, outstanding := 1 })], table := [(9, e)] } }
/-- A DATA frame of the exchange layer on VL 1. -/
def xFrame (h : Word) (b : Bytes) : Frame :=
  { vl := 1, ackv := false, crv := false, xh0 := 0x0280000000000007, xh1 := h, body := .bytes b }

theorem witness_ExchangeStarts : (sXch (msgWords 3)).pqFetchOk .xch 1 3 = true ∧ (sXch (msgWords 3)).admits = true
    ∧ ((sXch (msgWords 3)).xt 9).state = .free ∧ (sXch (msgWords 3)).admitXt 1 = true ∧ RingRoom (sXch (msgWords 3)) .xch 1 3
    ∧ (∀ y ∈ (sXch (msgWords 3)).xchg.table, y.2.attachedTo ≠ some 9 ∧ y.2.cancelOf ≠ some 9)
    ∧ (let s := sXch (msgWords 3)
      fld (s.pgCfg 5) 7 0 ≠ 0 ∧ s.pgOwner 5 = 1 ∧ s.mapped 1 0x4000 8 = true ∧ s.mapped 1 0x5000 32 = true ∧ disjoint 0x4000 8 0x5000 32 = true
      ∧ s.noTags 1 0x4000 8 [Tag.sealedW, Tag.poison] = true ∧ s.noTags 1 0x5000 32 [Tag.sealedW, Tag.code, Tag.poison] = true
      ∧ s.openReceipt 1 0x0280000000000007 9 = none ∧ s.newPort 5 9 = some 7)
    ∧ (sXch (msgWords 3) [(4, xt9 .issued)]).openReceipt 1 0x0280000000000007 9 = some 4
    ∧ ({ sXch (msgWords 3) with regs := xchRegs.filter fun r => r.1 ≠ aLink 7 8 }).newPort 5 9 = none := by
  refine ⟨by decide +kernel, by decide +kernel, by decide +kernel, by decide +kernel, ?_, by decide +kernel⟩
  unfold RingRoom; decide +kernel
theorem witness_ExchangeStarts_progress : (let s := sX (xt9 .issued); let e := s.xt 9
    e.inbound = false ∧ e.ctx ≠ 0 ∧ e.attachedTo = none ∧ e.deadline = some 10 ∧ (10 : Word).toNat < s.time.toNat
    ∧ s.nextPort 5 7 = some 7 ∧ fld (s.pgCfg 5) 19 16 = 2)
    ∧ (let s := sX (xt9 .pathWait); s.nextPort 5 7 = some 7 ∧ s.pgUsable 5 ≠ [] ∧ (s.xt 9).wait = false)
    ∧ (let s := sX (xt9 .issued); let fr := xFrame 0x900A3 (List.replicate 16 0)
      s.takeAck 7 fr = some s ∧ fr.seq = (s.lk 7).nextRx ∧ frRole fr = 2 ∧ frLast fr = true ∧ frXid fr = 9 ∧ frOffset fr = 0 ∧ fr.vl < 3
      ∧ s.lkState 7 = 3 ∧ s.pqLive .xch 1 3 = true)
    ∧ frRole (xFrame 0x0000000000090033 []) = 3 ∧ frLast (xFrame 0x0000000000090033 []) = false := by decide +kernel

theorem test_start_message : let t := ran (.xstartMessage 1 3 9) (sXch (msgWords 3))
    (t.xt 9).state = .issued ∧ (t.xt 9).port = 7 ∧ (t.lk 7).queue.length = 1 ∧ (t.pq .xch 1 3).head = 1
    ∧ ((t.lk 7).queue.map (·.xh1)) = [0x90083]
    ∧ (ran (.xstartRead 1 3 9) (sXch (msgWords 3))).xchg.table = [] := by decide +kernel
theorem test_start_refused : (ran (.xstartRead 1 3 9) (sXch (msgWords 0))).mem.words.get {} (0x10002000 + 128 + 3) = u 0x80110000
    ∧ (ran (.xstartInvalidXtype 1 3 9) (sXch (msgWords 6))).mem.words.get {} (0x10002000 + 128 + 3) = u 0x80110000
    ∧ ((ran (.xstartMessage 1 3 9) (sXch (msgWords 3) [(4, xt9 .issued)])).xt 9).attachedTo = some 4
    ∧ ((ran (.xstartMessage 1 3 9) ({ sXch (msgWords 3) with regs := xchRegs.filter fun r => r.1 ≠ aLink 7 8 })).xt 9).state = .pathWait := by
  decide +kernel
theorem test_timeout_exchange : let t := ran (.exchangeTimeout 9) (sX (xt9 .issued))
    (t.xt 9).attempt = 1 ∧ (t.xt 9).rounds = 1 ∧ (t.xt 9).redrives = 1 ∧ events (.exchangeTimeout 9) (sX (xt9 .issued)) = [(104, 3), (104, 4)]
    ∧ ((ran (.exchangeTimeout 9) (sX { xt9 .issued with rounds := 1 })).xt 9).state = .pathWait
    ∧ ((ran (.waitRetry 9) (sX (xt9 .pathWait))).xt 9).state = .issued := by decide +kernel
/-- A complete response: RESULT 0x99, 4 bytes. -/
def rsp4 : Bytes := leBytes 8 0x99 ++ leBytes 4 4 ++ [0, 0, 0, 0] ++ [1, 2, 3, 4]
theorem test_response_frame : let t := ran (.rspFrame 7 (xFrame 0x900A3 rsp4)) (sX (xt9 .issued))
    (t.xt 9).state = .free ∧ t.mem.words.get {} 0x10000A00 = u 0x04030201 ∧ t.mem.words.get {} (0x10002000 + 128 + 1) = u 0x99
    ∧ (t.lk 7).nextRx = 1 ∧ events (.rspFrame 7 (xFrame 0x800A3 rsp4)) (sX (xt9 .issued)) = [(104, 6)] := by decide +kernel

/-- Port 7 belongs to a member module. -/
def sPeer (st : Word) : State :=
  { sXch [] with regs := xchRegs.map (fun r => if r.1 = aPart 1 8 then (r.1, st) else r) ++ [(aLink 7 0x30, 0x200000000)] }
/-- A request of a peer of domain 0x55 for partition 1, with the type, role 0, and LAST as the word `h` says. -/
def reqFrame (h : Word) (a len : Nat) (d : Bytes) : Frame :=
  xFrame h (leBytes 8 0x55 ++ leBytes 8 a ++ leBytes 4 len ++ leBytes 4 0 ++ leBytes 8 0xBEEF ++ d)

theorem witness_InboundRequests : (sPeer 2).lkState 7 = 3 ∧ NoForce (sPeer 2) (linkSrc 7) 1
    ∧ (sPeer 2).takeAck 7 (reqFrame 0x90083 1 4 [1, 2, 3, 4]) = some (sPeer 2)
    ∧ (reqFrame 0x90083 1 4 [1, 2, 3, 4]).seq = ((sPeer 2).lk 7).nextRx ∧ (sPeer 2).mayStage = true
    ∧ (sPeer 2).modulePeer 7 = true ∧ (sXch []).modulePeer 7 = false ∧ (sPeer 2).acceptIn 1 7 = true
    ∧ (sPeer 2).importing 1 = false ∧ (sPeer 6).importing 1 = true ∧ migFormOk 1 0x0104000000000000 136 = true
    ∧ migKind 0x0104000000000000 = 1 ∧ migPart 0x0104000000000000 = 1 ∧ migFormOk 2 0x0204000000000000 64 = true
    ∧ (sPeer 6).mapped 1 0 128 = true ∧ (((sPeer 2).openPwin 1 0x55 0x80).map fun w => w.2.pAnswer w.1 0x0280000000000007) = some .fresh
    ∧ (((sPeer 2).openPwin 1 0x55 0x80).map fun w => w.2.admitInbound 1 && w.2.slotFree 1 0 && w.2.admits) = some true
    ∧ (((sPeer 6).openPwin 0 0x55 0x80).map fun w => w.2.admitXt 0) = some true := by
  refine ⟨by decide +kernel, ?_, by decide +kernel⟩
  unfold NoForce; decide +kernel
/-- Partition 1 has answers in its peer window: sequence 7 is done, and sequence 8 open in entry 9; Receipts below 1,000 are gone. -/
def sPwin : State :=
  { sPeer 2 with xchg := { pwins := [(1, [{ domain := 0x55, source := 0x80, high := 5096
                                            outs := [(7, .done 0x22 0x22 0x99 false false 0), (8, .pending 9)] }])],
                           table := [(9, { xt9 .data with inbound := true, domain := 0x55, receipt := 0x0280000000000008, peerXid := 3, got := 4
                                                          reqLen := 8, outAddr := 0 })] } }
theorem witness_InboundRequests_windows : sPwin.pAnswer ((sPwin.pwin 1 0x55 0x80).getD {}) 0x0280000000000007 = .stale
    ∧ (let w : PWin := { (sPwin.pwin 1 0x55 0x80).getD {} with high := 9 }
      sPwin.pAnswer w 0x0280000000000007 = .replay 0x22 0x99 ∧ sPwin.pAnswer w 0x0280000000000008 = .attach 9)
    ∧ sPwin.inHolding 0x55 0x0280000000000008 = some 9 ∧ sPwin.inHolding 0x55 7 = none ∧ sPwin.pOutcome 0x55 0x0280000000000007 = some (0x22, 0x99)
    ∧ sPwin.pOutcome 0x55 5 = none ∧ sPwin.inEntry 7 { xFrame 0x400000393 [] with xh0 := 0x0280000000000008 } = none
    ∧ sPwin.inEntry 7 { xFrame 0x30093 [] with xh0 := 0x0280000000000008 } = some 9 := by decide +kernel

theorem test_inbound_message : let t := ran (.inboundMessage 7 (reqFrame 0x90083 1 4 [1, 2, 3, 4]) 9 0) (sPeer 2)
    (t.xt 9).state = .acked ∧ (t.xt 9).inbound = true ∧ (t.inbox 1).order = [0] ∧ (t.lk 7).nextRx = 1
    ∧ t.mem.words.get {} 0x10020002 = u 0xBEEF ∧ t.mem.words.get {} 0x10020200 = u 0x04030201 := by decide +kernel
theorem test_inbound_answers : (((ran (.inboundProbe 7 (reqFrame 0x90085 0 0 [])) (sPeer 2)).lk 7).queue.map (·.xh1)) = [0x900A5]
    ∧ (((ran (.inboundRead 7 (reqFrame 0x90080 0 0 [])) (sXch [])).lk 7).queue.map (·.xh1)) = [0x912A0]
    ∧ (((ran (.inboundMessage 7 (reqFrame 0x90083 0 4 [1, 2, 3, 4]) 9 0) (sPeer 2)).lk 7).queue.map (·.xh1)) = [0x911A3]
    ∧ (((ran (.inboundMessage 7 (reqFrame 0x90083 1 4 [1, 2, 3, 4]) 9 0) (sPeer 4)).lk 7).queue.map (·.xh1)) = [0x970A3]
    ∧ (((ran (.inboundCancel 7 (reqFrame 0x90084 0x0280000000000007 0 [])) sPwin).lk 7).queue.map (·.xh1)) = [0x901A4]
    ∧ events (.reqDataFrame 7 (xFrame 0x90093 [])) (sPeer 2) = [(104, 6)] := by decide +kernel

/-! ## Duplex operation -/

/-- A module in a duplex state with the other bits of DPX_STATUS given, DUPLEX and SIDEBAND set, lane 0 ACTIVE with the partner
0x1234, and now 40,000. -/
def sDpx (status : Word) (d : DpxSt := {}) : State :=
  { regs := [(aDpx 0, 5), (aDpx 0x10, status), (aDpx 0x18, 0x1234), (aLink 256 0, 1), (aLink 256 8, 3), (aLink 256 0x10, 0x1234),
      (aLink 256 0x30, 0x200000000), (0x204020, 0)]
    link := [(256, { limit := [32, 0, 0, 128] })], dpx := d, pwr := { powered := true }, nowStage := 40000
    boot := { booting := false }, jrn := { ring := [{ r := { jsn := 3, kind := 1 }, written := true }, { r := { jsn := 4, kind := 1 } }] } }
/-- A sideband word of the partner. -/
def sideOf (ty : Byte) (reason : Nat) : BitVec 72 := sideWord ty 2 reason 1 0x1234

theorem witness_DuplexStates : (sDpx 0).dpxState = 0 ∧ (sDpx 0).rb (aDpx 0) 0 = true ∧ (sDpx 0).courierUp = true
    ∧ (sDpx 0).activeLanes.head? = some 256 ∧ (sDpx 1).dpxState = 1 ∧ (sDpx 0).lanternStopped = false ∧ (sDpx 0).pwr.powered = true
    ∧ [256 + 0, 257 + 0, 258 + 0, 259 + 0].find? (sDpx 0).linkActive = some 256 ∧ (sDpx 0).rb (aDpx 0) 2 = true
    ∧ ({ sDpx 0 with regs := [(0x204020, 2)] }).lanternStopped = true
    ∧ (let b := leBytes 9 (sideOf 0x47 2).toNat
      ofLe (slice b 4 4) = (sDpx 0).partnerId.toNat % 2 ^ 32 ∧ crc8 (b.take 8) = b.getD 8 0 ∧ b.getD 0 0 = 0x47)
    ∧ (let b := leBytes 9 (sideOf 0x48 0 + 1).toNat; crc8 (b.take 8) ≠ b.getD 8 0)
    ∧ (sDpx 3).dpxState = 3 ∧ (sDpx 0x43).rb (aDpx 0x10) 6 = true ∧ (sDpx 3).rb (aDpx 0) 1 = false
    ∧ (sDpx 2).since 0 = 40000 ∧ (sDpx 2 { courierAt := 1 }).since 1 < 40000 ∧ 24000 ≤ (sDpx 2).since 0
    ∧ (sDpx 0x38).rb (aDpx 0x10) 3 = true ∧ (sDpx 0x3A).rb (aDpx 0x10) 4 = true ∧ (sDpx 0x3A).rb (aDpx 0x10) 5 = true
    ∧ (sDpx 6).dpxState = 6 ∧ (sDpx 4).dpxState = 4 ∧ (sDpx 5).dpxState = 5
    ∧ (sDpx 3 { role := some false, theta := 5 }).dpx.role = some false := by decide +kernel
theorem witness_DuplexStates_write : Accepts (sDpx 4) .steward (aDpx 8) ∧ Accepts (sDpx 2) .steward (aDpx 8) :=
  ⟨⟨rfl, rfl, by decide +kernel, rfl, by decide +kernel⟩, ⟨rfl, rfl, by decide +kernel, rfl, by decide +kernel⟩⟩

theorem test_forming : (ran .duplexForming (sDpx 0)).dpxState = 1 ∧ ((ran .duplexForming (sDpx 0)).lk 256).queue.length = 1
    ∧ (ran .duplexForming (sDpx 2)).dpxState = 2 ∧ ((ran .helloTimer (sDpx 1)).lk 256).queue.length = 1
    ∧ (ran .heartbeatTimer (sDpx 2)).dpx.hbSeq = 1 := by decide +kernel
theorem test_sideband : (ran (.sidebandWord (sideOf 0x48 0)) (sDpx 3)).rb (aDpx 0x10) 5 = true
    ∧ (ran (.sidebandWord (sideOf 0x47 2)) (sDpx 0x43)).dpxState = 5 ∧ (ran (.sidebandWord (sideOf 0x47 2)) (sDpx 3)).dpxState = 6
    ∧ events (.sidebandWord (sideOf 0x48 0 + 1)) (sDpx 3) = [(195, 2)] := by decide +kernel
theorem test_silence : (ran (.pathSilent true) (sDpx 0x32 { sideAt := 39999 })).rd (aDpx 0x10) = 0x2A
    ∧ (ran (.pathSilent true) (sDpx 0x33 { sideAt := 39999 })).rb (aDpx 0x10) 6 = true
    ∧ (ran (.pathSilent true) (sDpx 0x33 { courierAt := 1 })).rd (aDpx 0x10) = 0x33
    ∧ (ran .selfFence (sDpx 2)).dpxState = 4 ∧ (ran .selfFence (sDpx 2)).rd (aDpx 0x48) = 3 ∧ (ran .selfFence (sDpx 2)).rd (aDpx 0x50) = 4
    ∧ (ran .selfFence (sDpx 2 { courierAt := 16001 })).dpxState = 2 := by decide +kernel
theorem test_partner_loss : (ran .partnerLoss (sDpx 3)).dpxState = 6 ∧ (ran .partnerLoss (sDpx 0x43)).dpxState = 5
    ∧ (ran .partnerLoss (sDpx 1 { role := some true })).dpxState = 0 ∧ (ran .partnerLoss (sDpx 2)).dpxState = 2
    ∧ (ran .promotionComplete (sDpx 0x700000006)).tgen = 8 ∧ (ran .timeSlew (sDpx 3 { role := some false, theta := 5 })).dpx.theta = 4 := by
  decide +kernel
theorem test_duplex_control : (ran (.confirmAlone .steward 1 0xFF) (sDpx 4)).dpxState = 0 ∧ (ran (.confirmAlone .steward 1 0xFF) (sDpx 0x84)).dpxState = 4
    ∧ (ran (.confirmAlone .steward 1 0xFF) (sDpx 5)).dpxState = 6 ∧ (ran (.handover .steward 2 0xFF) (sDpx 2 { held := [{}] })).dpx.handover = true := by
  decide +kernel

/-- A Courier frame on VL 0 with an item. -/
def cFrame (i : CItem) (vl : Nat := 0) : Frame := { vl := vl, ackv := false, crv := false, body := .item i }
/-- A heartbeat of the partner. -/
def beatOf (state : Nat) (tg : BitVec 32) : Frame := cFrame { tgen := tg, body := .heartbeat { state := state } }

theorem witness_CourierItems : (sDpx 3).lkState 256 = 3 ∧ NoForce (sDpx 3) (linkSrc 256) 1 ∧ (sDpx 3).takeAck 256 (cFrame {}) = some (sDpx 3)
    ∧ (cFrame {}).seq = ((sDpx 3).lk 256).nextRx ∧ (sDpx 3).fromPartner 256 = true
    ∧ (sDpx 1).partnerId = 0x1234 ∧ (sDpx 1).holdsNow = false ∧ (sDpx 4).rb (aDpx 0x10) 7 = false ∧ (sDpx 4).tgen = 0
    ∧ (sDpx 0x10).rb (aDpx 0x10) 4 = true ∧ ((sDpx 2).rd (aDpx 0x38)).toNat = 0
    ∧ (({ sDpx 2 with regs := (aDpx 0x30, 9) :: (sDpx 2).regs }).rd (aDpx 0x30)).toNat = 9
    ∧ (sDpx 3).dpx.ahead = [] ∧ (sDpx 3).itemFits (.journal {}) = true ∧ ({ sDpx 3 with regs := [] }).fromPartner 256 = true
    ∧ ({ sDpx 3 with regs := [(aDpx 0x18, 7)] }).fromPartner 256 = false
    ∧ ((sDpx 3).mb .partnerIn).state ≠ .posted
    ∧ (({ sDpx 3 with host := { mbox := [(mbKey .partnerIn, { state := .posted })] } }).mb .partnerIn).state = .posted := by
  refine ⟨by decide +kernel, ?_, by decide +kernel⟩
  unfold NoForce; decide +kernel

theorem test_hello : let t := ran (.hello 0 (cFrame { tgen := 3, body := .hello { ident := 0x1234, holds := true } })) (sDpx 1)
    t.dpx.role = some false ∧ t.tgen = 3 ∧ t.dpx.pairKey = true
    ∧ events (.hello 0 (cFrame { body := .hello { ident := 0x99 } })) (sDpx 1) = [(199, 1)] := by decide +kernel
theorem test_heartbeat : (ran (.heartbeat 0 (beatOf 3 0)) (sDpx 4)).dpxState = 2 ∧ (ran (.heartbeat 0 (beatOf 2 1)) (sDpx 0x14)).rb (aDpx 0x10) 7 = true
    ∧ (ran (.heartbeat 0 (beatOf 2 0)) (sDpx 5 { resynced := true })).dpxState = 3
    ∧ (ran (.heartbeat 0 (beatOf 2 0)) (sDpx 0x45 { resynced := true })).dpxState = 1
    ∧ (ran (.goodbye 0 (cFrame { body := .goodbye 2 })) (sDpx 3)).dpxState = 6 ∧ (ran (.goodbye 0 (cFrame { body := .goodbye 2 })) (sDpx 2)).dpxState = 0 := by
  decide +kernel
theorem test_mirror : let t := ran (.journalItem 0 (cFrame { body := .journal { jsn := 8, kind := 1, window := 1, context := 1, receipt := 0x0203000000000007, result := 0x99 } } 3)) (sDpx 3)
    t.rd (aDpx 0x38) = 1 ∧ (t.dpx.mirror.map fun e => e.r.jsn) = [8] ∧ (t.win 1 3).high = 8
    ∧ (ran (.vaultItem 0 (cFrame { msn := 1, body := .vault 1 5 none } 3)) (sDpx 3)).dpx.ahead.length = 1
    ∧ (ran (.snapshotEnd 0 (cFrame {} 3)) (sDpx 0x43)).rb (aDpx 0x10) 6 = false
    ∧ (ran (.mirrorAck 0 (cFrame { body := .mirrorAck 5 })) { sDpx 2 with regs := (aDpx 0x30, 9) :: (sDpx 2).regs }).rd (aDpx 0x38) = 5 := by
  decide +kernel

/-! ## Faults -/

/-- Source 98 (two events, event 0 in class …) armed at tick 0 with the THRESH and ACT words given. -/
def sFlt (thresh act : Word) : State :=
  { regs := [(aFlt 98 0x18, thresh), (aFlt 98 0x20, 20), (aFlt 98 0x28, act)], pwr := { powered := true }, nowStage := 50
    boot := { booting := false }, flt := { armed := true } }
/-- An event of source 98. -/
def ev98 : FltEv := { src := 98, ev := 0, tick := 50 }

theorem witness_FaultCounting : ev98.ev < 16 ∧ ev98.src < 256 ∧ fltReserved ev98.src = false ∧ (sFlt 0x200 0x101).fltAbsent 98 = false
    ∧ (sFlt 0x200 0x101).fltArmed 98 = true ∧ ({} : State).fltArmed 98 = false
    ∧ fltClass 98 0 ≠ .informational ∧ (sFlt 0x200 0x101).rb (aFlt 98 8) 0 = false
    ∧ ({ sFlt 0x200 0x101 with regs := (aFlt 98 8, 1) :: (sFlt 0x200 0x101).regs }).rb (aFlt 98 8) 0 = true
    ∧ (sFlt 0x200 0x101).rf (aFlt 98 0x28) 4 0 = 1 ∧ (sFlt 0x200 0x1000).rf (aFlt 98 0x28) 12 8 = 16
    ∧ (sFlt 0x100 0x800).rf (aFlt 98 0x18) 15 8 = 1 ∧ (sFlt 0x200 0).hibernating = false ∧ (48 : Nat) ≤ ev98.src := by decide +kernel

theorem test_counting : ((sFlt 0x200 0x101).takeEvent ev98).rf (aFlt 98 0x18) 7 0 = 1 ∧ ((sFlt 0x200 0x101).takeEvent ev98).out = [.stewardInt 98 0]
    ∧ (((sFlt 0x200 0).takeEvent ev98).takeEvent ev98).rf (aFlt 98 0x18) 7 0 = 2
    ∧ ((sFlt 0x1FF 0x1001).takeEvent ev98).lanternStopped = true ∧ ((sFlt 0x1FF 0x1001).takeEvent ev98).rf (aFlt 98 0x18) 7 0 = 255
    ∧ ((sFlt 0x100 0x800).takeEvent ev98).flt.reset = some (4, 98) ∧ ({ flt := { early := [] } } : State).takeEvent ev98 = { flt := { early := [ev98] } } := by
  decide +kernel

theorem witness_FaultSources : ¬ (fltEvents 97 ≤ 0 ∨ (sFlt 0 0).fltSilent 97 = true) ∧ ¬ (fltEvents 50 ≤ 2 ∨ (sFlt 0 0).fltSilent 50 = true)
    ∧ (sFlt 0 0).coh.lost = false ∧ (sFlt 0 0).flt.reset = none ∧ ¬ (fltEvents 132 ≤ 0 ∨ (sFlt 0 0).fltSilent 132 = true)
    ∧ ¬ (fltEvents 198 ≤ 0 ∨ (sDpx 2).fltSilent 198 = true) ∧ ¬ (fltEvents 216 ≤ 0 ∨ (sFlt 0 0).fltSilent 216 = true)
    ∧ (sFlt 0 0).noSag = false ∧ (sFlt 0 0).mayRemove = false ∧ (sFlt 0 0).holdup ≠ 3 ∧ ¬ (fltEvents 224 ≤ 0 ∨ (sFlt 0 0).fltSilent 224 = true)
    ∧ forceWaits 98 0 = true ∧ (0 : Nat) < fltEvents 98 ∧ Accepts (sFlt 0 0) .steward (aFlt 98 0x10) ∧ Accepts (sFlt 0 0) .steward (aFlt 255 0x10)
    ∧ Accepts (sFlt 0 0) .steward (aFlt 98 0x20) ∧ Accepts (sFlt 0 0) .steward (aFlt 98 0) ∧ Accepts (sFlt 0 0) .steward 0x204028
    ∧ Accepts (sFlt 0 0) .steward 0x70 := by
  refine ⟨by decide +kernel, by decide +kernel, rfl, rfl, by decide +kernel, by decide +kernel, by decide +kernel,
    by decide +kernel, by decide +kernel, by decide +kernel, by decide +kernel, by decide +kernel, by decide +kernel, ?_, ?_, ?_, ?_, ?_, ?_⟩
  all_goals exact ⟨rfl, rfl, by decide +kernel, rfl, by decide +kernel⟩
/-- The Steward watchdog is on, with the period given; LANTERN is driven. -/
def sDog (log2 : Word) : State :=
  { regs := [(0x204028, log2 * 256 + 2), (0x204020, 1)], pwr := { powered := true }, nowStage := 0x100000, boot := { booting := false } }
theorem witness_FaultSources_watchdog : (sDog 20).rb 0x204028 1 = true ∧ 2 ^ (sDog 20).rf 0x204028 12 8 ≤ ((sDog 20).time - 0).toNat
    ∧ ((sDog 21).time - 0).toNat < 2 ^ (sDog 21).rf 0x204028 12 8 ∧ (sDog 20).rb 0x204020 0 = true ∧ (sDog 20).lanternStopped = false := by decide +kernel

theorem test_sources : (ran (.faultEvent 50 2) (sFlt 0 0)).flt.reset = some (5, 50)
    ∧ (ran (.faultEvent 198 0) (sDpx 2)).dpxState = 4 ∧ (ran (.faultEvent 98 9) (sFlt 0 0)).flt = (sFlt 0 0).flt
    ∧ (ran (.fltForce .steward 98 1 0xFF) (sFlt 0 0)).rb (aFlt 98 0x10) 0 = true := by decide +kernel
theorem test_fault_registers : (ran (.fltWindowWrite .steward 98 12 0xFF) (sFlt 7 0)).rd (aFlt 98 0x18) = 0
    ∧ (ran (.fltWindowWrite .steward 98 8 0xFF) (sFlt 7 0)).rf (aFlt 98 0x20) 4 0 = 20
    ∧ (ran (.kick .steward 1 0xFF) (sDog 20)).flt.kicked = 0x100000 ∧ events .wdtExpired (sDog 20) = [(248, 0)] ∧ events .wdtExpired (sDog 21) = []
    ∧ (ran .lanternToggle (sDog 20)).pwr.lantern = true := by decide +kernel

/-! ## Power -/

/-- Supplies: PWR_STATUS, HOLDUP and the state of the power unit; admission may depend on HIB_READY; now is 500,000. -/
def sPwr (st hold : Word) (p : PwrSt := {}) : State :=
  { regs := [(aClk 0x800, st), (aClk 0x820, hold)], pwr := p, nowStage := 500000, boot := { booting := false } }
/-- Word of PWR_STATUS: VAUX and VIN good, soft start done. -/
def good : Word := 7
/-- The charger's state in it. -/
def hu (n : Word) : Word := n * 8

theorem witness_PowerSupplies : (sPwr 0 0).rb (aClk 0x800) 0 = false ∧ (sPwr 3 0).rb (aClk 0x800) 1 = true ∧ (sPwr 3 0).rb (aClk 0x800) 2 = false
    ∧ (sPwr (good + hu 1) 0).holdup = 1 ∧ (sPwr (good + hu 1) 0xAFC800000000).rf (aClk 0x820) 47 32 = 45000
    ∧ (sPwr (good + hu 1) 0).hibernating = false ∧ (sPwr (good + hu 2) 0).holdup = 2 ∧ (sPwr (good + 32) 0).rb (aClk 0x800) 5 = true
    ∧ (sPwr good 0).noSag = false ∧ (sPwr good 0).mayRemove = false ∧ (sPwr (good + 512) 0).noSag = false
    ∧ (sPwr (good + 512) 0).mayRemove = true ∧ (sPwr good 0 { powered := false }).noSag = true ∧ (sPwr good 0).boot.opened = false
    ∧ (sPwr good 0).rb (aClk 0x808) 10 = true ∧ (sPwr good 0 { phase := .stopped, cause := 1, stopTick := 100000 }).hibernating = true := by
  decide +kernel
theorem test_supplies : (ran .vauxGood (sPwr 0 0)).rd (aClk 0x800) = 1 ∧ (ran .vinGood (sPwr 1 0)).rd (aClk 0x800) = 3
    ∧ (ran .vinGood (sPwr 0 0)).rd (aClk 0x800) = 0
    ∧ (let t := ran (.softstartDone 9999) (sPwr 3 0); t.holdup = 1 ∧ t.pwr.measuring = true ∧ t.rf (aClk 0x820) 15 0 = 9999)
    ∧ (let t := ran (.softstartDone 10000) (sPwr 3 0x13880000); t.holdup = 1 ∧ t.rf (aClk 0x820) 47 32 = 52535)
    ∧ (let t := ran (.softstartDone 10000) (sPwr 3 0); t.holdup = 0 ∧ t.pwr.bleeder = true) := by decide +kernel
theorem test_holdup : (let t := ran (.holdupMeasured 21333334) (sPwr (good + hu 1) 0 { measuring := true }); t.rf (aClk 0x820) 31 16 = 4000 ∧ t.holdup = 1)
    ∧ (ran (.holdupMeasured 1) (sPwr (good + hu 1) 0 { measuring := true })).holdup = 3
    ∧ events (.holdupMeasured 1) (sPwr (good + hu 1) 0 { measuring := true }) = [(217, 1)]
    ∧ (ran .hibReady (sPwr (good + hu 1) 0xAFC800000000)).rb (aClk 0x800) 5 = true
    ∧ (ran .hibReady (sPwr (good + hu 1) 0xAFC700000000)).rb (aClk 0x800) 5 = false
    ∧ (ran .holdupTarget (sPwr (good + hu 1 + 32) 0xAFC800000000)).holdup = 2
    ∧ (ran (.holdupLow 44999) (sPwr (good + hu 2 + 32) 0)).rb (aClk 0x800) 5 = false
    ∧ (ran .holdupShort (sPwr (good + hu 2) 0)).holdup = 3
    ∧ events .vinLow (sPwr good 0) = [(218, 1)] ∧ events .vinHigh (sPwr good 0) = [(218, 0)] ∧ events .vauxLow (sPwr good 0) = [(220, 0)] := by
  decide +kernel

/-- Readings: 40 °C, with sensor 0 at `t`. -/
def temps (t : Nat) : List (BitVec 8) := BitVec.ofNat 8 t :: List.replicate 31 40
theorem witness_PowerUnits : (sPwr good 0).pwr.powered = true ∧ (sPwr good 0).rf (aClk 0x828) 15 8 = 100 ∧ (sPwr good 0).rf (aClk 0x828) 23 16 = 110
    ∧ (∀ i, i < 32 → ¬ ((110 : Int) ≤ (((sPwr good 0).readings (temps 109)).getD i 0).toInt))
    ∧ (110 : Int) ≤ (((sPwr good 0).readings (temps 110)).getD 0 0).toInt
    ∧ (sPwr good 0).pwr.drain = .none ∧ (sPwr good 0).dpxState = 0 ∧ Accepts (sPwr good 0) .steward (aClk 0x810)
    ∧ (sPwr good 0 { drain := .draining }).quiet = true ∧ (1 : Nat) ∉ (sPwr good 0).pwr.railOff := by
  refine ⟨by decide +kernel, by decide +kernel, by decide +kernel, by decide +kernel, by decide +kernel, by decide +kernel,
    by decide +kernel, ⟨rfl, rfl, by decide +kernel, rfl, by decide +kernel⟩, by decide +kernel, by decide +kernel⟩
theorem test_units : (ran (.powerPeriod 54000 14000 791) (sPwr good 0)).rd (aClk 0x818) = 0x0317031736B0D2F0
    ∧ (ran (.powerPeriod 54000 14000 791) (sPwr good 0)).rf (aClk 0x800) 7 6 = 1 ∧ events (.powerPeriod 54000 14000 791) (sPwr good 0) = [(219, 0)]
    ∧ (ran (.thermalSample (temps 100)) (sPwr good 0)).rf (aClk 0x800) 7 6 = 1 ∧ (ran (.thermalSample (temps 105)) (sPwr good 0)).rf (aClk 0x800) 7 6 = 2
    ∧ (ran (.thermalSample (temps 98)) (sPwr good 0 { levels := [(0, 1)] })).rf (aClk 0x800) 7 6 = 1
    ∧ (ran (.thermalSample (temps 97)) (sPwr good 0 { levels := [(0, 1)] })).rf (aClk 0x800) 7 6 = 0
    ∧ (ran (.thermalSample (temps 110)) (sPwr good 0)).pwr.phase = .stopped
    ∧ (ran .attn (sPwr good 0)).rf (aClk 0x800) 9 8 = 1 ∧ (ran (.removeDrainEnd false) (sPwr (good + 256) 0 { drain := .draining })).rf (aClk 0x800) 9 8 = 2
    ∧ events (.railFault 1) (sPwr good 0) = [(221, 0)] := by decide +kernel

/-- A power unit in a phase of the Hibernate sequence. -/
def sHib (p : HibPhase) (cause : Nat := 1) : State :=
  { sPwr good 0 { phase := p, cause := cause, powered := p != .off } with boot := { booting := false, opened := true } }
theorem witness_Hibernate : (sPwr good 0).noSag = false ∧ (sPwr good 0).mayRemove = false ∧ (sPwr (good + 512) 0).mayRemove = true ∧ (sPwr (good + 512) 0).rb (aClk 0x800) 1 = true ∧ (sPwr good 0).holdup ≠ 3 ∧ (sPwr (good + hu 3) 0).holdup = 3 ∧ (sPwr good 0).dpxState ≠ 6
    ∧ (sPwr good 0 { powered := false }).noSag = true ∧ (sHib .stopped).pwr.phase = .stopped ∧ (sHib .stopped).boot.opened = true
    ∧ (sHib .sealed).pwr.phase = .sealed ∧ (sHib .off).pwr.cause ≠ 2 ∧ (sHib .off 2).pwr.cause = 2
    ∧ (∀ i, i < 13 → (((sHib .off 2).readings (temps 40)).getD (16 + i) 0).toInt < ((sHib .off 2).rf (aClk 0x828) 31 24 : Int))
    ∧ ((sHib .off 2).rf (aClk 0x828) 31 24 : Int) ≤ (((sHib .off 2).readings (List.replicate 32 85)).getD 16 0).toInt
    ∧ ({ sPwr good 0 with regs := [(aDpx 0x10, 6)] }).dpxState = 6 := by decide +kernel
theorem test_hibernate : (let t := ran (.sag .vin false) (sPwr good 0); t.pwr.phase = .stopped ∧ t.rf (aClk 0x800) 2 0 = 5 ∧ t.pwr.stopTick = 500000)
    ∧ (ran (.sag .vin false) (sPwr (good + hu 3) 0)).pwr.powered = false ∧ (ran (.sag .vin false) (sPwr (good + 512) 0)).pwr.powered = false
    ∧ events (.sag .sagN false) (sPwr (good + 512) 0) = [(216, 0)]
    ∧ (ran .hibernateRecordsWritten (sHib .stopped)).pwr.phase = .records ∧ (ran .hibernateSealWritten (sHib .records)).pwr.phase = .sealed
    ∧ (let t := ran (.hibernateImageWritten 100 5) (sHib .sealed)
      t.pwr.phase = .off ∧ t.rd (aClk 0x850) = 0x000500006419 ∧ (t.pwr.slotB.map (·.marker)) = some true)
    ∧ (ran .holdupCollapse (sHib .records)).pwr.phase = .off := by decide +kernel
theorem test_power_return : (ran (.vinReturnResume {}) (sHib .off 2)).pwr.powered = false
    ∧ (ran (.overtempResume (List.replicate 32 85) {}) (sHib .off 2)).pwr.powered = false := by decide +kernel

/-! ## Boot, reset and management -/

/-- Boot has completed `k` stages. -/
def sBoot (k : Word) : State := { regs := [(aClk 0x800, 7), (aClk 0x410, k)], pwr := { powered := true }, nowStage := 500 }
/-- An accepted firmware image of a revision. -/
def fw (rev : BitVec 32) : FwImage := { headerOk := true, part := (sBoot 0).partCode, rev := rev, sigsOk := true }
/-- PF0 has posted a recovery message. -/
def sRecover : State :=
  { sBoot 1 with boot := { recovering := true }, host := { mbox := [(0, { state := .posted, len := 24, msg := [(2, 1)] })] } }

theorem witness_Boot : (sBoot 0).rb (aClk 0x800) 2 = true ∧ (sBoot 0).rf (aClk 0x410) 3 0 = 0 ∧ (sBoot 0).boot.booting = true
    ∧ (sBoot 0).boot.recovering = false ∧ (sBoot 0).rb (aClk 0x410) 7 = false ∧ (sBoot 0).hibernating = false ∧ (sBoot 0).flt.reset = none
    ∧ (sBoot 4).rf (aClk 0x410) 3 0 + 1 = 5 ∧ (sBoot 0).dpx.mirror = [] ∧ (sBoot 0).dpx.partnerSeals = [] ∧ (sBoot 0).rb (aClk 0x408) 18 = false
    ∧ (sBoot 0).fwOk (some (fw 3)) = true ∧ (sBoot 0).fwOk none = false ∧ (sBoot 2).stagingUsed + 512 ≤ 0x3F0000
    ∧ (sBoot 2).ringUsed + 8 ≤ 520192 ∧ (sBoot 9).boot.savedParts = [] ∧ sRecover.boot.recovering = true
    ∧ (sRecover.mb (.pf 0)).state = .posted ∧ (sRecover.mb (.pf 0)).msg.get 0 2 &&& ~~~1 = 0 ∧ sRecover.fwHeaderOk (fw 3) = true
    ∧ fwRev sRecover.boot.bankB < fwRev (some (fw 3)) ∧ ({ ident := 1, marker := true } : HibImage).ident = (sBoot 7).fuse.ident := by decide +kernel
theorem test_boot_stages : (let t := ran (.bootStageDone 12 {}) { sBoot 0 with boot := { bankA := some (fw 3), bankB := some (fw 4) } }
      t.rd (aClk 0x410) = 0xC0021 ∧ t.rd 0x68 = 4 ∧ t.now = 0)
    ∧ (ran (.bootStageDone 12 {}) (sBoot 0)).rb (aClk 0x410) 7 = true
    ∧ (ran (.bootStageDone 1 {}) (sBoot 1)).rb 0x204020 0 = true ∧ (ran (.bootStageDone 1 {}) (sBoot 3)).rd (aClk 0) = 0xFFFFFFFF3C + (sBoot 3).rd (aClk 0) % 4
    ∧ (ran (.bootStageDone 1 { hbm1 := false }) (sBoot 4)).rf (aClk 0x410) 7 0 = 0x84 := by decide +kernel
theorem test_boot_end : (let t := ran (.bootStageDone 1 {}) { sBoot 8 with jrn := { seals := [{ epoch := 6, stop := 400 }] } }
      t.rd (aJrn 0x110) = 7 ∧ t.rd (aJrn 0x118) = 400 ∧ t.jrn.running = true)
    ∧ (ran (.bootStageDone 1 {}) (sBoot 9)).boot.admission = false
    ∧ (ran (.bootStageDone 1 {}) { sBoot 9 with regs := [(aClk 0x800, 0x27), (aClk 0x410, 9)] }).boot.admission = true
    ∧ ((ran (.recoveryMessage { image := some (fw 3) }) sRecover).mb (.pf 0)).ackStatus = 0
    ∧ (ran (.recoveryMessage { image := some (fw 3) }) sRecover).rd 0x68 = 3
    ∧ ((ran (.recoveryMessage {}) sRecover).mb (.pf 0)).ackStatus = St.hostReadFault := by decide +kernel

/-- A module reset for source 98 has begun. -/
def sReset : State :=
  { sBoot 10 with regs := [(aClk 0x800, 7), (aClk 0x410, 10), (aFlt 98 0, 5), (aFlt 98 0x18, 0x700000203), (0x204020, 3)]
                  boot := { booting := false, admission := true }, flt := { reset := some (4, 98) } }
/-- Pair 3 is being reset. -/
def sPair : State := { sBoot 10 with core := { resetting := [3] } }
theorem witness_ResetsAndManagement : sReset.flt.reset = some (4, 98) ∧ sReset.pwr.phase = .idle ∧ sReset.resetSealed = true
    ∧ Accepts (sBoot 10) .steward (aClk 0x400) ∧ (sBoot 10).pairPresent 3 = true ∧ (sBoot 10).rf (aPair 3 0) 1 0 = 0
    ∧ (sFrozen 2).rf (aPair 0 0) 1 0 = 1 ∧ (sFrozen 2).rf (aPair 0 0) 13 8 ≠ 0 ∧ (sFrozen 2).partState ((sFrozen 2).rf (aPair 0 0) 13 8) ≠ 4
    ∧ (3 : Nat) ∈ sPair.core.resetting ∧ (sPair.l2 3).miss = [] ∧ (∀ t ∈ (sPair.l2 3).lines, sPair.coh.txn.find t.1 = none)
    ∧ (sBoot 10).changeRoom = true ∧ (sBoot 10).reaches .steward = true ∧ ({ sBoot 10 with fuse := { small := true } }).absent (aPair 47 0) = true
    ∧ regFind 0x1FFFFF8 = none ∧ (sBoot 10).rb (aClk 0x808) 32 = false ∧ (sHost qp6).hostUp 1 = true ∧ (sHost qp6).fnHere 1 5 = true
    ∧ ((sHost { mode := .disabled }).qp 1 5 2).mode = .disabled := by
  refine ⟨rfl, rfl, by decide +kernel, ⟨rfl, rfl, by decide +kernel, rfl, by decide +kernel⟩, by decide +kernel⟩
theorem witness_FaultRegistersAtReset : sReset.flt.reset = some (4, 98) ∧ sReset.resetSealed = true ∧ sReset.pwr.powered = true
    ∧ (sBoot 0).rb (aClk 0x800) 0 = true ∧ (sHib .off).pwr.phase = .off ∧ (sHib .off).pwr.cause ≠ 2
    ∧ (∀ i, i < 13 → (((sHib .off 2).readings (temps 40)).getD (16 + i) 0).toInt < ((sHib .off 2).rf (aClk 0x828) 31 24 : Int)) := by decide +kernel
theorem test_module_reset : let t := ran (.moduleResetBegin {}) sReset
    t.rf (aClk 0x408) 15 0 = 0x6204 ∧ t.rd (aFlt 98 0) = 5 ∧ t.rd (aFlt 98 0x18) = 0x700000000 + regReset false (aFlt 98 0x18)
    ∧ t.rd 0x204020 = regReset false 0x204020 ∧ t.rf (aClk 0x410) 3 0 = 0 ∧ t.boot.booting = true := by decide +kernel
theorem test_reset_control : (ran (.moduleReset .steward 1 0xFF) (sBoot 10)).flt.reset = some (3, 0)
    ∧ (ran (.pairGo .steward 0x10300 0xFF) (sBoot 10)).core.resetting = [3] ∧ (ran (.pairResetDone 3) sPair).rf (aPair 3 8) 4 0 = 5
 := by decide +kernel
theorem test_reads : (ran (.partBpRead 1 0xFF) { sBoot 10 with regs := (aPart 1 0x38, 7) :: (sBoot 10).regs }).out = [.readData 7]
    ∧ (ran (.partBpRead 1 0xFF) { sBoot 10 with regs := (aPart 1 0x38, 7) :: (sBoot 10).regs }).rd (aPart 1 0x38) = 0 := by decide +kernel
theorem test_management : (ran (.mgmtWrite .steward (.reg (BitVec.ofNat 28 (aClk 0x828))) 0x556E645F 0xFF) (sBoot 10)).rf (aClk 0x828) 31 0 = 0x556E645F
    ∧ (ran (.mgmtWrite .steward (.reg (BitVec.ofNat 28 (aClk 0x828))) 0x556A655F 0xFF) (sBoot 10)).rf (aClk 0x828) 31 0 = 0x556E645F
    ∧ events (.mgmtWrite .steward (.reg 0x1FFFFF8) 1 0xFF) (sBoot 10) = [(250, 1)]
    ∧ ((ran (.mgmtWrite .pf0B (.page 1 5 0x80) 0x5FFF 0xFF) (sHost { mode := .disabled })).qp 1 5 2).sqBase = 0x5000
    ∧ ((ran (.mgmtWrite .pf0B (.msixCtl 1 5) 0xC000 0xFF) (sHost qp6)).host.msix.get {} 69).fnMask = true := by decide +kernel

/-! ## Pins -/

/-- The telemetry target has address 0x30. -/
def sPin (i : Nat) : State := { regs := [(aClk 0x800, 7)], pwr := { powered := true }, pin := { dynAddr := some 0x30, index := i } }
/-- The test access port is active, with a boundary register. -/
def sTap : State := { sPin 0 with pin := { tapActive := true, boundary := [true, false] } }
theorem witness_Pins : (sPin 3).rb (aClk 0x800) 0 = true ∧ (sPin 3).pin.dynAddr = some 0x30 ∧ (sPin 3).pin.dynAddr ≠ some 0x31
    ∧ ({ sPin 3 with pin := {} }).pin.dynAddr = none ∧ sTap.pin.tapActive = true ∧ (sPin 0).pin.tapActive = false := by decide +kernel
theorem test_telemetry : (ran (.i3cPrivateRead 0x30 8) (sPin 3)).out = [.i3cByte 7] ++ List.replicate 7 (.i3cByte 0) ∧ (ran (.i3cPrivateRead 0x30 8) (sPin 3)).pin.index = 4
    ∧ (ran (.i3cPrivateWrite 0x30 [9] true) (sPin 3)).pin.index = 9 ∧ (ran (.i3cPrivateRead 0x31 8) (sPin 3)).out = []
    ∧ events (.i3cPrivateWrite 0x30 [9] false) (sPin 3) = [(251, 0)] ∧ (ran (.setnewda 0x30 0x31) (sPin 3)).pin.dynAddr = some 0x31
    ∧ (ran (.setdasa 0x2C 0x31) { sPin 3 with pin := {} }).pin.dynAddr = some 0x31 ∧ (ran (.rstdaa none) (sPin 3)).pin.dynAddr = none := by decide +kernel
theorem test_port : (ran .tapActive (sPin 0)).pin.tapInstr = 2 ∧ (ran (.extest [true]) sTap).pin.boundary = [true]
    ∧ (ran (.extest [true]) sTap).lanternStopped = true ∧ (ran .highz sTap).pin.pinsHeld = true ∧ (ran .clamp (sPin 0)).pin.pinsHeld = false ∧ (ran .idcode sTap).pin.tapInstr = 2 := by decide +kernel

/-! ## The whole machine -/

theorem witness_MemoryFormKept : Memory.wf State.reset.mem.words = true ∧ Memory.wf (sCry hashWords).mem.words = true := by decide +kernel
/-- A state with one command waiting steps. -/
theorem witness_IdentityKept : (match step { sBoot 10 with pending := [.attn] } with
    | .next t => decide (t.pending = []) && decide (t.fuse = (sBoot 10).fuse)
    | _ => false) = true := by decide +kernel

/-! ## Well-formed commands -/

theorem test_wf_partition : (Instr.partCreate .steward 0).wf = false ∧ (Instr.partCreate .steward 1).wf = true := by decide +kernel
theorem test_wf_extent : (Instr.unmapDone 1 true 96).wf = false ∧ (Instr.unmapDone 1 true 95).wf = true ∧ (Instr.unmapDone 1 false 127).wf = true := by
  decide +kernel
theorem test_wf_vf : (Instr.hifVfbindWrite .steward 1 0 1 0xFF).wf = false ∧ (Instr.hifVfbindWrite .steward 1 63 1 0xFF).wf = true := by decide +kernel
theorem test_wf_public : (Instr.rsaSign 1 0 32).wf = false ∧ (Instr.rsaSign 1 0 31).wf = true := by decide +kernel
theorem test_wf_lattice : (Instr.mlkemEncaps 1 0 48).wf = false ∧ (Instr.mlkemEncaps 1 0 47).wf = true := by decide +kernel
theorem test_wf_symmetric : (Instr.random 1 0 47).wf = false ∧ (Instr.random 1 0 111).wf = true := by decide +kernel
theorem test_wf_queue : (Instr.xstartRead 1 8 0).wf = false ∧ (Instr.xstartRead 1 7 0).wf = true := by decide +kernel
theorem test_wf_line : (Instr.mcWrite 0 [] 0).wf = false := by decide +kernel
theorem test_wf_ckpt : (Instr.pairCkptWrite .steward 0 0x104 0 0xFF).wf = false ∧ (Instr.pairCkptWrite .steward 0 0x518 0 0xFF).wf = true := by decide +kernel
theorem test_wf_sensors : (Instr.thermalSample [40]).wf = false ∧ (Instr.thermalSample (temps 40)).wf = true := by decide +kernel
theorem test_wf_access : (Instr.mgmtWrite .steward (.reg 4) 0 0xFF).wf = false ∧ (Instr.mgmtWrite .steward (.reg 8) 0 0xFF).wf = true := by decide +kernel

end Sys2Proof.Tests
end

section
namespace Sys2Proof.Machine

/-! ## What a fetch leaves -/

theorem State.toPa_ok {s : State} {q : Nat} {x y : X} {k : Acc} {va : Word} {pra level pa : Nat}
    (h : s.toPa q x k va pra level = .ok (pa, y)) : y = x := by
  unfold State.toPa at h
  split at h
  · cases h; rfl
  · cases h

/-- A translation that succeeds installs translations and draws free values; it leaves the rest of the word alone. -/
theorem State.translate_ok {s : State} {c : Nat} {x y : X} {k : Acc} {va : Word} {pa : Nat}
    (h : s.translate c x k va = .ok (pa, y)) : y = { x with fills := y.fills, free := y.free } := by
  unfold State.translate at h
  extract_lets q code addrExc noExtent asid walked x' at h
  have walked_ok (h : walked = Except.ok (pa, y)) : y = { x with fills := y.fills, free := y.free } := by
    unfold walked at h
    split at h
    · cases h
    · cases h
    · dsimp only at h
      split at h
      · cases h
      · rw [State.toPa_ok h]
  split at h
  · cases h
  split at h
  · split at h
    · cases h; rfl
    · cases h
  split at h
  · exact walked_ok h
  · split at h
    · split at h
      · cases h
      · rw [State.toPa_ok h]
    · exact walked_ok h

theorem State.fetch_ok {s : State} {c : Nat} {x y : X} (h : s.fetch c x = .ok y) :
    y = { x with fills := y.fills, free := y.free } := by
  unfold State.fetch at h
  split at h
  · cases h
  · rename_i ht
    dsimp only at h
    split at h
    · cases h; exact State.translate_ok ht
    · split at h <;> cases h

/-- The word that a processor starts with is blank but for the translations and free values that its fetch took. -/
theorem Starts.word {s : State} {c ub sb : Nat} {x : X} (h : Starts s c ub sb x) :
    x = { a := archOf s c, fills := x.fills, free := x.free } := State.fetch_ok h.fetched

/-! ## Windows: the state and the gate that they keep -/

@[simp] theorem closeWin_a (split : Bool) (p : Proc) : (closeWin split p).a = p.a := by
  unfold closeWin
  split
  · rfl
  · split <;> rfl

@[simp] theorem closeWin_effects (split : Bool) (p : Proc) :
    (closeWin split p).gate.map GateEnt.effect = p.gate.map GateEnt.effect := by
  unfold closeWin
  split
  · rfl
  · split
    · simp [Function.comp_def, GateEnt.effect]
    · rfl

@[simp] theorem openWin_gate (p : Proc) : (openWin p).gate = p.gate := by
  unfold openWin; split <;> rfl

@[simp] theorem atBoundary_a (p : Proc) (a : Arch) (nmi : Option (Nat × Nat)) : (atBoundary p a nmi).a = a := by
  unfold atBoundary; split <;> rfl

@[simp] theorem atBoundary_gate (p : Proc) (a : Arch) (nmi : Option (Nat × Nat)) :
    (atBoundary p a nmi).gate = p.gate := by
  unfold atBoundary; split <;> rfl

@[simp] theorem retire_a (split : Bool) (p : Proc) (x : X) : (retire split p x).a = counted x.advance := by
  unfold retire
  dsimp only
  split
  · rw [closeWin_a]; rfl
  · rfl

@[simp] theorem retire_effects (split : Bool) (p : Proc) (x : X) :
    (retire split p x).gate.map GateEnt.effect = p.gate.map GateEnt.effect ++ x.ents.map GateEnt.effect := by
  unfold retire
  dsimp only
  split <;> simp [Function.comp_def, GateEnt.effect]

/-! ## Registers that the end of an episode of retries changes -/

theorem State.splitPass_regsOnly (s : State) (c : Nat) (b : Bool) :
    s.splitPass c b = { s with regs := (s.splitPass c b).regs } := by
  unfold State.splitPass State.endRetry
  split
  · split <;> rfl
  · rfl

theorem State.splitPass_regsKept (s : State) (c : Nat) (b : Bool) : RegsKept s (s.splitPass c b) c := by
  unfold State.splitPass State.endRetry
  refine ⟨fun h => ?_, fun a h8 h20 => ?_⟩
  · obtain h | h := h <;> simp [h]
  · split
    · split
      · rfl
      · rw [State.rd_wf_ne _ _ _ _ _ _ h8, State.rd_wf_ne _ _ _ _ _ _ h8, State.rd_wb_ne _ _ _ _ _ h20]
    · rfl

/-! ## The two ends of a word -/

/-- A processor's new state stands where its word ended: `u` is the state after the word drew free values and filled the
pair's TLBs, and `b` says whether a window closes. -/
theorem Retired.of_setProc {s u : State} {c : Nat} {b : Bool} {p : Proc} {ents : List GateEnt}
    (hu : u = { s with free := u.free, core := { s.core with tlb := u.core.tlb } })
    (hgate : p.gate.map GateEnt.effect = (s.proc c).gate.map GateEnt.effect ++ ents.map GateEnt.effect) :
    Retired s ((u.splitPass c b).setProc c p) c p.a ents where
  arch := by simp [archOf]
  gate := by simpa using hgate
  others k hk := by
    rw [State.proc_setProc_ne _ _ _ _ hk, State.proc, State.splitPass_core, hu]; rfl
  regs := by
    have hkept := State.splitPass_regsKept u c b
    rw [hu] at hkept ⊢
    exact hkept
  rest := by rw [State.splitPass_regsOnly, hu]; rfl

/-- A word that stays inside its processor: it takes no completing exception, does not wait and asks no other unit. -/
structure X.Inside (y : X) : Prop where
  late : y.late = []
  wait : y.wait = none
  fio : y.fio = false
  pref : y.pref = none

theorem State.took_frame (s : State) (c : Nat) (y : X) :
    s.took c y = { s with free := (s.took c y).free, core := { s.core with tlb := (s.took c y).core.tlb } } := by
  unfold State.took
  dsimp only
  split <;> rfl

/-- A word inside its processor ends with its retirement alone (R62, R70). -/
theorem State.finishWord_inside {s : State} {c : Nat} {y : X} (hy : y.Inside)
    (untraced : (s.proc c).a.psw0.getLsbD 8 = false) :
    s.finishWord c y = ((s.took c y).splitPass c (retire s.split (s.proc c) y).fresh).setProc c
      (retire s.split (s.proc c) y) := by
  obtain ⟨late, -, fio, pref⟩ := hy
  cases y
  subst late fio pref
  simp only [State.finishWord, State.outside, untraced, Bool.and_false, Bool.false_eq_true, if_false, List.append_nil]

theorem State.finishWord_retired {s : State} {c : Nat} {y : X} (hy : y.Inside)
    (untraced : (archOf s c).psw0.getLsbD 8 = false) :
    Retired s (s.finishWord c y) c (counted y.advance) y.ents := by
  rw [State.finishWord_inside hy untraced, ← retire_a s.split (s.proc c)]
  exact Retired.of_setProc (s.took_frame c y) (retire_effects ..)

theorem State.takeExc_retired {s u : State} {c : Nat} (e : Exc) (hp : Plain (archOf s c))
    (hu : u = { s with free := u.free }) :
    Retired s (u.takeExc c e) c
      (enterExc (archOf s c) e.code (causeWord e.code e.slot e.operand e.tag e.mem 0 e.detail) e.addr) [] := by
  obtain ⟨hel, hnl⟩ := hp
  have hproc : u.proc c = s.proc c := by rw [hu]; rfl
  unfold archOf at *
  simp only [State.takeExc, State.boundary, hproc, hel, hnl, closeWin_a, Bool.false_eq_true, if_false]
  generalize enterExc _ _ _ _ = a
  have hgate : (atBoundary (closeWin u.split (s.proc c)) a none).gate.map GateEnt.effect
      = (s.proc c).gate.map GateEnt.effect ++ [].map GateEnt.effect := by simp
  have hframe : u = { s with free := u.free, core := { s.core with tlb := u.core.tlb } } := by rw [hu]
  simpa using Retired.of_setProc (b := !(s.proc c).fresh) hframe hgate

/-! ## A word that starts -/

section
variable {s : State} {c ub sb : Nat} {x : X} {f : Insn} {i : Instr}

theorem Starts.x_a (h : Starts s c ub sb x) : x.a = archOf s c := by rw [h.word]

theorem Starts.ents (h : Starts s c ub sb x) : x.ents = [] := by rw [h.word]

theorem Starts.inside (h : Starts s c ub sb x) : x.Inside := by rw [h.word]; exact ⟨rfl, rfl, rfl, rfl⟩

theorem Starts.counted_advance (h : Starts s c ub sb x) : counted x.advance = seqEnd (archOf s c) := by
  rw [h.word]; rfl

theorem Starts.endWait (h : Starts s c ub sb x) : s.endWait c = s := by
  simp [State.endWait, h.awake]

theorem Starts.preClose (h : Starts s c ub sb x) : s.preClose c ub sb = s := by
  unfold State.preClose
  obtain fresh | ⟨units, stores⟩ := h.fits
  · simp only [fresh, Bool.not_true, Bool.false_and, Bool.false_eq_true, if_false]
  · simp only [Nat.not_lt.mpr units, Nat.not_lt.mpr stores, decide_false, Bool.or_self, Bool.and_false,
      Bool.false_eq_true, if_false]

theorem Starts.insn_of_ok {y : X} (h : Starts s c ub sb x) (hf : f s c x = .ok y) (hy : y.wait = none) :
    s.insn c ub sb f = s.finishWord c y := by
  have hfetch : s.fetch c { a := (s.proc c).a, free := s.free } = .ok x := h.fetched
  simp only [State.insn, h.can, h.endWait, h.preClose, Nat.not_lt.mpr h.room, hfetch, hf, hy, Bool.not_true,
    Bool.false_eq_true, if_false]

theorem Starts.insn_of_error {e : Exc} (h : Starts s c ub sb x) (hf : f s c x = .error e) (he : e.code ≠ faultCode) :
    s.insn c ub sb f = State.takeExc { s with free := e.free } c e := by
  have hfetch : s.fetch c { a := (s.proc c).a, free := s.free } = .ok x := h.fetched
  simp only [State.insn, h.can, h.endWait, h.preClose, Nat.not_lt.mpr h.room, hfetch, hf, he, Bool.not_true,
    Bool.false_eq_true, if_false]

/-- A word that starts and stays inside its processor retires with the state and the gate entries that it made. -/
theorem Starts.retires {y : X} (h : Starts s c ub sb x) (hi : exec i s = fin (s.insn c ub sb f))
    (hf : f s c x = .ok y) (hy : y.Inside) :
    Does i s fun t => Retired s t c (counted y.advance) y.ents :=
  .of_fin hi (by rw [h.insn_of_ok hf hy.wait]; exact State.finishWord_retired hy h.untraced)

/-- A word that starts and raises a suppressing exception traps with its code. -/
theorem Starts.traps {e : Exc} {code : Nat} (h : Starts s c ub sb x) (hp : Plain (archOf s c))
    (hi : exec i s = fin (s.insn c ub sb f)) (hf : f s c x = .error e) (hcode : e.code = code) (he : code ≠ faultCode) :
    Traps i s c code := by
  subst hcode
  exact .of_fin hi ⟨e, rfl, by rw [h.insn_of_error hf he]; exact State.takeExc_retired e hp rfl⟩

end

end Sys2Proof.Machine
end

section
/-!
PROOFS. Branches and calls (R88, R95, R100): what the branch operations do to a word, the operands they accept, and the
obligation BranchResults.
-/
namespace Sys2Proof.Machine

/-! ## A word that ends as a branch -/

@[simp] theorem X.advance_jump_taken (x : X) (target : Word) (v : TWord) :
    (x.jump true target v).advance = { x.a with pc := target } := rfl

@[simp] theorem X.advance_jump_not_taken (x : X) (target : Word) (v : TWord) :
    (x.jump false target v).advance = x.advance := rfl

theorem X.Inside.jump {x : X} (h : x.Inside) (taken : Bool) (target : Word) (v : TWord) :
    (x.jump taken target v).Inside := ⟨h.late, h.wait, h.fio, h.pref⟩

theorem X.Inside.setA {x : X} (h : x.Inside) (a : Arch) : X.Inside { x with a := a } :=
  ⟨h.late, h.wait, h.fio, h.pref⟩

/-! ## Operands that branches accept -/

theorem needTags_of_all {x : X} {ok : Tag → Bool} {ws : List TWord} (h : ∀ w ∈ ws, ok w.tag = true) (k : Except Exc X) :
    needTags x ok ws k = k := by
  have none_refused : (ws.map TWord.tag).filter (fun t => !ok t) = [] := by simpa using h
  simp [needTags, none_refused]

theorem isPU_iff {t : Tag} : isPU t = true ↔ t = Tag.pointer ∨ t = Tag.untyped := by simp [isPU]

theorem isAny_iff {t : Tag} :
    isAny t = true ↔ t ≠ Tag.sealedW ∧ t ≠ Tag.poison ∧ ¬ (9 ≤ t.toNat ∧ t.toNat ≤ 13) := by
  simp only [isAny, tagReserved, Bool.not_eq_true', Bool.or_eq_false_iff, beq_eq_false_iff_ne, decide_eq_false_iff_not,
    and_assoc]

theorem cmpTags_iff {t u : Tag} : cmpTags t u = true ↔
    isAny t = true ∧ isAny u = true ∧ (t = u ∨ t = Tag.untyped ∨ u = Tag.untyped) := by
  simp [cmpTags, and_assoc, or_assoc]

/-- A SEALED operand, or operands of two tags neither of which is UNTYPED, are not compared (R49). -/
theorem cmpTags_eq_false {t u : Tag}
    (h : (t = Tag.sealedW ∨ u = Tag.sealedW) ∨ (t ≠ u ∧ t ≠ Tag.untyped ∧ u ≠ Tag.untyped)) : cmpTags t u = false := by
  rw [← Bool.not_eq_true, cmpTags_iff, isAny_iff, isAny_iff]
  rintro ⟨⟨ht, -⟩, ⟨hu, -⟩, hcompare⟩
  obtain (hsealed | hsealed) | ⟨hne, ht', hu'⟩ := h
  · exact ht hsealed
  · exact hu hsealed
  · exact hcompare.elim hne (·.elim ht' hu')

theorem regTarget_of_aligned {x : X} {u : TWord} (hu : isPU u.tag = true) (ha : u.val.toNat % 4 = 0) (k : Except Exc X) :
    regTarget x u k = k := by
  simp [regTarget, needTags_of_all, hu, need, ha]

theorem regTarget_of_misaligned {x : X} {u : TWord} (hu : isPU u.tag = true) (ha : u.val.toNat % 4 ≠ 0)
    (k : Except Exc X) : regTarget x u k = .error { x.memExc 7 0 with mem := false } := by
  simp [regTarget, needTags_of_all, hu, need, ha]

/-- CB's conditions 0 to 5 are the ones that are not reserved (R95). -/
theorem cbTaken_isSome {k : BitVec 3} (hk : k.toNat < 6) (u v : Word) : ∃ taken, cbTaken k u v = some taken := by
  unfold cbTaken
  generalize k.toNat = n at hk
  match n, hk with
  | 0, _ | 1, _ | 2, _ | 3, _ | 4, _ | 5, _ => exact ⟨_, rfl⟩

/-! ## Branch words that start -/

section
variable {s : State} {c ub sb : Nat} {x : X} {f : Insn} {i : Instr}

theorem Starts.target (h : Starts s c ub sb x) (disp : Word) : x.target disp = (archOf s c).pc + 4 * disp := by
  rw [X.target, h.x_a]

theorem Starts.link (h : Starts s c ub sb x) : x.link = ⟨(archOf s c).pc + 4, Tag.pointer⟩ := by
  rw [X.link, h.x_a]

/-- A word that ends as a branch and writes nothing branches. -/
theorem Starts.branches {taken : Bool} {target : Word} {v : TWord} (h : Starts s c ub sb x)
    (hi : exec i s = fin (s.insn c ub sb f)) (hf : f s c x = .ok (x.jump taken target v)) :
    Branches i s c taken target := by
  have hret := h.retires hi hf (h.inside.jump taken target v)
  have hents : (x.jump taken target v).ents = [] := h.ents
  rw [hents] at hret
  cases taken with
  | true => rwa [X.advance_jump_taken, h.x_a] at hret
  | false => rwa [X.advance_jump_not_taken, h.counted_advance] at hret

/-- A word that leaves its return address in G register d and ends as a taken branch calls. -/
theorem Starts.calls {d : Nat} {target : Word} (h : Starts s c ub sb x) (hi : exec i s = fin (s.insn c ub sb f))
    (hf : f s c x = .ok ({ x with a := setG x.a d x.link }.jump true target x.link)) :
    Does i s fun t => Retired s t c
      (jumpEnd (setG (archOf s c) d ⟨(archOf s c).pc + 4, Tag.pointer⟩) target) [] := by
  have hret := h.retires hi hf ((h.inside.setA _).jump ..)
  have hents : ({ x with a := setG x.a d x.link }.jump true target x.link).ents = [] := h.ents
  rw [hents, X.advance_jump_taken] at hret
  rw [← h.link, ← h.x_a]
  exact hret

end

/-! ## The branch instructions -/

section
variable {s : State} {x : X} {c : Fin 96}

theorem Starts.branches_bc (h : Starts s c 1 0 x) {cond : BitVec 3} {taken : Bool} (disp : BitVec 22)
    (hcond : bcTaken cond (archOf s c).cc = taken) :
    Branches (.bc c cond disp) s c taken ((archOf s c).pc + 4 * disp.signExtend 64) := by
  refine h.branches (v := {}) (f := iBc cond (sx disp)) rfl ?_
  rw [iBc, h.target, h.x_a, hcond]; rfl

theorem Starts.branches_cb (h : Starts s c 1 0 x) {k : BitVec 3} {a b : BitVec 5} {taken : Bool} (disp : BitVec 12)
    (htags : cmpTags (gr (archOf s c) a.toNat).tag (gr (archOf s c) b.toNat).tag = true)
    (hk : cbTaken k (gr (archOf s c) a.toNat).val (gr (archOf s c) b.toNat).val = some taken) :
    Branches (.cb c k a b disp) s c taken ((archOf s c).pc + 4 * disp.signExtend 64) := by
  refine h.branches (v := {}) (f := iCb k a.toNat b.toNat (sx disp)) rfl ?_
  simp only [iCb, h.x_a, hk, htags, h.target, if_true, sx]

theorem Starts.traps_cb_tags (h : Starts s c 1 0 x) (hp : Plain (archOf s c)) {k : BitVec 3} (hk : k.toNat < 6)
    {a b : BitVec 5} (disp : BitVec 12)
    (htags : cmpTags (gr (archOf s c) a.toNat).tag (gr (archOf s c) b.toNat).tag = false) :
    Traps (.cb c k a b disp) s c 6 := by
  obtain ⟨taken, htaken⟩ := cbTaken_isSome hk (gr (archOf s c) a.toNat).val (gr (archOf s c) b.toNat).val
  refine h.traps (f := iCb k a.toNat b.toNat (sx disp))
    (e := x.tagExc [(gr (archOf s c) a.toNat).tag, (gr (archOf s c) b.toNat).tag]) hp rfl ?_ rfl (by decide)
  simp [iCb, h.x_a, htaken, htags]

theorem Starts.traps_cb_reserved (h : Starts s c 1 0 x) (hp : Plain (archOf s c)) {k : BitVec 3} {a b : BitVec 5}
    (disp : BitVec 12) (hk : ∀ u v, cbTaken k u v = none) : Traps (.cb c k a b disp) s c 3 := by
  refine h.traps (f := iCb k a.toNat b.toNat (sx disp)) (e := x.exc 3) hp rfl ?_ rfl (by decide)
  simp [iCb, hk]

theorem Starts.branches_br (h : Starts s c 1 0 x) {a : BitVec 5} (hu : isPU (gr (archOf s c) a.toNat).tag = true)
    (ha : (gr (archOf s c) a.toNat).val.toNat % 4 = 0) :
    Branches (.br c 0 a 0) s c true (gr (archOf s c) a.toNat).val := by
  refine h.branches (v := {}) (f := iBr 0 a.toNat 0) rfl ?_
  simp [iBr, need, h.x_a, regTarget_of_aligned hu ha]

theorem Starts.traps_br (h : Starts s c 1 0 x) (hp : Plain (archOf s c)) {a : BitVec 5}
    (hu : isPU (gr (archOf s c) a.toNat).tag = true) (ha : (gr (archOf s c) a.toNat).val.toNat % 4 ≠ 0) :
    Traps (.br c 0 a 0) s c 7 := by
  refine h.traps (f := iBr 0 a.toNat 0) (e := { x.memExc 7 0 with mem := false }) hp rfl ?_ rfl (by decide)
  simp [iBr, need, h.x_a, regTarget_of_misaligned hu ha]

theorem Starts.calls_callr (h : Starts s c 1 0 x) {a : BitVec 5} (hu : isPU (gr (archOf s c) a.toNat).tag = true)
    (ha : (gr (archOf s c) a.toNat).val.toNat % 4 = 0) (d : BitVec 5) :
    Does (.callr c d a 0) s fun t => Retired s t c
      (jumpEnd (setG (archOf s c) d.toNat ⟨(archOf s c).pc + 4, Tag.pointer⟩) (gr (archOf s c) a.toNat).val) [] := by
  refine h.calls (f := iCallr d.toNat a.toNat 0) rfl ?_
  simp [iCallr, need, h.x_a, regTarget_of_aligned hu ha]

end

/-- Settles O11: each clause is what its instruction's operation makes of the word that starts, which then retires as a
branch or a call (`Starts.branches`, `Starts.calls`) or traps (`Starts.traps`). -/
theorem branchResults : Obligations.BranchResults := by
  unfold Obligations.BranchResults
  intro s x c a b h
  dsimp only
  refine ⟨fun disp => ?b, fun d imm => ?call, fun cond disp => ?bc, fun hu hv htags disp => ?cb,
    fun hu ha => ⟨h.branches_br (isPU_iff.mpr hu) ha, h.calls_callr (isPU_iff.mpr hu) ha⟩,
    fun hp htags _ _ k disp hk => h.traps_cb_tags hp hk disp (cmpTags_eq_false htags),
    fun hp disp => ⟨h.traps_cb_reserved hp disp fun _ _ => rfl, h.traps_cb_reserved hp disp fun _ _ => rfl⟩,
    fun hp hu ha => h.traps_br hp (isPU_iff.mpr hu) ha⟩
  case b => exact h.branches (v := {}) rfl (by rw [iB, h.target]; rfl)
  case call => exact h.calls rfl (by rw [iCall, h.target]; rfl)
  case bc =>
    refine h.branches_bc disp ?_
    generalize (archOf s c).cc = cc
    revert cond cc
    decide
  case cb =>
    have hcmp := cmpTags_iff.mpr ⟨isAny_iff.mpr hu, isAny_iff.mpr hv, htags⟩
    exact ⟨h.branches_cb disp hcmp rfl, h.branches_cb disp hcmp (congrArg some decide_not.symm),
      h.branches_cb disp hcmp rfl, h.branches_cb disp hcmp rfl,
      h.branches_cb disp hcmp rfl, h.branches_cb disp hcmp rfl⟩

end Sys2Proof.Machine
end

section
/-!
PROOFS. The fault registers at a reset (R400, R427): what the table of kept registers lists for an FLT address, which
registers the steps of a power-on and of a module reset write, and the obligation FaultRegistersAtReset.
-/
namespace Sys2Proof.Machine

/-! ## The registers that a reset keeps -/

theorem State.rd_eq_getD (s : State) (a : Nat) : s.rd a = (s.regs.find a).getD (regReset s.fuse.small a) := by
  unfold State.rd; split <;> simp [*]

theorem State.rd_keep (s : State) (flt : Bool) (a : Nat) :
    (s.keep flt).rd a = ((keepRegs flt s.regs).find a).getD (regReset s.fuse.small a) :=
  State.rd_eq_getD _ _

theorem keepRegs_cons (flt : Bool) (e : Nat × Word) (t : Tbl Word) :
    keepRegs flt (e :: t) = keepRegs flt [e] ++ keepRegs flt t :=
  List.filterMap_append (l := [e])

/-- A kept register keeps its address. -/
theorem keepRegs_singleton (flt : Bool) (k : Nat) (v : Word) :
    keepRegs flt [(k, v)] = [] ∨ ∃ w, keepRegs flt [(k, v)] = [(k, w)] := by
  simp only [keepRegs, List.filterMap_cons, List.filterMap_nil]
  split
  · exact .inl rfl
  · rename_i h
    right
    (repeat' split at h) <;> cases h <;> exact ⟨_, rfl⟩

theorem find_keepRegs_cons_ne {flt : Bool} {k a : Nat} {v : Word} {t : Tbl Word} (h : a ≠ k) :
    (keepRegs flt ((k, v) :: t)).find a = (keepRegs flt t).find a := by
  rw [keepRegs_cons]
  obtain hnone | ⟨w, hw⟩ := keepRegs_singleton flt k v
  · rw [hnone]; rfl
  · rw [hw]; simp [Tbl.find, h]

theorem find_keepRegs_of_dropped {flt : Bool} {a : Nat} (h : ∀ v, keepRegs flt [(a, v)] = []) (t : Tbl Word) :
    (keepRegs flt t).find a = none := by
  induction t with
  | nil => rfl
  | cons e t ih =>
    obtain ⟨k, v⟩ := e
    by_cases hk : a = k
    · subst hk; rw [keepRegs_cons, h]; exact ih
    · rw [find_keepRegs_cons_ne hk, ih]

theorem find_keepRegs_of_kept {flt : Bool} {a : Nat} {g : Word → Word} (h : ∀ v, keepRegs flt [(a, v)] = [(a, g v)])
    (t : Tbl Word) : (keepRegs flt t).find a = (t.find a).map g := by
  induction t with
  | nil => rfl
  | cons e t ih =>
    obtain ⟨k, v⟩ := e
    by_cases hk : a = k
    · subst hk; rw [keepRegs_cons, h]; simp [Tbl.find]
    · rw [find_keepRegs_cons_ne hk, ih]; simp [Tbl.find, hk]

/-! ## FLT registers that a reset keeps -/

/-- FLT_COUNT's reset value is its THRESH (R402). -/
theorem regReset_fltCount {a : Nat} (hlo : 0x200000 ≤ a) (hhi : a < 0x204000) (ho : a % 0x40 = 0x18) (small : Bool) :
    regReset small a = BitVec.ofNat 64 (fltThresh ((a - 0x200000) / 0x40) * 256) := by
  have ho' : (a - 0x200000) % 0x40 = 0x18 := by omega
  simp [regReset, hlo, hhi, ho']

/-- What a reset keeps of an FLT register: a module reset STATUS, LAST and the upper half of COUNT, a power-on nothing. -/
theorem keepRegs_flt {a : Nat} (hlo : 0x200000 ≤ a) (hhi : a < 0x204030) (flt : Bool) (v : Word) :
    keepRegs flt [(a, v)] =
      if flt = true ∧ a < 0x204000 then
        if a % 0x40 = 0 ∨ a % 0x40 = 0x30 then [(a, v)]
        else if a % 0x40 = 0x18 then
          [(a, (maskOf 63 32 &&& v) ||| BitVec.ofNat 64 (fltThresh ((a - 0x200000) / 0x40) * 256))]
        else []
      else [] := by
  obtain ⟨notKept, notTgen⟩ : ¬ (a = aJrn 0x10 ∨ a = aJrn 0x18 ∨ a = aClk 0x408 ∨ a = aClk 0x800 ∨ a = aClk 0x820
      ∨ a = aClk 0x850) ∧ a ≠ aDpx 0x10 := by
    unfold aJrn aClk aDpx; omega
  simp only [keepRegs, List.filterMap_cons, List.filterMap_nil, notKept, notTgen, if_false, hlo, true_and]
  by_cases hmodule : flt = true ∧ a < 0x204000
  · rw [if_pos hmodule, if_pos hmodule]
    by_cases hwhole : a % 0x40 = 0 ∨ a % 0x40 = 0x30
    · rw [if_pos hwhole, if_pos hwhole]
    · rw [if_neg hwhole, if_neg hwhole]
      by_cases hcount : a % 0x40 = 0x18
      · rw [if_pos hcount, if_pos hcount]
      · rw [if_neg hcount, if_neg hcount]
  · rw [if_neg hmodule, if_neg hmodule]

section
variable {a : Nat} (hlo : 0x200000 ≤ a)
include hlo

theorem State.rd_keep_flt_initial (hhi : a < 0x204030) {flt : Bool}
    (h : flt = true → a < 0x204000 → a % 0x40 ≠ 0 ∧ a % 0x40 ≠ 0x30 ∧ a % 0x40 ≠ 0x18) (s : State) :
    (s.keep flt).rd a = regReset s.fuse.small a := by
  rw [State.rd_keep, find_keepRegs_of_dropped fun v => ?_, Option.getD_none]
  rw [keepRegs_flt hlo hhi]
  split
  · next hmodule =>
    obtain ⟨hflt, hsource⟩ := hmodule
    obtain ⟨h0, h30, h18⟩ := h hflt hsource
    simp [h0, h30, h18]
  · rfl

variable (hhi : a < 0x204000)
include hhi

theorem State.rd_keep_fltStatus_fltLast (ho : a % 0x40 = 0 ∨ a % 0x40 = 0x30) (s : State) :
    (s.keep true).rd a = s.rd a := by
  have kept (v : Word) : keepRegs true [(a, v)] = [(a, id v)] := by
    simp [keepRegs_flt hlo (by omega : a < 0x204030), hhi, ho]
  rw [State.rd_keep, find_keepRegs_of_kept kept, State.rd_eq_getD, Option.map_id, id]

/-- FLT_COUNT after a module reset: its register is not listed and reads its reset value, or keeps its upper half. -/
theorem State.rd_keep_fltCount (ho : a % 0x40 = 0x18) (s : State) :
    (s.keep true).rd a = s.rd a ∧ s.rd a = regReset s.fuse.small a
      ∨ (s.keep true).rd a = (maskOf 63 32 &&& s.rd a) ||| regReset s.fuse.small a := by
  have kept (v : Word) : keepRegs true [(a, v)] = [(a, (maskOf 63 32 &&& v) ||| regReset s.fuse.small a)] := by
    rw [keepRegs_flt hlo (by omega), regReset_fltCount hlo hhi ho]
    simp [hhi, ho]
  rw [State.rd_keep, find_keepRegs_of_kept kept, State.rd_eq_getD]
  cases s.regs.find a with
  | none => exact .inl ⟨rfl, rfl⟩
  | some v => exact .inr rfl

end

/-! ## The halves of FLT_COUNT -/

theorem fld_eq_extractLsb' (w : Word) (hi lo : Nat) : fld w hi lo = (w.extractLsb' lo (hi + 1 - lo)).toNat := by
  rw [fld, BitVec.extractLsb'_toNat, Nat.shiftRight_eq_div_pow]

theorem fld_upper_mask_or {x : Word} (hx : fld x 63 32 = 0) (v : Word) :
    fld ((maskOf 63 32 &&& v) ||| x) 63 32 = fld v 63 32 := by
  have hx' : x.extractLsb' 32 32 = 0#32 := BitVec.eq_of_toNat_eq (by rw [fld_eq_extractLsb'] at hx; exact hx)
  have hmask : (maskOf 63 32).extractLsb' 32 32 = BitVec.allOnes 32 := by decide
  rw [fld_eq_extractLsb', fld_eq_extractLsb', BitVec.extractLsb'_or, BitVec.extractLsb'_and, hx', hmask,
    BitVec.allOnes_and, BitVec.or_zero]

theorem fld_lower_mask_or (x v : Word) : fld ((maskOf 63 32 &&& v) ||| x) 31 0 = fld x 31 0 := by
  have hmask : (maskOf 63 32).extractLsb' 0 32 = 0 := by decide
  simp [fld_eq_extractLsb', BitVec.extractLsb'_or, BitVec.extractLsb'_and, hmask]

theorem fltThresh_le (i : Nat) : fltThresh i ≤ 64 := by
  unfold fltThresh; (repeat' split) <;> decide

theorem fld_upper_fltThresh (i : Nat) : fld (BitVec.ofNat 64 (fltThresh i * 256)) 63 32 = 0 := by
  have := fltThresh_le i
  simp only [fld, BitVec.toNat_ofNat]
  omega

/-- A module reset keeps FLT_COUNT's TOTAL and brings the lower half to its reset value. -/
theorem State.rf_keep_fltCount {a : Nat} (hlo : 0x200000 ≤ a) (hhi : a < 0x204000) (ho : a % 0x40 = 0x18) (s : State) :
    (s.keep true).rf a 63 32 = s.rf a 63 32 ∧ (s.keep true).rf a 31 0 = fld (regReset s.fuse.small a) 31 0 := by
  have upper : fld (regReset s.fuse.small a) 63 32 = 0 := by
    rw [regReset_fltCount hlo hhi ho]; exact fld_upper_fltThresh _
  unfold State.rf
  obtain ⟨hsame, hreset⟩ | hkept := State.rd_keep_fltCount hlo hhi ho s
  · rw [hsame]; exact ⟨rfl, by rw [hreset]⟩
  · rw [hkept]; exact ⟨fld_upper_mask_or upper _, fld_lower_mask_or _ _⟩

/-! ## The registers that the steps of a reset write lie in CLK and PWR -/

section
variable {a : Nat} (h : 0x200000 ≤ a)
include h

theorem State.rd_wr_clk {o : Nat} (ho : o < 0x100000) (s : State) (v : Word) : (s.wr (aClk o) v).rd a = s.rd a :=
  State.rd_wr_ne _ _ _ _ (by unfold aClk; omega)

theorem State.rd_wf_clk {o : Nat} (ho : o < 0x100000) (s : State) (hi lo v : Nat) :
    (s.wf (aClk o) hi lo v).rd a = s.rd a := State.rd_wr_clk h ho _ _

theorem State.rd_satField_clk {o : Nat} (ho : o < 0x100000) (s : State) (hi lo : Nat) :
    (s.satField (aClk o) hi lo).rd a = s.rd a := State.rd_wf_clk h ho ..

theorem State.rd_holdupGo (s : State) (v : Nat) : (s.holdupGo v).rd a = s.rd a := State.rd_wf_clk h (by decide) ..

theorem State.rd_chargeTo (s : State) (c : Nat) : (s.chargeTo c).rd a = s.rd a := by
  simp [State.chargeTo, State.rd_holdupGo h, State.rd_wf_clk h]

theorem State.rd_chargeStart (s : State) (mv : Nat) : (s.chargeStart mv).rd a = s.rd a := by
  have hmv : (s.wf (aClk 0x820) 15 0 mv).rd a = s.rd a := State.rd_wf_clk h (by decide) ..
  unfold State.chargeStart
  dsimp only
  split
  · rw [State.rd_holdupGo h]; exact hmv
  · split
    · rw [State.rd_chargeTo h]; exact hmv
    · rw [State.rd_holdupGo h]; exact hmv

theorem State.rd_latch (s : State) (x : Straps) (cause src : Nat) : (s.latch x cause src).rd a = s.rd a := by
  simp [State.latch, State.rd_wf_clk h]

theorem State.rd_putTemps (s : State) (ts : List (BitVec 8)) : (s.putTemps ts).rd a = s.rd a := by
  simp [State.putTemps, List.range_succ, State.rd_wr_clk h]

theorem State.rd_powerOn (s : State) (x : Straps) : (s.powerOn x).rd a = (s.keep false).rd a :=
  (State.rd_latch h _ x 1 0).trans (State.rd_wf_clk h (by decide) ..)

/-- Power-on brings every FLT register to its reset value. -/
theorem State.rd_powerOn_flt (hhi : a < 0x204030) (s : State) (x : Straps) :
    (s.powerOn x).rd a = regReset s.fuse.small a := by
  rw [State.rd_powerOn h, State.rd_keep_flt_initial h hhi (by simp)]

end

/-! ## Staged records before a module reset -/

theorem State.hashSweep_frame (s : State) (l : List JEnt) :
    (s.hashSweep l).regs = s.regs ∧ (s.hashSweep l).fuse = s.fuse ∧ (s.hashSweep l).jrn.marks = s.jrn.marks
      ∧ (s.hashSweep l).jrn.running = s.jrn.running := by
  induction l generalizing s with
  | nil => exact ⟨rfl, rfl, rfl, rfl⟩
  | cons e t ih =>
    unfold State.hashSweep
    split
    · exact ih s
    · split
      · exact ⟨rfl, rfl, rfl, rfl⟩
      · obtain ⟨hregs, hfuse, hmarks, hrunning⟩ := ih _
        refine ⟨hregs, hfuse, hmarks.trans ?_, hrunning.trans ?_⟩ <;> dsimp only <;> (repeat' split) <;> rfl

theorem State.ledger_of_no_marks {s : State} (h : s.jrn.running = true → s.jrn.marks = []) :
    s.ledger = s.hashSweep s.jrn.ring := by
  obtain ⟨-, -, hmarks, hrunning⟩ := s.hashSweep_frame s.jrn.ring
  unfold State.ledger
  dsimp only
  split
  · next hrun => rw [State.sealMarks, hmarks, h (hrunning ▸ hrun)]
  · rfl

/-- Once the RESET seal is durable no ended epoch waits for its seal (R360). -/
theorem State.marks_of_resetSealed {s : State} (h : s.resetSealed = true) (hrun : s.jrn.running = true) :
    s.jrn.marks = [] := by
  unfold State.resetSealed at h
  rw [hrun] at h
  split at h
  · simp only [Bool.not_true, Bool.false_or, Bool.and_eq_true, List.isEmpty_iff] at h
    obtain ⟨⟨-, nomarks⟩, -⟩ := h
    exact nomarks
  · cases h

/-- With the RESET seal durable, completing the staged records writes no seal, and so no register. -/
theorem State.writeStaged_of_resetSealed {s : State} (h : s.resetSealed = true) :
    s.writeStaged.regs = s.regs ∧ s.writeStaged.fuse = s.fuse := by
  have nomarks := State.marks_of_resetSealed h
  unfold State.writeStaged
  dsimp only
  rw [State.ledger_of_no_marks (by exact nomarks)]
  obtain ⟨hregs, hfuse, -, -⟩ := State.hashSweep_frame _ _
  exact ⟨hregs, hfuse⟩

/-- Of the registers beyond CLK and PWR a module reset leaves what the block keeps. -/
theorem State.rd_opModuleReset {s : State} {cause src : Nat} (hreset : s.flt.reset = some (cause, src))
    (hphase : s.pwr.phase = .idle) (hpower : s.pwr.powered = true) (hsealed : s.resetSealed = true) (x : Straps) {a : Nat}
    (h : 0x200000 ≤ a) : (s.opModuleReset x).rd a = (s.keep true).rd a := by
  obtain ⟨hregs, hfuse⟩ := State.writeStaged_of_resetSealed hsealed
  have staged : (s.writeStaged.keep true).rd a = (s.keep true).rd a := by
    rw [State.rd_keep, State.rd_keep, hregs, hfuse]
  rw [← staged]
  simp only [State.opModuleReset, hreset, hphase, hpower, hsealed, ne_eq, not_true_eq_false, Bool.not_true, Bool.true_or,
    Bool.false_eq_true, or_self, if_false]
  split <;> simp [State.rd_chargeStart h, State.rd_wf_clk h, State.rd_satField_clk h, State.rd_latch h]

/-! ## The commands that power the module on -/

theorem State.opPowerGood_eq {s : State} (hvaux : s.rb (aClk 0x800) 0 = true) (hgood : s.rb (aClk 0x800) 2 = true)
    (hoff : s.pwr.powered = false ∨ s.rf (aClk 0x410) 3 0 = 0) (x : Straps) : s.opPowerGood x = s.powerOn x := by
  unfold State.opPowerGood
  obtain h | h := hoff <;> simp [hvaux, hgood, h]

theorem State.rd_opVinReturn {s : State} (hphase : s.pwr.phase = .off) (hcause : s.pwr.cause ≠ 2) (x : Straps) {a : Nat}
    (h : 0x200000 ≤ a) : (s.opVinReturn x).rd a = (s.draw.2.powerOn x).rd a := by
  simp [State.opVinReturn, hphase, hcause, State.rd_chargeStart h, State.rd_wf_clk h]

theorem State.rd_opOvertempResume {s : State} {temps : List (BitVec 8)} (hphase : s.pwr.phase = .off)
    (hcause : s.pwr.cause = 2)
    (hcool : ∀ i, i < 13 → ((s.readings temps).getD (16 + i) 0).toInt < (s.rf (aClk 0x828) 31 24 : Int)) (x : Straps)
    {a : Nat} (h : 0x200000 ≤ a) : (s.opOvertempResume temps x).rd a = (s.draw.2.powerOn x).rd a := by
  have cool : ((List.range 13).all fun i =>
      decide (((s.readings temps).getD (16 + i) 0).toInt < (s.rf (aClk 0x828) 31 24 : Int))) = true := by
    simpa using hcool
  simp only [State.opOvertempResume, cool, hphase, hcause, ne_eq, not_true_eq_false, Bool.not_true, Bool.false_eq_true,
    or_self, if_false]
  rw [State.rd_chargeStart h, State.rd_wf_clk h (by decide), State.rd_putTemps h]

/-- Settles O56: the table of kept registers says what a reset leaves of each FLT register (`keepRegs_flt`), and every
other write of a reset's steps lies in CLK and PWR. -/
theorem faultRegistersAtReset : Obligations.FaultRegistersAtReset := by
  unfold Obligations.FaultRegistersAtReset
  intro s x temps
  dsimp only
  refine ⟨fun cause src hreset hphase hpower hsealed => .of_fin rfl ?moduleReset,
    fun hvaux hgood hoff => .of_fin rfl ?powerGood, fun hphase hcause => .of_fin rfl ?vinReturn,
    fun hphase hcause hcool => .of_fin rfl ?overtemp⟩
  case moduleReset =>
    rintro a ⟨hlo, hhi⟩
    have kept : (s.opModuleReset x).rd a = (s.keep true).rd a :=
      State.rd_opModuleReset hreset hphase hpower hsealed x hlo
    unfold State.rf
    rw [kept]
    refine ⟨fun hsource ho => ?_, fun hsource ho => ?_, fun _ h0 h30 h18 => ?_, fun hsource => ?_⟩
    · exact State.rd_keep_fltStatus_fltLast hlo hsource ho s
    · exact State.rf_keep_fltCount hlo hsource ho s
    · exact State.rd_keep_flt_initial hlo hhi (fun _ _ => ⟨h0, h30, h18⟩) s
    · exact State.rd_keep_flt_initial hlo hhi (fun _ hs => absurd hs hsource) s
  case powerGood =>
    rintro a ⟨hlo, hhi⟩
    rw [State.opPowerGood_eq hvaux hgood hoff, State.rd_powerOn_flt hlo hhi]
  case vinReturn =>
    rintro a ⟨hlo, hhi⟩
    rw [State.rd_opVinReturn hphase hcause x hlo, State.rd_powerOn_flt hlo hhi, State.draw_fuse]
  case overtemp =>
    rintro a ⟨hlo, hhi⟩
    rw [State.rd_opOvertempResume hphase hcause hcool x hlo, State.rd_powerOn_flt hlo hhi, State.draw_fuse]

end Sys2Proof.Machine
end
